-- ==== Sys2Proof/Word.lean ====
section
/-!
DEFINITION. The word types of the model: bytes, register words, scalar words, and the chip-level index types.
00_scope.md R4 (bit 0 least significant, little-endian), 03_bundles.md R71 (register widths).
-/
namespace Sys2Proof

/-- One byte. -/
abbrev Byte := BitVec 8
/-- One register word of a page (14_pages.md R503). -/
abbrev Word := BitVec 32
/-- One scalar or address register (03_bundles.md R71). -/
abbrev Dword := BitVec 64
/-- A core of the chip, C0 to C3 (02_chip.md R57). -/
abbrev CoreId := Fin 4
/-- A fabric port, P0 to P11 (02_chip.md R57). -/
abbrev PortId := Fin 12
/-- A context, and the virtual function that owns it (13_partitions.md R475). -/
abbrev CtxId := Fin 64
/-- A physical chip number, or a multicast group (01_machine.md R32, 09_weave.md R330). -/
abbrev Pcn := BitVec 12
/-- The 512 lanes of a vector register (03_bundles.md R71). -/
abbrev Lanes := Vector Word 512

end Sys2Proof
end

