-- ==== Sys2Proof/Syntax.lean ====
section
/-!
DEFINITION. The commands of the block: one constructor of Instr per row of spec/opcode_table.json, in the table's order,
with the operands that the row's rule gives it. A slot operation carries the fields of its slot's layout
(03_bundles.md R80, R94, R99, R101, R103, R105, R108); an access carries its path (14_pages.md R507); an event carries
what only its environment knows.
-/
namespace Sys2Proof.Machine

/-- The status codes of 00_scope.md R8. -/
inductive Status where
  | ok | busy | notReady | timeout | aborted | resetNack | contractFault | eccFatal | locked | mismatch | noSpace
  | readOnly | authFail | param
  deriving DecidableEq, Repr

end Sys2Proof.Machine

namespace Sys2Proof

/-- The path of a register access, 14_pages.md R507. -/
inductive Path where
  | pf
  | mgmt
  | vf (n : CtxId)
  | fw
  deriving DecidableEq, Repr

/-- The seven slots of a bundle, 03_bundles.md R77. -/
inductive SlotId where
  | s0 | s1 | b | v | m | d | x
  deriving DecidableEq, Repr

/-- The common frame of a slot (03_bundles.md R80), the core that issues it, and whether it is the last slot operation of
its bundle. -/
structure Frame where
  core : CoreId
  pred : BitVec 4
  pneg : Bool
  pen  : Bool
  eob  : Bool
  deriving DecidableEq, Repr

/-- Fields of a scalar slot, 03_bundles.md R99; `s1` tells scalar unit 1 from scalar unit 0. -/
structure ScalarF where
  s1     : Bool
  dst    : BitVec 6
  srca   : BitVec 6
  srcb   : BitVec 6
  areg   : BitVec 4
  immsel : Bool
  imm    : Dword
  deriving DecidableEq, Repr

/-- Fields of the branch slot, 03_bundles.md R94. -/
structure BranchF where
  srca   : BitVec 6
  target : BitVec 11
  link   : BitVec 6
  deriving DecidableEq, Repr

/-- Fields of the vector slot, 03_bundles.md R101. -/
structure VecF where
  vd   : BitVec 5
  va   : BitVec 5
  vb   : BitVec 5
  vc   : BitVec 5
  vm   : BitVec 5
  men  : Bool
  ss   : BitVec 6
  fmt  : BitVec 2
  areg : BitVec 4
  imm8 : BitVec 8
  deriving DecidableEq, Repr

/-- Fields of the matrix slot, 03_bundles.md R103. -/
structure MatF where
  ibase : BitVec 10
  arow  : BitVec 6
  count : BitVec 8
  ifmt  : BitVec 4
  wfmt  : BitVec 4
  acc   : Bool
  wrow  : BitVec 9
  deriving DecidableEq, Repr

/-- Fields of the data-mover slot, 03_bundles.md R105. -/
structure MovF where
  ts     : BitVec 6
  td     : BitVec 6
  port   : BitVec 4
  path   : BitVec 10
  engine : BitVec 2
  ibase  : BitVec 11
  nblk   : BitVec 6
  deriving DecidableEq, Repr

/-- Fields of the extended slot, 03_bundles.md R108. -/
structure ExtF where
  sa   : BitVec 6
  sb   : BitVec 6
  sc   : BitVec 6
  sd   : BitVec 6
  vd   : BitVec 5
  va   : BitVec 5
  th   : BitVec 6
  id   : BitVec 12
  mode : BitVec 4
  tgt  : BitVec 11
  imm8 : BitVec 8
  deriving DecidableEq, Repr

/-- A flit: the header fields of 09_weave.md R330 (HCRC is recomputed at each hop and held nowhere) and its payload bytes. -/
structure Flit where
  vc      : BitVec 2
  mc      : Bool
  last    : Bool
  src     : Pcn
  dst     : Pcn
  dcore   : BitVec 2
  bslot   : BitVec 8
  fidx    : BitVec 12
  part    : BitVec 12
  path    : BitVec 10
  lseq    : BitVec 16
  eng     : BitVec 16
  payload : List Byte
  deriving DecidableEq, Repr

/-- How a read crossed the DRAM link: clean, after one retry, or not at all (06_tiers.md R195). -/
inductive LinkRead where
  | clean | recovered | failed
  deriving DecidableEq, Repr

/-- What a BAR access does: read `n` bytes, which cross the DRAM link as `link` says where they lie in DRAM, or write the bytes
given (14_pages.md R509; 06_tiers.md R195). -/
inductive BarAcc where
  | read (n : Nat) (link : LinkRead)
  | write (data : List Byte)
  deriving DecidableEq, Repr

/-- The memories that carry ECC, 05_buffers.md R173 and R188 (MEM codes of CMEM_LAST_ERR). -/
inductive MemId where
  | cmem (c : CoreId) | min (c : CoreId) | acc (c : CoreId) | vec (c : CoreId) | stg (c : CoreId) | imem (c : CoreId)
  | xmem
  deriving DecidableEq, Repr

/-- One finding of a scrub read: the word at byte address `addr` of a memory, corrected or uncorrectable; `raced` says
that a write to the word was granted before scrub's write-back (05_buffers.md R175, R176). -/
structure Finding where
  mem   : MemId
  addr  : Nat
  ue    : Bool
  raced : Bool
  deriving DecidableEq, Repr

/-- A row of memory that can be darned: a bank and a row of XMEM, or of a core's CMEM (05_buffers.md R178). -/
structure RowId where
  core : Option CoreId
  bank : Nat
  row  : Nat
  deriving DecidableEq, Repr

/-- What the media did while a tier descriptor ran: the numbers of the tiles whose DRAM read failed link ECC twice, and of those
whose retry succeeded (06_tiers.md R195), and of those whose NAND read stayed uncorrectable after its retries (R233), within the
descriptor. -/
structure MediaEnv where
  linkUe  : List Nat
  mediaUe : List Nat
  linkCe  : List Nat
  deriving DecidableEq, Repr

/-- How the read of a tile crossed the DRAM link. -/
def MediaEnv.link (env : MediaEnv) (tile : Nat) : LinkRead :=
  if env.linkUe.contains tile then .failed else if env.linkCe.contains tile then .recovered else .clean

/-- The failures that a link's receiver counts, 09_weave.md R312; `corrected` is a corrected codeword (R306). -/
inductive RxFault where
  | codeword | hcrc | word | corrected
  deriving DecidableEq, Repr

/-- A press tile as reassembled from its 17 flits, 11_press.md R412: the port it came in on and its multicast group with
it. -/
structure PressTile where
  port  : PortId
  group : BitVec 12
  src   : Pcn
  coord : Pcn
  model : BitVec 4
  part  : BitVec 12
  side  : List Byte
  data  : List Byte
  deriving DecidableEq, Repr

/-- Results of a re-derivation (18_access.md R651): per port the preset with the fewest corrected codewords (none when it
trained with no preset), per lamp its trim. -/
structure Derived where
  presets : List (Nat × Option (BitVec 8))
  trims   : List (Nat × BitVec 32)
  deriving DecidableEq, Repr

/-- A rack manager, 01_machine.md R51. -/
inductive Mgr where
  | a | b
  deriving DecidableEq, Repr

/-- Where a tray stands (01_machine.md R32): the rack's type and index, and the tray's position by the geographic address pins
of its slot. -/
structure Seat where
  fr32h : Bool
  rack  : BitVec 7
  tray  : BitVec 5
  deriving DecidableEq, Repr

/-- What the chip's straps, fuses and boot devices hold when PERST_N rises (16_reset.md R587, 19_signals.md R663): the
address strap, the reference; the rows darned by fuse and the banks and cores that fuses map out (05_buffers.md R179, R188,
R189); the XMEM banks that fail the bond test, and whether the repair page can be written (R184, R186); whether the Shelf's
metadata say READ_ONLY_PRESERVE; and the calibration page when its magic, serial and CRC check (18_access.md R648): its factory
flags and its items by 256 times section plus index. -/
structure BootEnv where
  smbAddr0  : Bool
  refclk    : Bool
  fuseRows  : List RowId
  fuseBanks : List (Fin 512)
  fuseCores : BitVec 4
  bankFail  : List Nat
  repairOk  : Bool
  roPreserve : Bool
  cal       : Option (BitVec 6 × List (Nat × Word))
  deriving DecidableEq, Repr

/-- The commands of the block, one constructor per row of spec/opcode_table.json. -/
inductive Instr where
  -- register pages and BARs (14_pages.md)
  | registerWrite (path : Path) (page off : BitVec 12) (be : BitVec 4) (val : Word)
  | commitApply (path : Path) (page : BitVec 12)
  | commitDiscard (path : Path) (page : BitVec 12)
  | commitBad (path : Path) (page : BitVec 12)
  | selWrite (path : Path) (page off : BitVec 12) (val : Word)
  | pageLockSet (path : Path) (page : BitVec 12)
  | chipPcnCommit (path : Path)
  | mboxPost (path : Path)
  | vfFlr (vf : CtxId)
  | pfFlr
  | pfBar2Access (addr : Nat) (acc : BarAcc)
  | pfBar4Access (addr : Nat) (acc : BarAcc)
  | vfBar2Access (vf : CtxId) (addr : Nat) (acc : BarAcc)
  -- slot operations (03_bundles.md)
  | nop (fr : Frame) (slot : SlotId)
  | illegalOpcode (core : CoreId) (bundle : BitVec 1024)
  | add (fr : Frame) (f : ScalarF)
  | sub (fr : Frame) (f : ScalarF)
  | mul (fr : Frame) (f : ScalarF)
  | and (fr : Frame) (f : ScalarF)
  | or (fr : Frame) (f : ScalarF)
  | xor (fr : Frame) (f : ScalarF)
  | shl (fr : Frame) (f : ScalarF)
  | shr (fr : Frame) (f : ScalarF)
  | sar (fr : Frame) (f : ScalarF)
  | cmpeq (fr : Frame) (f : ScalarF)
  | cmplt (fr : Frame) (f : ScalarF)
  | cmpltu (fr : Frame) (f : ScalarF)
  | movi (fr : Frame) (f : ScalarF)
  | ld (fr : Frame) (f : ScalarF)
  | st (fr : Frame) (f : ScalarF)
  | amov (fr : Frame) (f : ScalarF)
  | aadd (fr : Frame) (f : ScalarF)
  | thset (fr : Frame) (f : ScalarF)
  | plog (fr : Frame) (f : ScalarF)
  | rdtime (fr : Frame) (f : ScalarF)
  | br (fr : Frame) (f : BranchF)
  | brz (fr : Frame) (f : BranchF)
  | brnz (fr : Frame) (f : BranchF)
  | call (fr : Frame) (f : BranchF)
  | ret (fr : Frame) (f : BranchF)
  | loop (fr : Frame) (f : BranchF)
  | halt (fr : Frame) (f : BranchF)
  | vadd (fr : Frame) (f : VecF)
  | vsub (fr : Frame) (f : VecF)
  | vmul (fr : Frame) (f : VecF)
  | vfma (fr : Frame) (f : VecF)
  | vmax (fr : Frame) (f : VecF)
  | vmin (fr : Frame) (f : VecF)
  | vabs (fr : Frame) (f : VecF)
  | vexp (fr : Frame) (f : VecF)
  | vrcp (fr : Frame) (f : VecF)
  | vrsqrt (fr : Frame) (f : VecF)
  | vcmplt (fr : Frame) (f : VecF)
  | vsel (fr : Frame) (f : VecF)
  | vld (fr : Frame) (f : VecF)
  | vst (fr : Frame) (f : VecF)
  | vredsum (fr : Frame) (f : VecF)
  | vredmax (fr : Frame) (f : VecF)
  | vbcast (fr : Frame) (f : VecF)
  | vcvt (fr : Frame) (f : VecF)
  | mload (fr : Frame) (f : MatF)
  | mswap (fr : Frame) (f : MatF)
  | mmul (fr : Frame) (f : MatF)
  | mclr (fr : Frame) (f : MatF)
  | tmov (fr : Frame) (f : MovF)
  | xld (fr : Frame) (f : MovF)
  | xst (fr : Frame) (f : MovF)
  | send (fr : Frame) (f : MovF)
  | recv (fr : Frame) (f : MovF)
  | enq (fr : Frame) (f : MovF)
  | iload (fr : Frame) (f : MovF)
  | iloadBlockValid (core : CoreId) (blk : BitVec 5)
  | rand (fr : Frame) (f : ExtF)
  | sampleBegin (fr : Frame) (f : ExtF)
  | sampleChunk (fr : Frame) (f : ExtF)
  | sampleEnd (fr : Frame) (f : ExtF)
  | scamax (fr : Frame) (f : ExtF) (vfmt : BitVec 2)
  | scupd (fr : Frame) (f : ExtF)
  | scget (fr : Frame) (f : ExtF)
  | optim (fr : Frame) (f : ExtF)
  | coll (fr : Frame) (f : ExtF)
  | flip (fr : Frame) (f : ExtF)
  | yield (fr : Frame) (f : ExtF)
  | wait (fr : Frame) (f : ExtF) (budget : Word)
  | epochw (fr : Frame) (f : ExtF) (budget : Word)
  -- core events
  | waitRelease (core : CoreId)
  | epochRelease (core : CoreId)
  | holdBudgetTimeout (core : CoreId)
  | tagWriteComplete (core : CoreId) (bslot : BitVec 8)
  | tagReadDrain (core : CoreId) (bslot : BitVec 8)
  | breakpointHalt (core : CoreId)
  | haltReq (path : Path) (core : CoreId)
  | coreStep (path : Path) (core : CoreId)
  | countClr (path : Path) (core : CoreId)
  -- on-chip memory (05_buffers.md)
  | xcacheCommit (path : Path)
  | xcacheDrainDone
  | xcacheInitDone
  | scrubPass (domain : Option CoreId) (found : List Finding)
  | darn (row : RowId) (repairOk : Bool)
  | bankMappedOut (bank : Fin 512) (repairOk : Bool)
  | coreMappedOut (core : CoreId) (bank : Fin 16) (repairOk : Bool)
  | cmemBistStart (path : Path) (core : CoreId)
  | cmemBistDone (core : CoreId) (failed : List RowId) (bufFailed : Bool)
  | xmemBistStart (path : Path) (seg : BitVec 7)
  | xmemBistDone (failed : List RowId)
  -- tier controller and Shelf (06_tiers.md)
  | move (q : Fin 5) (env : MediaEnv) (pf : Option (List Byte))
  | prefetch (q : Fin 5) (env : MediaEnv)
  | clean (q : Fin 5) (env : MediaEnv)
  | flush (q : Fin 5) (env : MediaEnv)
  | discard (q : Fin 5)
  | rget (q : Fin 5)
  | rput (q : Fin 5) (env : MediaEnv)
  | tierDescComplete (q : Fin 5)
  | readReq (src : Pcn) (part : BitVec 12) (addr : Dword) (tag : BitVec 16) (side : Bool) (link : LinkRead)
  | readData (part : BitVec 12) (tag : BitVec 16) (status : Machine.Status) (side data : List Byte)
  | writeData (src : Pcn) (part : BitVec 12) (addr : Dword) (tag : BitVec 16) (side data : List Byte)
  | writeAck (part : BitVec 12) (tag : BitVec 16) (status : Machine.Status)
  | remoteTimeout (tag : BitVec 16)
  | tierShadowCommit (path : Path)
  | shadowReleased (entry : Fin 16)
  | shelfNsCommit (path : Path)
  | nsUnmapDone (ns : Fin 64)
  | garbageCollect
  | patrolRead (blk : Nat) (ldpcPercent : Nat) (bad : List Nat)
  | blockRetired (blk : Nat) (progUs : BitVec 16)
  -- scale, optimizer, Spin (07_numerics.md, 08_spin.md)
  | scaleCommit (path : Path)
  | optimCommit (path : Path)
  | sourceFail (src : Fin 8) (raw : List Bool)
  | sourceRestart (src : Fin 8)
  | seed (path : Path)
  | save (path : Path)
  | restore (path : Path)
  | spinActionDone (raw : List Byte) (link : LinkRead)
  -- links and the weave (09_weave.md)
  | linkEnable (path : Path) (p : PortId)
  | linkDisable (path : Path) (p : PortId)
  | linkRetrain (path : Path) (p : PortId)
  | linkCtrlCommit (path : Path) (p : PortId)
  | signalDetect (p : PortId)
  | trainLock (p : PortId)
  | ident (p : PortId) (arg : BitVec 48)
  | ready (p : PortId)
  | marker (p : PortId) (arg : BitVec 48)
  | echo (p : PortId) (arg : BitVec 48) (sub : BitVec 8)
  | pinResult (p : PortId) (lmeas : BitVec 10)
  | pinDone (p : PortId)
  | time (p : PortId) (stamp : Dword) (masterPcn : Pcn)
  | peerRetrain (p : PortId) (cause : Byte)
  | trainTimeout (p : PortId)
  | los (p : PortId)
  | drift (p : PortId) (ticks : Int)
  | fecUncorrectable (p : PortId) (kind : RxFault)
  | controlWord (p : PortId) (w : BitVec 128)
  | nak (p : PortId) (ackSeq : BitVec 16)
  | slotTransmit (p : PortId)
  | vc0FlitArrival (p : PortId) (f : Flit) (slot : Dword)
  | epochBoundary (deciW : BitVec 12)
  | weaveLoadCommit (path : Path)
  | tableLoadDone (link : LinkRead)
  | masterWrite (path : Path) (v : Bool)
  | refChange (path : Path) (src : Bool)
  -- Mangle (10_mangle.md)
  | mangleDescCommit (path : Path)
  | mangleGroupCommit (path : Path)
  | mangleUpFlit (sender : Nat) (f : Flit)
  | mangleDownFlit (sender : Nat) (f : Flit)
  | done (sender : Nat) (f : Flit)
  | finish (sender : Nat) (f : Flit)
  | abort (sender : Nat) (f : Flit)
  | collDeadline (core : CoreId) (grp : BitVec 6)
  | abortWindowEnd (core : CoreId) (grp : BitVec 6)
  -- press, hanger, rings (11_press.md)
  | press (q : Fin 5) (env : MediaEnv)
  | cancel (q : Fin 5)
  | pressTile (t : PressTile)
  | arm (port : PortId) (group : BitVec 12) (part : BitVec 12) (model : BitVec 4) (version : Word) (epoch : Dword)
  | pressCtrlCancel (port : PortId) (group : BitVec 12) (part : BitVec 12) (model : BitVec 4) (version : Word)
      (cause : Byte)
  | ackReady (src : Pcn) (part : BitVec 12) (model : BitVec 4) (version : Word)
  | pressNack (src : Pcn) (part : BitVec 12) (model : BitVec 4) (version : Word) (cause : Byte)
  | pressDeadline (q : Fin 5)
  | hangerSettle (model : BitVec 4)
  | hangerCommit (path : Path)
  | pressMcCommit (path : Path)
  | push (core : CoreId)
  | pop (core : CoreId)
  | popDeadline (core : CoreId)
  | ringRec (src : Pcn) (part : BitVec 12) (ring : BitVec 6) (bytes : List Byte)
  | creditReq (src : Pcn) (part : BitVec 12) (ring : BitVec 6) (rank : BitVec 16)
  | credit (src : Pcn) (ring : BitVec 6) (lane : BitVec 16) (rank : BitVec 16) (count : Word)
  | ringNack (src : Pcn) (ring : BitVec 6) (rank : BitVec 16)
  | creditReturn (src : Pcn) (part : BitVec 12) (ring : BitVec 6) (lane : BitVec 16) (rank : BitVec 16) (count : Word)
  | xringCommit (path : Path)
  -- serving (12_serving.md)
  | gather (core : CoreId)
  | gatherResume (core : CoreId) (env : MediaEnv)
  | gatherDeadline (core : CoreId)
  | patchInstanceCommit (path : Path)
  | patchEntryCommit (path : Path)
  -- partitions, contexts, queues (13_partitions.md)
  | partCoreCommit (path : Path)
  | coreWipeDone (core : CoreId)
  | grant (path : Path)
  | release (path : Path)
  | zeroFillDone (seg : Fin 128)
  | evictCommit (path : Path)
  | evictDone
  | evictForced
  | ctxBindCommit (path : Path) (ctx : CtxId)
  | ctxQueueCommit (path : Path) (ctx : CtxId)
  | sqDoorbell (path : Path) (ctx : CtxId) (tail : BitVec 9)
  | cqDoorbell (path : Path) (ctx : CtxId) (head : BitVec 9)
  | sqFetch (ctx : CtxId)
  | loadImem (ctx : CtxId)
  | start (ctx : CtxId)
  | engine (ctx : CtxId)
  | batch (ctx : CtxId)
  | copy (ctx : CtxId)
  -- clocks, power, temperature (15_clocks_power.md)
  | clkGearCommit (path : Path)
  | gear (part : BitVec 12) (payload : List Byte)
  | gearPause (voltReady : Bool)
  | gearRestart (lockOffset : Nat)
  | pwrCapCommit (path : Path)
  | avsStep (core : CoreId) (up : Bool)
  | avsLimit (core : CoreId)
  | droop
  | thermalSample (readings : List Int) (trimBad : List Bool)
  | pwrfail
  | powerFailSequenceDone (us : BitVec 16) (linted : Bool)
  | powerReturnDuringShutdown
  | railLow
  | refclkLoss
  | pwrPeakClr (path : Path)
  | thermPeakClr (path : Path)
  -- resets and firmware (16_reset.md)
  | coldReset (env : BootEnv)
  | warmReset
  | coreReset (mask : BitVec 4)
  | portReset (mask : BitVec 12)
  | tierReset
  | mgmtCoreReset
  | mangleReset
  | resetExit (domain : BitVec 8)
  | trialWatchdog
  | tierSwapRequest (image : List Byte)
  | fwSwap
  | swapRevert
  -- Lint (17_lint.md)
  | lintAccept (page : BitVec 12) (upset : List Nat)
  | lintMirror (upset : List Nat)
  | lintShelfReady (bad : List Nat)
  | lintRdSelWrite (path : Path) (val : Word) (upset : Bool)
  | lintClear (path : Path)
  | lastgaspAck (path : Path)
  | lintsnapCommit (path : Path)
  -- management, access, calibration, lamps (18_access.md)
  | read (tag : Byte) (page off : BitVec 16) (count : Byte)
  | write (tag : Byte) (page off : BitVec 16) (count : Byte) (data : List Word)
  | reset (tag : Byte) (domain : Byte) (arg : Word)
  | imgErase (tag : Byte) (image : Byte)
  | imgEraseDone
  | imgWrite (tag : Byte) (image : Byte) (off : Word) (data : List Byte)
  | imgRead (tag : Byte) (image : Byte) (off : Word) (count : Byte)
  | memRead (tag : Byte) (core space : Byte) (off : Dword) (count : Byte)
  | smbusReset
  | smbusDead
  | smbusBack
  | quiesceEnter
  | quiesceStuck
  | quiesceExit
  | openPw (path : Path)
  | chal (path : Path) (raw : List Byte)
  | resp (path : Path)
  | nonceExpiry
  | close (path : Path)
  | calCommit (path : Path)
  | calWrite (ok : Bool)
  | calDerive (path : Path) (val : Word)
  | deriveDone (res : Derived)
  | lampCommit (path : Path)
  | lampFault (lamp : Fin 2) (short : Bool)
  -- the rack (01_machine.md)
  | governorRedistribute (caps reports : List (Nat × Nat))
  | capDecreaseTimeout (chip : Fin 64)
  | busbarOverload (deciW : Nat)
  | tcCommandSilence
  | managerActive (m : Mgr) (inForce : List Nat)
  | fanFailure (failed : Nat)
  | inletTemperature (quarterC : Int)
  | tcStart (claimed : Bool) (seat : Seat)
  | leaseRenew (direct network : Bool)
  | leaseSelfStop
  | leaseTakeover (m : Mgr) (portsDropped : Bool)
  | higherTerm (m : Mgr) (term : Dword)
  -- further events
  | perstNAssert
  | pwrfailNReturn
  | refclkReturn
  | sourceStartupPass (src : Fin 8) (raw : List Bool)
  | trialConfirm
  | lintMirrorEnd (fail : Option Machine.Status)
  | copyDone (ctx : CtxId) (link : LinkRead)
  | stretchEnd (cycles : Nat)
  deriving DecidableEq, Repr

end Sys2Proof
end

