-- ==== Sys2Proof/Config.lean ====
section
/-!
DEFINITION. What an implementation fixes and the spec leaves open: free values, each a constant without a body, so that no
proof can lean on a value of it.
-/
namespace Sys2Proof.Config

/-- Which of the FP32 values within 1 ulp of the exact result VEXP, VRCP and VRSQRT give for an input: a fixed function of
the input (07_numerics.md R257; log 10). -/
opaque vexpPick : Word → Nat
opaque vrcpPick : Word → Nat
opaque vrsqrtPick : Word → Nat

/-- What VCVT leaves where 07_numerics.md states no value: an element of no INT32 value unpacked to INT32, by its format
code and bits; a BF16 element beyond the FP32 elements of a register. And bits [63:32] of a vector reduction's scalar, by
bits [31:0] (03_bundles.md R101; log 13). -/
opaque vcvtInt : (code elem : Nat) → Word
opaque vcvtBeyond : Nat → BitVec 16
opaque reduceHigh : Word → Word

/-- Which of the FP32 values within 1 ulp of the exact result the radius and the cosine of TRANSFORM are: fixed functions of
their input (08_spin.md R297; log 11). -/
opaque spinRadiusPick : Word → Nat
opaque spinCosPick : Word → Nat

/-- What SAMPLE leaves open (03_bundles.md R114; log 12): which of two scores is the lesser where one of them has no value, or
they lie closer than the model tells apart; which of the prefixes that may reach p is taken, and the prefix of a row whose
probabilities have no value; which of the FP32 values within 1 ulp the log-probability is, and the log-probability where the
distribution has no value. -/
opaque sampleLess : (temp logitA drawA logitB drawB : Word) → Bool
opaque samplePrefix : (temp : Word) → (row cands : List Word) → (p : Word) → Nat
opaque sampleLogPick : (temp : Word) → (logit : Word) → (among : List Word) → Nat
opaque sampleLogProb : (temp : Word) → (logit : Word) → (among : List Word) → Word

/-- The block scale and the code that OPTIM stores where a moment of the block is NaN, or its ratio to the scale is not
finite: 07_numerics.md R267 states none (log 21). -/
opaque momentScale : List Word → Word
opaque momentCode : (moment scale : Word) → BitVec 8

/-- Where the member of a partition rank lies: its chip and core. 10_mangle.md does not say how Mangle learns it (log 22). -/
opaque memberPcn : (part rank : Nat) → Pcn
opaque memberCore : (part rank : Nat) → CoreId

/-- Whether a consumer's ring has policy HOLD, as its producers take it: 11_press.md does not say how a producer engine
learns it (log 23). -/
opaque ringHolds : Pcn → BitVec 6 → Bool

/-- A fresh 32-bit value of the entropy source, by the counter that names it (08_spin.md R282, R641; log 14). -/
opaque freshWord : Nat → Word

/-- The magic value of a mirror image's header tile: 17_lint.md R615 names it and gives no number (log 31). -/
opaque lintMagic : Nat

/-- The live calibration items that the boot ROM gives while the page does not check, by 256 times section plus index:
18_access.md R648 states no value (log 32). -/
opaque calDefault : Nat → Word

/-- The public keys in fuses, affine coordinates (16_reset.md R589; 18_access.md R641; log 15). -/
opaque bootKeyX : Nat
opaque bootKeyY : Nat
opaque debugKeyX : Nat
opaque debugKeyY : Nat

end Sys2Proof.Config
end

