-- ==== Sys2Proof/Machine/State.lean ====
section
/-!
DEFINITION. The state of the block as plain data, the faults and refusals of a step, and the state after reset.
Every register of a page is one word of `regs`, named by page, index and offset (Machine/Regs.lean gives each its field
names, access codes and reset values); what the spec gives the part beside its register pages has a field of its own.
-/
namespace Sys2Proof.Machine

/-- Why a step stops with a fault. -/
inductive Fault where
  /-- Raised by a command whose operands name what the part does not have (WellFormed refuses such a command); safe: the
  part cannot receive it. -/
  | badOperand
  deriving DecidableEq, Repr

/-- Why a step is refused. -/
inductive Refusal where
  /-- Raised by an arm of exec that has no meaning yet; safe: nothing can be proved of it. -/
  | notModelled (mnemonic : String)
  deriving DecidableEq, Repr

/-- A memory: address and byte pairs in canonical form (Laws/Sparse.lean); an unlisted address reads as the memory's fill
byte (log 7). -/
abbrev Mem := List Host.Cell

/-- Register words by key, in canonical form: keys strictly rising, none equal to its reset value (Machine/Regs.lean). -/
abbrev RegFile := List (Nat × Word)

/-- States of a core, 03_bundles.md R117. -/
inductive CoreSt where
  | stopped | running | waiting | debugHalt | faulted
  deriving DecidableEq, Repr

/-- Tags of a buffer slot, 04_contract.md R142. -/
inductive Tag where
  | empty | filling | full | draining
  deriving DecidableEq, Repr

/-- A register that an operation names as its destination (03_bundles.md R87). -/
inductive Dst where
  | s (i : BitVec 6) | a (i : BitVec 4) | v (i : BitVec 5) | p (i : BitVec 4) | t (i : BitVec 6)
  deriving DecidableEq, Repr

/-- What an operation in flight does when it lands. -/
inductive Land where
  | regS (i : BitVec 6) (x : Dword)
  | regA (i : BitVec 4) (x : Dword)
  | regV (i : BitVec 5) (x : Lanes) (mask : Option Lanes)
  | regP (i : BitVec 4) (x : Bool)
  | regT (i : BitVec 6) (x : BitVec 128)
  | mem (space : BitVec 4) (addr : Nat) (data : List Byte)
  | xmem (addr : Nat) (data : List Byte)
  | full (slot : BitVec 8)
  | empty (slot : BitVec 8)
  | fail (slot : BitVec 8) (st : Status)
  | block (b : BitVec 5) (data : List Byte)
  | plane (row : Nat) (data : List Byte)
  | swap
  | scale (slot : Nat) (x : Word)
  | accRow (row : Nat) (x : List Word) (add : Bool)
  | amax (slot : Nat) (m : Word) (nonfinite : Nat)
  deriving DecidableEq, Repr

/-- An effect in flight: it lands at cycle `due` of the core; `op` names the operation it belongs to, eight times its cycle of
issue plus its slot, and `pc` the bundle. -/
structure Flight where
  due  : Nat
  op   : Nat
  pc   : BitVec 11
  what : Land
  deriving DecidableEq, Repr

/-- The bank classes of 04_contract.md R134, in their order of grant. -/
inductive BankClass where
  | xldLand | tmov | vec | xstSend | narrow
  deriving DecidableEq, Repr

/-- The CMEM accesses still to come of one operation: the banks that each wants, in order, the next of them at cycle
`want` (04_contract.md R132, R135). -/
structure Access where
  op    : Nat
  cls   : BankClass
  want  : Nat
  banks : List (BitVec 16)
  deriving DecidableEq, Repr

/-- A 2,048-byte access still to come at a core's XMEM port: its operation, the FCLK of the chip in which it is wanted, and its
segment (04_contract.md R139). -/
structure Beat where
  op   : Nat
  want : Nat
  seg  : Nat
  deriving DecidableEq, Repr

/-- Units whose occupancy an operation holds, 04_contract.md R126. -/
inductive Unit' where
  | s0 | s1 | v | mload | mcomp | d | x
  deriving DecidableEq, Repr

/-- What a fault records, 03_bundles.md R88-R90. -/
structure FaultRec where
  status : Status
  reason : BitVec 8
  slot   : BitVec 3
  deriving DecidableEq, Repr

/-- A flit queued for VC0 with the operation that sent it, and the CCLK of the chip at whose beginning it is ready
(09_weave.md R339). -/
structure TxFlit where
  flit  : Flit
  op    : Nat
  ready : Nat
  deriving DecidableEq, Repr

/-- A RECV armed on a port, 03_bundles.md R105, 09_weave.md R332. -/
structure Recv where
  port  : PortId
  bslot : BitVec 8
  base  : Nat
  rows  : Nat
  rowBytes : Nat
  stride : Nat
  deriving DecidableEq, Repr

/-- A flit held in the mover staging buffer on its way to CMEM, 04_contract.md R137, R138. -/
structure Staged where
  addr : Nat
  data : List Byte
  last : Option (BitVec 8)
  deriving DecidableEq, Repr

/-- One Spin lane: the four words of xoshiro256**, 08_spin.md R284. -/
structure Lane where
  s0 : Dword
  s1 : Dword
  s2 : Dword
  s3 : Dword
  deriving DecidableEq, Repr

/-- One presented logit of a SAMPLE row: its token, its value as FP32, and its draw when one was made in CHUNK
(03_bundles.md R113, R114). -/
structure Logit where
  token : Nat
  value : Word
  draw  : Option Word
  deriving DecidableEq, Repr

/-- The SAMPLE sequence of a core, 03_bundles.md R113. -/
structure Sample where
  begun : Bool
  temp  : Word
  topK  : Nat
  topP  : Word
  rows  : Nat
  next  : Nat
  seen  : List (List Logit)
  deriving DecidableEq, Repr

/-- A buffer slot: tag, remaining reads and reads under way, and the declaration the running program started with
(04_contract.md R142, R153, R154); `err` is the status recorded against it (06_tiers.md R209). -/
structure BSlot where
  tag   : Tag
  rc    : BitVec 8
  out   : Nat
  reads : BitVec 8
  err   : Option Status
  deriving DecidableEq, Repr

/-- Where a branch unit operation leads after its two delay bundles, 03_bundles.md R91. -/
inductive BrTo where
  | fall | goto (pc : BitVec 11) | halt
  deriving DecidableEq, Repr

/-- Engine queues that ENQ names, 03_bundles.md R105. -/
inductive EngineId where
  | tier | ring | press | patch
  deriving DecidableEq, Repr

/-- A descriptor of a chip engine: its 64 bytes, who issued it, and how far it has come. `life` is the issuing core's
reset count (16_reset.md R585); `wt` is WT at issue; `n` and `m` count progress (tiles moved, records taken, step
latched); `verF` and `verL` are a push's stamps (11_press.md R425); `acks` are a coordinator's (R418); `err` is the status of the lowest
remote tile that failed, `fail` (06_tiers.md R215), and `env` what the DRAM reads of a remote descriptor meet; `out` says behind how
many flits of a port's VC1 the last flit of a press or push waits to be sent (11_press.md R418, R427). -/
structure Desc where
  raw    : List Byte
  core   : Option CoreId
  ctx    : Option CtxId
  sqIdx  : BitVec 9
  slot   : Option (BitVec 8)
  life   : Nat
  part   : BitVec 12
  wt     : Dword
  begun  : Bool
  paused : Bool
  result : Option Status
  fail   : Nat
  n      : Nat
  verF   : Word
  verL   : Word
  acks   : List Pcn
  cause  : BitVec 8
  err    : Option Status
  env    : MediaEnv
  out    : List (PortId × Nat)
  deriving DecidableEq, Repr

/-- A descriptor as it is submitted: nothing of it is done. -/
def Desc.new (raw : List Byte) (core : Option CoreId) (ctx : Option CtxId) (sqIdx : BitVec 9) (slot : Option (BitVec 8)) (life : Nat)
    (part : BitVec 12) (wt : Dword) : Desc :=
  { raw := raw, core := core, ctx := ctx, sqIdx := sqIdx, slot := slot, life := life, part := part, wt := wt, begun := false,
    paused := false, result := none, fail := 0, n := 0, verF := 0, verL := 0, acks := [], cause := 0, err := none,
    env := ⟨[], [], []⟩, out := [] }

/-- An effect of a slot operation that takes place when its bundle issues without a fault. -/
inductive Eff where
  | land (latency : Nat) (w : Land)
  | banks (cls : BankClass) (first : Nat) (b : List (BitVec 16))
  | busy (u : Unit') (cycles : Nat)
  | tagWrite (slot : BitVec 8)
  | tagRead (slot : BitVec 8)
  | branch (dest : BrTo)
  | yieldTo (pc : BitVec 11)
  | send (port : PortId) (flits : List Flit)
  | recv (r : Recv)
  | enq (e : EngineId) (d : Desc)
  | blocksInvalid (first n : Nat)
  | lanes (l : List (Nat × Lane))
  | drawOp
  | sample (x : Sample)
  | scupd (slot : Nat)
  | saturated (n : Nat)
  | gradNonfinite (n : Nat)
  | coll (desc : Nat) (th : BitVec 6)
  | flip (model : BitVec 4)
  | beats (first : Nat) (segs : List Nat)
  | ues (mem : MemId) (words : List Nat)
  | eccStop
  deriving DecidableEq, Repr

/-- The bundle that a core is issuing: the slots seen, the destinations named, the effects gathered and the first fault
in the order of 03_bundles.md R89. -/
structure Bundle where
  opened : Bool
  dests  : List (Nat × Dst)
  effs   : List (Nat × Eff)
  fault  : Option (Nat × FaultRec)
  deriving DecidableEq, Repr

/-- What a held bundle waits for, 03_bundles.md R83. -/
inductive HoldFor where
  | slot (b : BitVec 8) | epoch (e : Nat)
  deriving DecidableEq, Repr

/-- A held WAIT or EPOCH bundle; `ticks` and `cclk` count its hold, `sd` is the destination of EPOCHW. -/
structure Held where
  what   : HoldFor
  budget : Nat
  ticks  : Nat
  cclk   : Nat
  sd     : Option (BitVec 6)
  eob    : Bool
  deriving DecidableEq, Repr

/-- One core with its memories (03_bundles.md R71, 05_buffers.md R157). `start` is the CCLK of the chip in which CYC was 0
(04_contract.md R121); `beats`, `lost` and `took` are its XMEM port: accesses to come, consecutive deferrals, and the last
access granted (R139); `clash` names the bundle and slot of a write that met another in its register (R129); `stepping`
tells the bundle that STEP issues, and `denied` the path of the last CORE_CTRL write that was refused (03_bundles.md
R117-R119). -/
structure Core where
  st      : CoreSt
  pc      : BitVec 11
  start   : Nat
  cyc     : Nat
  s       : Vector Dword 64
  a       : Vector Dword 16
  v       : Vector Lanes 32
  p       : BitVec 16
  t       : Vector (BitVec 128) 64
  flights : List Flight
  access  : List Access
  guard   : Vector Nat 16
  beats   : List Beat
  lost    : Nat
  took    : Option (Nat × Nat)
  clash   : Option (BitVec 11 × Nat)
  busy    : List (Unit' × Nat × Nat)
  br      : Option (Nat × BrTo)
  yld     : Option (Nat × BitVec 11)
  bundle  : Bundle
  held    : Option Held
  slots   : Vector BSlot 256
  imemOk  : BitVec 32
  cmem    : Mem
  min     : Mem
  acc     : Mem
  vec     : Mem
  imem    : Mem
  stg     : Mem
  staging : List Staged
  recvs   : List Recv
  planeA  : List (Nat × List Byte)
  planeS  : List (Nat × List Byte)
  sample  : Sample
  lanes   : List (Nat × Lane)
  owner   : Option CtxId
  evict   : Bool
  wiping  : Bool
  quiet   : Bool
  life    : Nat
  overrun : Bool
  stepping : Bool
  denied  : Option Path
  deriving DecidableEq, Repr

/-- The scale unit's history of one slot, newest entry first (07_numerics.md R259); `core` and `slot` name it. -/
structure ScaleHist where
  core : CoreId
  slot : Nat
  hist : List Word
  deriving DecidableEq, Repr

/-- A logical block of the Shelf that is mapped: data and side record, and whether its codeword is uncorrectable
(06_tiers.md R229, R233). -/
structure ShelfBlk where
  data : List Byte
  side : List Byte
  ue   : Bool
  deriving DecidableEq, Repr

/-- A NAND block of the FTL: erase and read counts, the logical blocks whose valid pages it holds (06_tiers.md R231). -/
structure NandBlk where
  id     : Nat
  erases : Nat
  reads  : Nat
  used   : Nat
  lbas   : List Nat
  deriving DecidableEq, Repr

/-- A remote tile request that awaits its answer, 06_tiers.md R213, R215; `pos` is its descriptor's place in queue `q`. -/
structure Remote where
  tag   : BitVec 16
  q     : Fin 5
  pos   : Nat
  part  : BitVec 12
  tile  : Nat
  write : Bool
  deriving DecidableEq, Repr

/-- The cache region that is being drained, steps and first segment (05_buffers.md R169, R170). -/
structure Xcache where
  oldSteps : Nat
  oldBase  : Nat
  deriving DecidableEq, Repr

/-- The tier controller and the Shelf beside their pages (06_tiers.md). -/
structure Tier where
  queues   : Vector (List Desc) 5
  hold     : List Desc
  swapping : Bool
  remote   : List Remote
  nextTag  : BitVec 16
  poison   : List Nat
  dirty    : List Nat
  shelf    : List (Nat × ShelfBlk)
  wbuf     : List Nat
  prog     : List Nat
  progUs   : List (Nat × Nat)
  nand     : List NandBlk
  wearSeen : Bool
  lowSeen  : Bool
  riskSeen : Bool
  spares   : Nat
  reserve  : Nat
  deriving DecidableEq, Repr

/-- The two continuous health tests of an entropy source, 08_spin.md R280. -/
inductive HealthTest where
  | repetition | proportion
  deriving DecidableEq, Repr

/-- The health tests of an entropy source, 08_spin.md R280: the last raw bit and the length of its run; the first bit of the
window of 1,024, how many bits the window has and how often the first stands in it; the bits tested since the start-up test began. -/
structure Health where
  last  : Option Bool
  run   : Nat
  first : Bool
  seen  : Nat
  hits  : Nat
  total : Nat
  deriving DecidableEq, Repr

/-- Tests that have seen no bit. -/
def Health.fresh : Health := ⟨.none, 0, false, 0, 0, 0⟩

/-- One entropy source, 08_spin.md R280, R281; `testing` says that it runs its start-up test. -/
structure Source where
  healthy : Bool
  testing : Bool
  off     : Bool
  fails   : Nat
  health  : Health
  deriving DecidableEq, Repr

/-- Spin beside its page: the sources, the bits that the conditioner's block holds with their sources (R282), the action in progress with its target cores and their ranks at the request (R292),
and whether the loss of entropy has been logged (R283). -/
structure Spin where
  sources : Vector Source 8
  block   : List (Fin 8 × Bool)
  action  : Option (BitVec 2 × List (CoreId × Nat))
  lost    : Bool
  deriving DecidableEq, Repr

/-- States of a port, 09_weave.md R308. -/
inductive LinkSt where
  | down | train | pin | active | retrain | failed
  deriving DecidableEq, Repr

/-- The peer's IDENT, 09_weave.md R316. -/
structure Ident where
  pcn    : Pcn
  port   : BitVec 4
  lanes  : BitVec 2
  target : BitVec 10
  aligned : Bool
  master : Pcn
  deriving DecidableEq, Repr

/-- A control word that waits to be sent, 09_weave.md R313, R316, R325: a TRAIN word with SUB and ARG, a MARKER, the ECHO of a marker
with its ARG and the time of its delivery, the two words of a TIME. -/
inductive Ctl where
  | train (sub arg : Nat)
  | marker
  | echo (arg : Nat) (got : Dword)
  | timeLow
  | timeHigh
  deriving DecidableEq, Repr

/-- What a lane of a port carries, 09_weave.md R683. -/
inductive LaneOut where
  | idle | prbs31 | fec
  deriving DecidableEq, Repr

/-- One fabric port with its link layer (09_weave.md): training marks, LSEQ and replay buffer (R314, R334), control words
waiting to be sent (R313), the credits held, the flits freed (R315), the VC1 credits withheld (10_mangle.md R384) and the number of
flits ever queued on VC1, VC0 FIFOs per core (R339), queues of VC1-VC3, deficit round robin (R345), slot tables (R341); WT when the end began to serve its time in PIN, the stamp of its TIME and the peer's SUB 0 word with
the time of its delivery (R325); the flits that a replay has put behind, and the share of a flit by which the line has caught up (R307);
the tick of the last slot, and what left in it (R307, R313, R330). -/
structure Port where
  st       : LinkSt
  attempts : Nat
  locked   : Bool
  ident    : Option Ident
  sentRdy  : Bool
  gotRdy   : Bool
  fromDown : Bool
  rounds   : List Nat
  pinned   : Bool
  sentPin  : Bool
  gotPin   : Bool
  timed    : Bool
  laneCfg  : BitVec 2
  presetCfg : BitVec 8
  target   : BitVec 10
  lseqTx   : BitVec 16
  ackRx    : BitVec 16
  nakFor   : Option (BitVec 16)
  nakOut   : Bool
  replay   : List Flit
  resend   : List Flit
  lateRun  : Bool
  faults   : Nat
  faultEp  : Nat
  ctl      : List Ctl
  pinAt    : Option Dword
  stampOut : Dword
  stampIn  : Option (Nat × Dword)
  surplus  : Nat
  txAt     : Option Dword
  wire     : List (List Byte)
  freed    : Vector (BitVec 8) 3
  owed     : BitVec 8
  vc1In    : Nat
  seenCr   : Vector (BitVec 8) 3
  credits  : Vector Nat 3
  vc0      : Vector (List TxFlit) 4
  vcq      : Vector (List Flit) 3
  drrP     : Nat
  drrLeft  : Nat
  weights  : Vector (BitVec 8) 3
  table    : List Byte
  shadow   : List Byte
  deriving DecidableEq, Repr

/-- An armed table load: kind, port and epoch (09_weave.md R353). -/
structure Armed where
  path  : Bool
  port  : Nat
  epoch : Nat
  deriving DecidableEq, Repr

/-- Weave time and tables beside the WEAVE page: WT (R317), the load in progress and the armed table (R341, R353), and
the number of the last epoch whose boundary acted. -/
structure Weave where
  wt       : Dword
  epoch    : Nat
  loading  : Option Armed
  armed    : Option Armed
  shadow   : List (Nat × Dword)
  deriving DecidableEq, Repr

/-- Phases of an outstanding collective: before and after it has sent DONE, or inside an abort window (10_mangle.md R372,
R377). -/
inductive CollPhase where
  | running | sentDone | window
  deriving DecidableEq, Repr

/-- One collective that a member of this chip has outstanding (10_mangle.md R360-R377): its TH handle, the issuing core's
life, partial sums received by chunk and tree level as FP32 pairs, pieces of messages not yet whole by level, chunk and
flit, result chunks held, children whose DONE came. -/
structure Coll where
  core    : CoreId
  grp     : BitVec 6
  desc    : Nat
  th      : BitVec 128
  life    : Nat
  epoch   : Word
  issued  : Dword
  phase   : CollPhase
  cause   : BitVec 4
  origin  : Nat
  dones   : List Nat
  parts   : List (Nat × Nat × List (Word × Word))
  frag    : List (Nat × Nat × Nat × List Byte)
  res     : List Nat
  deriving DecidableEq, Repr

/-- An abort recorded for a member that has not yet issued, 10_mangle.md R380. -/
structure AbortRec where
  core   : CoreId
  grp    : BitVec 6
  epoch  : Word
  cause  : BitVec 4
  origin : Nat
  deriving DecidableEq, Repr

/-- Mangle beside its page: outstanding collectives, the collective epoch of each member (core, group), early flits with
their senders (R384), abort records. -/
structure Mangle where
  colls  : List Coll
  epochs : List ((CoreId × BitVec 6) × Word)
  early  : List (Nat × Flit)
  aborts : List AbortRec
  deriving DecidableEq, Repr

/-- One hanger model beside its page (11_press.md R391-R404): landed tiles, active bank of each core, the bank settled on,
the pending coordinator, span versions, the CCLK in which it last became READY or ARMED (R404). -/
structure Hanger where
  landed : List Nat
  ptr    : BitVec 4
  bank   : Bool
  coord  : Pcn
  span   : Vector Word 4
  readyAt : Option Nat
  deriving DecidableEq, Repr

/-- One lane of a ring: records landed (SEQ of the next) and the SEQ of the next to take, credits granted and not used, the
chip of its producer entry (11_press.md R423-R434). -/
structure RingLane where
  lane    : Nat
  landed  : Nat
  taken   : Nat
  granted : Nat
  src     : Option Pcn
  deriving DecidableEq, Repr

/-- A ring beside its page: its lanes, arrival order, and the lane that ROUND visits next. -/
structure Ring where
  lanes   : List RingLane
  arrival : List (Nat × Nat)
  round   : Nat
  deriving DecidableEq, Repr

/-- A producer entry of the ring engine, 11_press.md R428, R431. -/
structure Producer where
  dest   : Pcn
  ring   : BitVec 6
  rank   : BitVec 16
  lane   : BitVec 16
  opened : Bool
  free   : Nat
  deriving DecidableEq, Repr

/-- Press engine, rings and gather queues: one queue per core, and the press engine's host queue as the fifth. -/
structure Engines where
  press   : Vector (List Desc) 5
  ring    : Vector (List Desc) 4
  patch   : Vector (List Desc) 4
  rings   : List (Nat × Ring)
  prods   : List Producer
  deriving DecidableEq, Repr

/-- A residency slot of a core: the patch it holds, its generation, the last step that named it (12_serving.md R456). -/
structure ResSlot where
  slot : Nat
  id   : Nat
  gen  : Word
  used : Nat
  deriving DecidableEq, Repr

/-- A serving entity of the PATCH page beside its registers: number of posted steps, and per core the steps latched, the table latched and the
resident patches (12_serving.md R445-R456). -/
structure Serving where
  posted  : Nat
  latched : Vector Nat 4
  tables  : Vector (List Byte) 4
  res     : Vector (List ResSlot) 4
  deriving DecidableEq, Repr

/-- An eviction in progress, 13_partitions.md R489-R494. -/
structure Evict where
  cores   : BitVec 4
  epoch   : Nat
  ms      : Nat
  save    : Nat
  pending : Bool
  deriving DecidableEq, Repr

/-- A submission in progress: SQ index, its 64 bytes, and its status once known (13_partitions.md R482). -/
structure Cmd where
  idx    : BitVec 9
  raw    : List Byte
  begun  : Bool
  result : Option Status
  deriving DecidableEq, Repr

/-- A completion that an engine or a core keeps while its context's share of the holding store is full: the entry, and for a core's
descriptor the slot that stays FILLING, its status and the core's life (13_partitions.md R488). -/
structure Kept where
  entry : List Byte
  tag   : Option (CoreId × BitVec 8 × Status × Nat)
  deriving DecidableEq, Repr

/-- A context beside its page: commands in progress, completions in the holding store (64-byte entries without PHASE) and those that
wait for room there, PHASE, and whether an FLR discards its completions (13_partitions.md R487, R488, 14_pages.md R536). -/
structure Ctx where
  cmds  : List Cmd
  held  : List (List Byte)
  kept  : List Kept
  phase : Bool
  flr   : Bool
  deriving DecidableEq, Repr

/-- Clocks, power and temperature beside their pages (15_clocks_power.md): the requested gear, the boundary of the pending
command and whether its refusal is logged (R547, R551), gears of the voltage and thermal limits, limits scheduled for the
next boundary, the target of a lowered cap with its boundary and the gear that puts it in force (R559), the gear of the
running epoch, the last boundary decided, the pause with its start and the total paused in 84ths of a tick (R552, R553),
the anchor of the frame grid in ticks, the CCLK that have passed (04_contract.md R121, R150), runs of epochs, relays made. -/
structure Clock where
  reqGear   : Nat
  pendE     : Nat
  pendLogged : Bool
  limLogged : Bool
  voltGear  : Nat
  voltNext  : Option Nat
  thGear    : Nat
  thNext    : Option Nat
  capNext   : Option Nat
  capDec    : Option (Nat × Nat)
  capForce  : Option Nat
  runGear   : Nat
  decided   : Nat
  paused    : Bool
  nextGear  : Nat
  anchor    : Int
  cclk      : Nat
  pausedAt  : Nat
  pause84   : Nat
  overRun   : Nat
  coolRun   : Nat
  voltRun   : Nat
  stretched : Bool
  relayed   : List (Nat × Nat)
  failQueued : Bool
  perstQueued : Bool
  deriving DecidableEq, Repr

/-- Levels of the sideband pins as the chip has accepted or drives them (19_signals.md R662). -/
structure Pins where
  perstLow    : Bool
  pwrfailLow  : Bool
  quiesceLow  : Bool
  thermtrip   : Bool
  bootAlert   : Bool
  refclk      : Bool
  deriving DecidableEq, Repr

/-- Reset domains in reset, 16_reset.md R575, with the cause of each by domain and unit (R581); requests of the management
path that wait for the end of a gear pause (R580) or for their units to leave reset (R579), and what is decided to follow at
the end of a pause. -/
structure Resets where
  cold   : Bool
  warm   : Bool
  core   : BitVec 4
  port   : BitVec 12
  tier   : Bool
  mgmt   : Bool
  mangle : Bool
  reply  : Option (Byte × Nat × Nat)
  queued : List (Option Byte × Nat × Nat)
  causes : List ((Nat × Nat) × Nat)
  deriving DecidableEq, Repr

/-- An event as a block raised it, before the arbiter takes it (17_lint.md R599). -/
structure Event where
  id     : BitVec 24
  sev    : Nat
  origin : BitVec 16
  args   : List Word
  deriving DecidableEq, Repr

/-- A Lint record, 17_lint.md R604. -/
structure Rec where
  seq     : BitVec 48
  event   : BitVec 24
  sev     : Nat
  aligned : Bool
  repSat  : Bool
  snapCut : Bool
  trig    : BitVec 8
  rep     : BitVec 16
  origin  : BitVec 16
  tFirst  : Dword
  tLast   : Dword
  args    : List Word
  snap    : List Word
  deriving DecidableEq, Repr

/-- Lint beside its pages: the store by slot, slots mapped out, the degraded ring by entry, the event buffers by page, a waiting
clear with its path and UPTO, whether one more mirror follows the one in progress, whether the Shelf's headers have been read
since cold reset, BOOT, WARMS, the number of the next image (17_lint.md). -/
structure Lint where
  slots   : List (Nat × Rec)
  bad     : List Nat
  ring    : List (Nat × Rec)
  bufs    : List (Nat × List Event)
  clear   : Option (Path × BitVec 48)
  again   : Bool
  shelfOk : Bool
  boot    : Nat
  warms   : Nat
  image   : Nat
  deriving DecidableEq, Repr

/-- Management, access and calibration beside their pages: the last reply of each transport, a mailbox request in
execution, the live nonce, the time of the last password failure, erase in progress, words of the digest written
(18_access.md). -/
structure Mgmt where
  reply    : List Byte
  mboxBusy : Bool
  nonce    : Bool
  pwFailAt : Option Dword
  erasing  : Option (Fin 4)
  tries    : Vector Word 8
  sig      : Vector Word 16
  stuck    : Bool
  lampBad  : Vector Nat 2
  pwWords  : BitVec 4
  deriving DecidableEq, Repr

/-- A row of the watch table: its corrections by hour of weave time, latest hour first (05_buffers.md R180, R181). -/
structure Watch where
  row   : RowId
  hours : List (Nat × Nat)
  deriving DecidableEq, Repr

/-- ECC, darning and self-test state beside the memory pages (05_buffers.md R173-R187): the uncorrectable words; the watch
table, oldest entry first; rows that await a darn; spares used by core (none: XMEM) and bank; darned rows with their spare;
rows of XMEM found uncorrectable with the time of the finding; failing banks and banks mapped out; runs of clean scrub
passes by domain; self-tests that run; cold boots counted (18_access.md R653). -/
structure Ecc where
  upset    : List (MemId × Nat)
  watch    : List Watch
  cands    : List RowId
  spares   : List ((Option CoreId × Nat) × Nat)
  darned   : List (RowId × Nat)
  ueRows   : List (RowId × Nat)
  failing  : List Nat
  banksOut : List Nat
  cleanRun : List (Option CoreId × Nat)
  cmemTest : BitVec 4
  xmemTest : Option (Fin 128)
  boots    : Nat
  deriving DecidableEq, Repr

/-- The two modes of a tray controller, 01_machine.md R47. -/
inductive TcMode where
  | standalone | rack
  deriving DecidableEq, Repr

/-- What a tray controller logs (01_machine.md R46, R56): its own start, 5 s without a command, a cap raised to 150 W in an
FR-32H rack, the loss of the rack reference, one or more failed fans, an inlet above 35 or 40 degrees. -/
inductive TcEntry where
  | restart | silence | capRaised | refLost | fanFailed | fansFailed | inletWarm | inletHot
  deriving DecidableEq, Repr

/-- What the governor's manager logs (01_machine.md R42, R56): a step against an overload of the busbar, a decrease not
reported in force in time. -/
inductive MgrEntry where
  | overload | lateDecrease
  deriving DecidableEq, Repr

/-- The tray controller, 01_machine.md R46-R48: its mode, none before its first start; the caps it last commanded for its two
chips. -/
structure Tc where
  mode    : Option TcMode
  caps    : Vector Nat 2
  fansBad : Nat
  amber   : Bool
  log     : List TcEntry
  deriving DecidableEq, Repr

/-- One rack manager of the lease pair: it holds the lease, its term, its last renewal failed on both paths, it stopped its
commands (01_machine.md R51-R55). -/
structure Manager where
  holder  : Bool
  term    : Dword
  missed  : Bool
  stopped : Bool
  deriving DecidableEq, Repr

/-- The rack as the chip's surroundings know it: its type, its index and the tray's position in it (01_machine.md R32); the
caps issued to the 64 chips, those last reported in force, and those at which the governor counts each chip (R37-R41);
increases that wait for decreases; chips whose decrease was not reported in time; the step reached against an overload of the
busbar (0 none, 1 every cap at most 115 W, 2 lowering); whether the active manager has read the caps in force; what the
governor's manager logged; the manager pair; the TC. -/
structure Rack where
  fr32h    : Bool
  index    : Nat
  tray     : Nat
  issued   : List Nat
  inForce  : List Nat
  counted  : List Nat
  waiting  : List (Nat × Nat)
  late     : List Nat
  overload : Nat
  read     : Bool
  log      : List MgrEntry
  mgrA     : Manager
  mgrB     : Manager
  tc       : Tc
  deriving DecidableEq, Repr

/-- The state of the block. -/
structure State where
  regs    : RegFile
  staged  : RegFile
  touched : List (Nat × Nat)
  barOut  : List Byte
  dram    : Mem
  xmem    : Mem
  nor     : Mem
  host    : Mem
  cores   : Vector Core 4
  scale   : List ScaleHist
  ecc     : Ecc
  xcache  : Xcache
  tier    : Tier
  spin    : Spin
  ports   : Vector Port 12
  weave   : Weave
  mangle  : Mangle
  hangers : Vector Hanger 16
  eng     : Engines
  serving : Vector Serving 16
  evict   : Option Evict
  ctxs    : Vector Ctx 64
  clock   : Clock
  pins    : Pins
  resets  : Resets
  lint    : Lint
  mgmt    : Mgmt
  rack    : Rack
  free    : Nat
  pending : List Instr
  deriving DecidableEq, Repr

/-- No SAMPLE sequence begun. -/
def Sample.none : Sample := ⟨false, 0, 0, 0, 0, 0, []⟩

/-- No bundle begun. -/
def Bundle.none : Bundle := ⟨false, [], [], .none⟩

/-- A core after reset: every register zero (03_bundles.md R71), memories zero-filled (16_reset.md R576), no slot
declared (04_contract.md R153), no lane seeded (08_spin.md R286). -/
def Core.reset : Core :=
  { st := .stopped, pc := 0, start := 0, cyc := 0,
    s := Vector.replicate 64 0, a := Vector.replicate 16 0, v := Vector.replicate 32 (Vector.replicate 512 0),
    p := 0, t := Vector.replicate 64 0,
    flights := [], access := [], guard := Vector.replicate 16 0, beats := [], lost := 0, took := .none, clash := .none, busy := [], br := .none, yld := .none,
    bundle := Bundle.none, held := .none, slots := Vector.replicate 256 ⟨.empty, 0, 0, 0, .none⟩, imemOk := 0,
    cmem := [], min := [], acc := [], vec := [], imem := [], stg := [], staging := [], recvs := [], planeA := [], planeS := [],
    sample := Sample.none, lanes := [], owner := .none, evict := false, wiping := false, quiet := false, life := 0,
    overrun := false, stepping := false, denied := .none }

/-- A port after reset: DOWN, tables empty, DRR at p = 3 and left = 0 (09_weave.md R338, R345), 64 credits per VC
(R315), vc weights as WEAVE_VCWp resets (R353). -/
def Port.reset : Port :=
  { st := .down, attempts := 0, locked := false, ident := .none, sentRdy := false, gotRdy := false, fromDown := true,
    rounds := [], pinned := false, sentPin := false, gotPin := false, timed := false, laneCfg := 0, presetCfg := 0xFF,
    target := 0, lseqTx := 0, ackRx := 0xFFFF, nakFor := .none, nakOut := false, replay := [],
    resend := [], lateRun := false, faults := 0, faultEp := 0, ctl := [],
    pinAt := .none, stampOut := 0, stampIn := .none, surplus := 0, txAt := .none, wire := [], freed := Vector.replicate 3 0, owed := 0, vc1In := 0,
    seenCr := Vector.replicate 3 0, credits := Vector.replicate 3 64, vc0 := Vector.replicate 4 [],
    vcq := Vector.replicate 3 [], drrP := 3, drrLeft := 0, weights := #v[0x10, 0x08, 0x04], table := [], shadow := [] }

/-- A hanger model as released: no tile landed, every core on bank 0 (11_press.md R396). -/
def Hanger.reset : Hanger := ⟨[], 0, false, 0, Vector.replicate 4 0, .none⟩

/-- A serving entity as released, 12_serving.md R466. -/
def Serving.reset : Serving := ⟨0, Vector.replicate 4 0, Vector.replicate 4 [], Vector.replicate 4 []⟩

/-- A context after reset: no command, PHASE 1 (13_partitions.md R486, R499). -/
def Ctx.reset : Ctx := ⟨[], [], [], true, false⟩

/-- Clocks after cold reset: G4 with requested gear G4 (15_clocks_power.md R570), the G4 grid anchored at WT 0 (R552). -/
def Clock.reset : Clock :=
  { reqGear := 4, pendE := 0, pendLogged := false, limLogged := false, voltGear := 0, voltNext := .none, thGear := 0,
    thNext := .none, capNext := .none, capDec := .none, capForce := .none, runGear := 4, decided := 0, paused := false,
    nextGear := 4, anchor := 0, cclk := 0, pausedAt := 0, pause84 := 0, overRun := 0, coolRun := 0, voltRun := 0, stretched := false,
    relayed := [], failQueued := false, perstQueued := false }

/-- The rack at the start of the model: an FR-64 with index 0 and every chip at its base share of 115 W (01_machine.md R39), no
manager holding the lease, the TC not yet started (log 8). -/
def Rack.reset : Rack :=
  { fr32h := false, index := 0, tray := 0, issued := List.replicate 64 115, inForce := List.replicate 64 115,
    counted := List.replicate 64 115, waiting := [], late := [], overload := 0, read := false, log := [],
    mgrA := ⟨false, 0, false, false⟩, mgrB := ⟨false, 0, false, false⟩,
    tc := ⟨.none, Vector.replicate 2 115, 0, false, []⟩ }

/-- The chip right after reset: every register at its reset value (no word listed), memories with nothing listed, no
command pending. Bring-up is the row COLD_RESET (log 9). -/
def State.reset : State :=
  { regs := [], staged := [], touched := [], barOut := [], dram := [], xmem := [], nor := [], host := [],
    cores := Vector.replicate 4 Core.reset,
    scale := [],
    ecc := ⟨[], [], [], [], [], [], [], [], [], 0, .none, 0⟩,
    xcache := ⟨0, 0⟩,
    tier := ⟨Vector.replicate 5 [], [], false, [], 0, [], [], [], [], [], [], [], false, false, false, 46875, 15625⟩,
    spin := ⟨Vector.replicate 8 ⟨false, false, false, 0, Health.fresh⟩, [], .none, false⟩,
    ports := Vector.replicate 12 Port.reset,
    weave := ⟨0, 0, .none, .none, []⟩,
    mangle := ⟨[], [], [], []⟩,
    hangers := Vector.replicate 16 Hanger.reset,
    eng := ⟨Vector.replicate 5 [], Vector.replicate 4 [], Vector.replicate 4 [], [], []⟩,
    serving := Vector.replicate 16 Serving.reset,
    evict := .none,
    ctxs := Vector.replicate 64 Ctx.reset,
    clock := Clock.reset,
    pins := ⟨false, false, false, false, false, true⟩,
    resets := ⟨false, false, 0, 0, false, false, false, .none, [], []⟩,
    lint := ⟨[], [], [], [], .none, false, false, 0, 0, 0⟩,
    mgmt := ⟨[], false, false, .none, .none, Vector.replicate 8 0, Vector.replicate 16 0, false,
             Vector.replicate 2 0, 0⟩,
    rack := Rack.reset,
    free := 0,
    pending := [] }

end Sys2Proof.Machine
end

