-- ==== Sys2Proof/Machine/Sparse.lean ====
section
/-!
DEFINITION. Sparse tables in canonical form: the memories and the register file are lists of (key, value) pairs with keys
strictly rising and no value equal to what an unlisted key reads as. Every memory operation of the model is one of these.
-/
namespace Sys2Proof.Machine

/-- The value at key `k`; `d` gives what an unlisted key reads as. -/
def Sparse.get {α : Type} (d : Nat → α) : List (Nat × α) → Nat → α
  | [], k => d k
  | (k', v) :: r, k => if k' = k then v else Sparse.get d r k

/-- Put `v` at key `k`, keeping the order of keys; a value equal to the unlisted one removes the entry. -/
def Sparse.put {α : Type} [DecidableEq α] (d : Nat → α) : List (Nat × α) → Nat → α → List (Nat × α)
  | [], k, v => if v = d k then [] else [(k, v)]
  | (k', v') :: r, k, v =>
    if k < k' then (if v = d k then (k', v') :: r else (k, v) :: (k', v') :: r)
    else if k = k' then (if v = d k then r else (k, v) :: r)
    else (k', v') :: Sparse.put d r k v

/-- The canonical form: keys strictly rising, no value equal to the unlisted one. -/
def Sparse.wf {α : Type} [DecidableEq α] (d : Nat → α) : List (Nat × α) → Bool
  | [] => true
  | (k, v) :: r => decide (v ≠ d k) && r.all (fun c => decide (k < c.1)) && Sparse.wf d r

/-- The byte that every unlisted address of RAM reads as (log 7). -/
abbrev ramFill : Byte := 0
/-- The byte that every unlisted address of the SPI NOR reads as: an erased byte (01_machine.md R16; log 7). -/
abbrev norFill : Byte := 0xFF

/-- The canonical form of a memory whose unlisted bytes read `fill`. -/
def Memory.wf (fill : Byte) (m : Mem) : Bool := Sparse.wf (fun _ => fill) m

/-- One byte of a memory. -/
def Mem.byte (m : Mem) (a : Nat) (fill : Byte := ramFill) : Byte := Sparse.get (fun _ => fill) m a

/-- Write one byte. -/
def Mem.setByte (m : Mem) (a : Nat) (b : Byte) (fill : Byte := ramFill) : Mem := Sparse.put (fun _ => fill) m a b

/-- The `n` bytes from address `a`, lowest first. -/
def Mem.read (m : Mem) (a n : Nat) (fill : Byte := ramFill) : List Byte := (List.range n).map fun i => m.byte (a + i) fill

/-- Write bytes from address `a` upward. -/
def Mem.write (m : Mem) (a : Nat) : List Byte → (fill : Byte := ramFill) → Mem
  | [], _ => m
  | b :: bs, fill => Mem.write (m.setByte a b fill) (a + 1) bs fill

/-- Return the `n` bytes from address `a` to what unlisted addresses read as. -/
def Mem.erase (m : Mem) (a n : Nat) : Mem := m.filter fun c => c.1 < a || a + n ≤ c.1

/-- A little-endian number from bytes (00_scope.md R4). -/
def leNat : List Byte → Nat
  | [] => 0
  | b :: bs => b.toNat + 256 * leNat bs

/-- The `n` bytes of a number, little-endian (00_scope.md R4). -/
def leBytes : (n : Nat) → Nat → List Byte
  | 0, _ => []
  | n + 1, x => BitVec.ofNat 8 x :: leBytes n (x / 256)

/-- Bits [hi:lo] of a number. -/
def bits (x hi lo : Nat) : Nat := (x >>> lo) % 2 ^ (hi + 1 - lo)

/-- Little-endian bytes of a list of 32-bit words. -/
def wordBytes (l : List Word) : List Byte := l.flatMap fun w => leBytes 4 w.toNat

/-- The 32-bit words of a list of bytes, little-endian; a last partial word is filled with zeros. -/
def bytesWords : (n : Nat) → List Byte → List Word
  | 0, _ => []
  | n + 1, l => BitVec.ofNat 32 (leNat (l.take 4)) :: bytesWords n (l.drop 4)

/-- Bytes `i` to `i + n - 1` of a list, zeros past its end. -/
def slice (l : List Byte) (i n : Nat) : List Byte :=
  let t := (l.drop i).take n
  t ++ List.replicate (n - t.length) 0

/-- The little-endian number at bytes `i` to `i + n - 1` of a list. -/
def field (l : List Byte) (i n : Nat) : Nat := leNat (slice l i n)

/-- The value that a table of state gives a key. -/
def assocGet {κ α : Type} [DecidableEq κ] (l : List (κ × α)) (k : κ) : Option α := (l.find? fun e => e.1 == k).map Prod.snd

/-- Give a key of a table a value: in its place, at the end for a new key. -/
def assocSet {κ α : Type} [DecidableEq κ] (l : List (κ × α)) (k : κ) (v : α) : List (κ × α) :=
  if l.any fun e => e.1 == k then l.map fun e => if e.1 = k then (k, v) else e else l ++ [(k, v)]

/-- A table without a key. -/
def assocDel {κ α : Type} [DecidableEq κ] (l : List (κ × α)) (k : κ) : List (κ × α) := l.filter fun e => decide (e.1 ≠ k)

/-- Put a number into a rising list without repeats: between the smaller ones and the larger ones. -/
def insertNat (l : List Nat) (k : Nat) : List Nat := (l.filter fun x => x < k) ++ k :: l.filter fun x => k < x

end Sys2Proof.Machine
end

