-- ==== Sys2Proof/Machine/Numerics.lean ====
section
/-!
DEFINITION. Number formats and exact arithmetic with explicit rounding (07_numerics.md R245-R258): a value is decoded, every
operation is exact, and one rounding narrows the result.
-/
namespace Sys2Proof.Machine

/-- A decoded floating-point value: (-1)^neg * m * 2^e. -/
inductive FV where
  | nan
  | inf (neg : Bool)
  | fin (neg : Bool) (m : Nat) (e : Int)
  deriving DecidableEq, Repr

/-- What the codes with an all-ones exponent mean, 07_numerics.md R245. -/
inductive Special where
  | ieee | oneNan | finite
  deriving DecidableEq, Repr

/-- A floating-point format: exponent and mantissa widths, code of the largest finite value, special codes. -/
structure FFmt where
  ebits   : Nat
  mbits   : Nat
  maxCode : Nat
  special : Special
  deriving DecidableEq, Repr

abbrev f32 : FFmt := ⟨8, 23, 0x7F7FFFFF, .ieee⟩
abbrev bf16 : FFmt := ⟨8, 7, 0x7F7F, .ieee⟩
abbrev e4m3 : FFmt := ⟨4, 3, 0x7E, .oneNan⟩
abbrev e5m2 : FFmt := ⟨5, 2, 0x7B, .ieee⟩
abbrev e3m2 : FFmt := ⟨3, 2, 0x1F, .finite⟩
abbrev e2m3 : FFmt := ⟨2, 3, 0x1F, .finite⟩
abbrev e2m1 : FFmt := ⟨2, 1, 0x7, .finite⟩

def FFmt.bias (f : FFmt) : Nat := 2 ^ (f.ebits - 1) - 1
/-- The exponent of the least significant bit of a subnormal. -/
def FFmt.qmin (f : FFmt) : Int := 1 - (f.bias : Int) - (f.mbits : Int)
def FFmt.signBit (f : FFmt) : Nat := f.ebits + f.mbits

/-- The value of a code. -/
def FFmt.decode (f : FFmt) (x : Nat) : FV :=
  let man := x % 2 ^ f.mbits
  let ex := (x >>> f.mbits) % 2 ^ f.ebits
  let neg := x.testBit f.signBit
  let top := 2 ^ f.ebits - 1
  if f.special = .ieee ∧ ex = top then (if man = 0 then .inf neg else .nan)
  else if f.special = .oneNan ∧ ex = top ∧ man = 2 ^ f.mbits - 1 then .nan
  else if ex = 0 then .fin neg man f.qmin
  else .fin neg (2 ^ f.mbits + man) (f.qmin + (ex - 1 : Nat))

/-- m * 2^sh rounded to an integer, to nearest, ties to even (07_numerics.md R249). -/
def rne (m : Nat) (sh : Int) : Nat :=
  if 0 ≤ sh then m <<< sh.toNat
  else
    let k := (-sh).toNat
    let q := m >>> k
    let r := m % 2 ^ k
    let half := 2 ^ (k - 1)
    if half < r ∨ (r = half ∧ q % 2 = 1) then q + 1 else q

/-- The quantum at which a magnitude is rounded in a format. -/
def FFmt.quantum (f : FFmt) (m : Nat) (e : Int) : Int := max ((Nat.log2 m : Int) + e - f.mbits) f.qmin

/-- The code of a magnitude rounded to nearest even, not bounded by the largest finite code. -/
def FFmt.magCode (f : FFmt) (m : Nat) (e : Int) : Nat :=
  if m = 0 then 0
  else
    let q := f.quantum m e
    (q - f.qmin).toNat * 2 ^ f.mbits + rne m (e - q)

/-- The code of a magnitude rounded toward zero, not bounded. -/
def FFmt.magFloor (f : FFmt) (m : Nat) (e : Int) : Nat :=
  if m = 0 then 0
  else
    let q := f.quantum m e
    let sh := e - q
    (q - f.qmin).toNat * 2 ^ f.mbits + (if 0 ≤ sh then m <<< sh.toNat else m >>> (-sh).toNat)

/-- The code of a magnitude code with its sign. -/
def FFmt.signed (f : FFmt) (neg : Bool) (mag : Nat) : Nat := if neg then mag + 2 ^ f.signBit else mag

/-- The code of infinity in an IEEE format. -/
def FFmt.infCode (f : FFmt) : Nat := (2 ^ f.ebits - 1) * 2 ^ f.mbits

/-- The canonical quiet NaN of an IEEE format (07_numerics.md R249). -/
def FFmt.nanCode (f : FFmt) : Nat := f.infCode + 2 ^ (f.mbits - 1)

/-- Rounding to FP32 or BF16: overflow gives infinity (07_numerics.md R249). -/
def FFmt.ieeeCode (f : FFmt) : FV → Nat
  | .nan => f.nanCode
  | .inf n => f.signed n f.infCode
  | .fin n m e =>
    let c := f.magCode m e
    f.signed n (if f.maxCode < c then f.infCode else c)

/-- FP32 words. -/
def FV.of (w : Word) : FV := f32.decode w.toNat
def FV.word (x : FV) : Word := BitVec.ofNat 32 (f32.ieeeCode x)
/-- FP32 rounded to BF16. -/
def FV.half (x : FV) : Nat := bf16.ieeeCode x

/-- An integer as a value. -/
def FV.ofInt (i : Int) : FV := .fin (decide (i < 0)) i.natAbs 0

def FV.neg : FV → FV
  | .nan => .nan
  | .inf n => .inf (!n)
  | .fin n m e => .fin (!n) m e

def FV.abs : FV → FV
  | .nan => .nan
  | .inf _ => .inf false
  | .fin _ m e => .fin false m e

def FV.isZero : FV → Bool
  | .fin _ m _ => m == 0
  | _ => false

def FV.isFinite : FV → Bool
  | .fin .. => true
  | _ => false

def FV.isNeg : FV → Bool
  | .nan => false
  | .inf n => n
  | .fin n _ _ => n

/-- Exact sum; an exact zero sum of unlike signs is +0. -/
def FV.add : FV → FV → FV
  | .nan, _ => .nan
  | _, .nan => .nan
  | .inf a, .inf b => if a = b then .inf a else .nan
  | .inf a, .fin .. => .inf a
  | .fin .., .inf b => .inf b
  | .fin na ma ea, .fin nb mb eb =>
    let e := min ea eb
    let a : Int := (ma <<< (ea - e).toNat : Nat)
    let b : Int := (mb <<< (eb - e).toNat : Nat)
    let s := (if na then -a else a) + (if nb then -b else b)
    if s = 0 then .fin (na && nb) 0 e else .fin (decide (s < 0)) s.natAbs e

/-- Exact product. -/
def FV.mul : FV → FV → FV
  | .nan, _ => .nan
  | _, .nan => .nan
  | .inf a, .inf b => .inf (a != b)
  | .inf a, .fin b m _ => if m = 0 then .nan else .inf (a != b)
  | .fin a m _, .inf b => if m = 0 then .nan else .inf (a != b)
  | .fin na ma ea, .fin nb mb eb => .fin (na != nb) (ma * mb) (ea + eb)

/-- A quotient with a sticky bit below 64 significant bits, enough for one rounding to FP32. -/
def FV.div : FV → FV → FV
  | .nan, _ => .nan
  | _, .nan => .nan
  | .inf _, .inf _ => .nan
  | .inf a, .fin b _ _ => .inf (a != b)
  | .fin a _ _, .inf b => .fin (a != b) 0 0
  | .fin na ma ea, .fin nb mb eb =>
    if mb = 0 then (if ma = 0 then .nan else .inf (na != nb))
    else
      let k := 64 + Nat.log2 mb
      let n := ma <<< k
      .fin (na != nb) (2 * (n / mb) + (if n % mb = 0 then 0 else 1)) (ea - eb - k - 1)

/-- The integer square root below 2^b, bit by bit from `r`. -/
def isqrtFrom (n : Nat) : (b : Nat) → (r : Nat) → Nat
  | 0, r => r
  | b + 1, r => isqrtFrom n b (if (r + 2 ^ b) * (r + 2 ^ b) ≤ n then r + 2 ^ b else r)

/-- The integer square root. -/
def isqrt (n : Nat) : Nat := isqrtFrom n (Nat.log2 n / 2 + 1) 0

/-- A square root with a sticky bit below 40 significant bits, enough for one rounding to FP32. -/
def FV.sqrt : FV → FV
  | .nan => .nan
  | .inf n => if n then .nan else .inf false
  | .fin n m e =>
    if m = 0 then .fin n 0 0
    else if n then .nan
    else
      let k : Nat := if (e - 80) % 2 = 0 then 80 else 81
      let x := m <<< k
      let r := isqrt x
      .fin false (2 * r + (if r * r = x then 0 else 1)) ((e - k) / 2 - 1)

/-- A value of FP32 rounded once: the result is again a value. -/
def FV.round (x : FV) : FV := FV.of x.word

/-- The order key of an FP32 value that is not NaN: -0 below +0. -/
def FV.key (w : Word) : Int :=
  let mag : Int := (w.toNat % 2 ^ 31 : Nat)
  if w.getLsbD 31 then -mag - 1 else mag

/-- a < b in FP32: false with a NaN, and -0 = +0. -/
def FV.lt (a b : FV) : Bool :=
  match a, b with
  | .nan, _ => false
  | _, .nan => false
  | .inf na, .inf nb => na && !nb
  | .inf na, .fin .. => na
  | .fin .., .inf nb => !nb
  | .fin .., .fin .. =>
    match FV.add a b.neg with
    | .fin n m _ => n && m != 0
    | _ => false

def FV.le (a b : FV) : Bool := a != .nan && b != .nan && !FV.lt b a

/-! FP32 operations on words (07_numerics.md R257). -/

def fadd (a b : Word) : Word := (FV.add (FV.of a) (FV.of b)).word
def fsub (a b : Word) : Word := (FV.add (FV.of a) (FV.of b).neg).word
def fmul (a b : Word) : Word := (FV.mul (FV.of a) (FV.of b)).word
def ffma (a b c : Word) : Word := (FV.add (FV.mul (FV.of a) (FV.of b)) (FV.of c)).word
def fdiv (a b : Word) : Word := (FV.div (FV.of a) (FV.of b)).word
def fsqrt (a : Word) : Word := (FV.of a).sqrt.word
def fneg (a : Word) : Word := a ^^^ 0x80000000#32
/-- abs clears the sign bit (log 20). -/
def fabs (a : Word) : Word := a &&& 0x7FFFFFFF#32
def isNan (a : Word) : Bool := FV.of a == .nan
def isFin (a : Word) : Bool := (FV.of a).isFinite
def fmax (a b : Word) : Word := if isNan a || isNan b then 0x7FC00000#32 else if FV.key a < FV.key b then b else a
def fmin (a b : Word) : Word := if isNan a || isNan b then 0x7FC00000#32 else if FV.key b < FV.key a then b else a
def flt (a b : Word) : Bool := FV.lt (FV.of a) (FV.of b)

/-- x^t by square and multiply, high bit first (07_numerics.md R268), over the `b` low bits of t. -/
def fpowFrom (x : Word) (t : Nat) : (b : Nat) → (acc : Word) → Word
  | 0, acc => acc
  | b + 1, acc =>
    let sq := fmul acc acc
    fpowFrom x t b (if t.testBit b then fmul sq x else sq)

/-- x^t for t of at least 1. -/
def fpow (x : Word) (t : Nat) : Word := fpowFrom x t (Nat.log2 t) x

/-! VEXP, VRCP, VRSQRT: within 1 ulp of the exact result, a fixed function of the input (07_numerics.md R257). -/

/-- One of the FP32 values within 1 ulp of a result: the two around an exact result that is not representable, or the
result and its neighbours; `n` picks (log 10). -/
def nearUlp (neg : Bool) (m : Nat) (e : Int) (sticky : Bool) (n : Nat) : Word :=
  let c := f32.magFloor m e
  let exact := !sticky && f32.magCode m e == c && f32.decode c != .nan &&
    FV.add (f32.decode c) (.fin true m e) == .fin false 0 (min (match f32.decode c with | .fin _ _ q => q | _ => 0) e)
  let code := if exact then (if n % 3 = 0 then c else if n % 3 = 1 then c + 1 else c - 1) else c + n % 2
  BitVec.ofNat 32 (f32.signed neg (min code f32.infCode))

/-- ln 2 in units of 2^-256. -/
def ln2Fixed : Nat := 80260960185991308862233904206310070533990667611589946606122867505419956976171

/-- Terms of the series of e^r in units of 2^-256: `i` counts them, `term` is r^i / i!. -/
def expSeries (r : Nat) : (fuel i term acc : Nat) → Nat
  | 0, _, _, acc => acc
  | fuel + 1, i, term, acc =>
    let t := (term * r) / 2 ^ 256 / (i + 1)
    expSeries r fuel (i + 1) t (acc + t)

/-- e^x: special values by IEEE 754, finite ones within 1 ulp. -/
def fexp (w : Word) : Word :=
  match FV.of w with
  | .nan => 0x7FC00000#32
  | .inf neg => if neg then 0 else 0x7F800000#32
  | .fin neg m e =>
    let x : Int := if 0 ≤ e + 256 then (m <<< (e + 256).toNat : Nat) else (m >>> (-(e + 256)).toNat : Nat)
    let x := if neg then -x else x
    if x > 200 * 2 ^ 256 then 0x7F800000#32
    else if x < -200 * 2 ^ 256 then BitVec.ofNat 32 (Config.vexpPick w % 2)
    else
      let k := x / (ln2Fixed : Int)
      let r := (x - k * ln2Fixed).toNat
      nearUlp false (expSeries r 60 0 (2 ^ 256) (2 ^ 256)) (k - 256) (m != 0) (Config.vexpPick w)

/-- 1 / x within 1 ulp. -/
def frcp (w : Word) : Word :=
  match FV.div (.fin false 1 0) (FV.of w) with
  | .fin neg m e => if m = 0 then BitVec.ofNat 32 (f32.signed neg 0) else nearUlp neg m e (m % 2 == 1) (Config.vrcpPick w)
  | x => x.word

/-- x^(-1/2) within 1 ulp: -0 and +0 give infinities of their sign, negative values NaN (IEEE 754 rSqrt). -/
def frsqrt (w : Word) : Word :=
  match FV.of w with
  | .nan => 0x7FC00000#32
  | .inf neg => if neg then 0x7FC00000#32 else 0
  | .fin neg m e =>
    if m = 0 then BitVec.ofNat 32 (f32.signed neg f32.infCode)
    else if neg then 0x7FC00000#32
    else
      match FV.sqrt (FV.div (.fin false 1 0) (.fin false m e)) with
      | .fin _ m' e' => nearUlp false m' e' (m' % 2 == 1) (Config.vrsqrtPick w)
      | x => x.word

/-! Narrow formats. -/

/-- The element formats of 03_bundles.md R75. -/
inductive EFmt where
  | e4m3 | e5m2 | mx8e4 | mx8e5 | mx6e3 | mx6e2 | mx4 | int8 | bf16 | fp32
  deriving DecidableEq, Repr

/-- The format of a code, none for a reserved code. -/
def EFmt.ofCode : Nat → Option EFmt
  | 0x0 => some .e4m3 | 0x1 => some .e5m2 | 0x2 => some .mx8e4 | 0x3 => some .mx8e5 | 0x4 => some .mx6e3
  | 0x5 => some .mx6e2 | 0x6 => some .mx4 | 0x7 => some .int8 | 0x8 => some .bf16 | 0x9 => some .fp32 | _ => none

/-- The floating-point format of an element, none for INT8. -/
def EFmt.float : EFmt → Option FFmt
  | .e4m3 | .mx8e4 => some Machine.e4m3
  | .e5m2 | .mx8e5 => some Machine.e5m2
  | .mx6e3 => some e3m2
  | .mx6e2 => some e2m3
  | .mx4 => some e2m1
  | .int8 => none
  | .bf16 => some Machine.bf16
  | .fp32 => some f32

/-- Bits of an element. -/
def EFmt.bits : EFmt → Nat
  | .e4m3 | .e5m2 | .mx8e4 | .mx8e5 | .int8 => 8
  | .mx6e3 | .mx6e2 => 6
  | .mx4 => 4
  | .bf16 => 16
  | .fp32 => 32

/-- Whether the format has block scales (07_numerics.md R246). -/
def EFmt.mx : EFmt → Bool
  | .mx8e4 | .mx8e5 | .mx6e3 | .mx6e2 | .mx4 => true
  | _ => false

/-- The value of an element code. -/
def EFmt.value (f : EFmt) (x : Nat) : FV :=
  match f.float with
  | some g => g.decode x
  | none => FV.ofInt (BitVec.ofNat 8 x).toInt

/-- Conversion of a value to a format that is not MX, rounding to nearest even; the second result tells a counted
saturation (07_numerics.md R249). -/
def convert (f : EFmt) (x : FV) : Nat × Bool :=
  match f.float with
  | none =>
    match x with
    | .nan => (0, true)
    | .inf n => (if n then 0x80 else 0x7F, true)
    | .fin n m e =>
      let r := rne m e
      if n then (if 128 < r then (0x80, true) else ((256 - r) % 256, false))
      else if 127 < r then (0x7F, true) else (r, false)
  | some g =>
    if g = f32 ∨ g = Machine.bf16 then (g.ieeeCode x, false)
    else
      match x with
      | .nan => (0x7F, false)
      | .inf n => (g.signed n g.maxCode, true)
      | .fin n m e =>
        let c := g.magCode m e
        if g.maxCode < c then (g.signed n g.maxCode, true) else (g.signed n c, false)

/-- Stochastic rounding of a value to an 8-bit floating-point format with the draw's bits [31:8] (07_numerics.md R258):
with a < x < b adjacent, f = floor(2^24 (x - a) / (b - a)), and b is taken when u < f. A magnitude is rounded between its
floor code and the next one; for a negative x, b is the value nearer zero. -/
def convertSr (f : EFmt) (x : FV) (draw : Word) : Nat × Bool :=
  match f.float, x with
  | some g, .fin n m e =>
    let lo := g.magFloor m e
    if g.maxCode < g.magCode m e then (g.signed n g.maxCode, true)
    else
      match g.decode lo with
      | .fin _ ml el =>
        let ulp := max el (g.quantum m e)
        -- distance of |x| above the floor, in units of 2^d
        let d := min (min e el) ulp
        let above := m <<< (e - d).toNat - ml <<< (el - d).toNat
        let gap := 1 <<< (ulp - d).toNat
        if above = 0 then (g.signed n lo, false)
        else
          let u := draw.toNat / 256
          let up := if n then !(u < (2 ^ 24 * (gap - above)) / gap) else u < (2 ^ 24 * above) / gap
          let c := if up then lo + 1 else lo
          if g.maxCode < c then (g.signed n g.maxCode, true) else (g.signed n c, false)
      | _ => (g.signed n g.maxCode, true)
  | _, _ => convert f x

/-- floor(log2 m * 2^e) of a nonzero magnitude. -/
def floorLog2 (m : Nat) (e : Int) : Int := (Nat.log2 m : Int) + e

/-- emax of an MX element, 07_numerics.md R250. -/
def EFmt.emax : EFmt → Int
  | .mx8e4 => 8 | .mx8e5 => 15 | .mx6e3 => 4 | .mx6e2 => 2 | .mx4 => 2 | _ => 0

/-- An MX block: E8M0 scale code, element codes, counted saturations (07_numerics.md R246, R249, R250). -/
def mxBlock (f : EFmt) (xs : List FV) : Nat × List Nat × Nat :=
  if xs.any (fun x => !x.isFinite) then
    (0xFF, xs.map fun _ => 0, (xs.filter fun x => !x.isFinite && x != .nan).length)
  else
    let tops := xs.filterMap fun x => match x with | .fin _ m e => if m = 0 then none else some (floorLog2 m e) | _ => none
    let X : Int := match tops with
      | [] => -127
      | t :: ts => max (-127) (min 127 (ts.foldl max t - f.emax))
    let g := f.float.getD e2m1
    let codes := xs.map fun x => match x with
      | .fin n m e =>
        let c := g.magCode m (e - X)
        if g.maxCode < c then (g.signed n g.maxCode, true) else (g.signed n c, false)
      | _ => (0, false)
    ((X + 127).toNat, codes.map (·.1), (codes.filter (·.2)).length)

/-- The scale value of an E8M0 code as an exponent, none for NaN (07_numerics.md R246). -/
def e8m0 (c : Nat) : Option Int := if c = 0xFF then none else some ((c : Int) - 127)

/-- Pairwise binary tree of a list: (0,1), (2,3) and so on, level by level (03_bundles.md R102); an odd last element passes
on. -/
def pairLevel {α : Type} (f : α → α → α) : List α → List α
  | [] => []
  | [x] => [x]
  | x :: y :: r => f x y :: pairLevel f r

/-- The tree's result after at most `fuel` levels. -/
def pairTree {α : Type} (f : α → α → α) (z : α) : (fuel : Nat) → List α → α
  | _, [] => z
  | _, [x] => x
  | 0, x :: _ => x
  | fuel + 1, l => pairTree f z fuel (pairLevel f l)

end Sys2Proof.Machine
end

