-- ==== Sys2Proof/Machine/Regs.lean ====
section
/-!
DEFINITION. The register map: every register field that a table of spec/ gives, with its offset, count, place, access code
and reset value (14_pages.md R502-R513 and each chapter's page tables). A reset value that the spec leaves open is the one
of log 6.
-/
namespace Sys2Proof.Machine

/-- Access codes, 00_scope.md R6. -/
inductive Acc where
  | rw | ro | w1c | w1s | wo | rws | rwl | woc
  deriving DecidableEq, Repr

/-- A register field: offset of the first register that has it, number of registers (4 bytes apart), lowest bit, width,
access code, reset value. -/
structure Fld where
  off   : Nat
  cnt   : Nat
  lsb   : Nat
  width : Nat
  acc   : Acc
  reset : Nat
  deriving DecidableEq, Repr

/-- The field of register `n` of an array of registers. -/
def Fld.nth (f : Fld) (n : Nat) : Fld := { f with off := f.off + 4 * n, cnt := 1 }

/-- Whether the field has a place in the register at `off`. -/
def Fld.at (f : Fld) (off : Nat) : Bool := f.off ≤ off && off < f.off + 4 * f.cnt && (off - f.off) % 4 == 0

/-- The blocks that own pages, 14_pages.md R510. -/
inductive Kind where
  | chip | clk | pwr | therm | lamp | mgmt | access | cal | repair | core | cmem | xmem | xcache | dram | shelf | tier
  | scale | optim | spin | link | weave | mangle | press | hanger | xring | patch | part | ctx | lint | lintsnap | hostif
  deriving DecidableEq, Repr

/-- The page map, 14_pages.md R510; none for an unassigned page. -/
def kindOf (page : Nat) : Option Kind :=
  if page = 0x000 then some .chip
  else if page = 0x001 then some .clk
  else if page = 0x002 then some .pwr
  else if page = 0x003 then some .therm
  else if page = 0x004 then some .lamp
  else if page = 0x008 then some .mgmt
  else if page = 0x009 then some .access
  else if page = 0x00A then some .cal
  else if page = 0x00B then some .repair
  else if 0x010 ≤ page ∧ page ≤ 0x013 then some .core
  else if 0x014 ≤ page ∧ page ≤ 0x017 then some .cmem
  else if page = 0x020 then some .xmem
  else if page = 0x021 then some .xcache
  else if page = 0x028 then some .dram
  else if page = 0x030 then some .shelf
  else if page = 0x031 then some .tier
  else if page = 0x038 then some .scale
  else if page = 0x039 then some .optim
  else if page = 0x03A then some .spin
  else if 0x040 ≤ page ∧ page ≤ 0x04B then some .link
  else if page = 0x04C then some .weave
  else if page = 0x050 then some .mangle
  else if page = 0x058 then some .press
  else if page = 0x059 then some .hanger
  else if page = 0x05A then some .xring
  else if page = 0x060 then some .patch
  else if page = 0x068 then some .part
  else if 0x080 ≤ page ∧ page ≤ 0x0BF then some .ctx
  else if page = 0x0C0 then some .lint
  else if page = 0x0C1 then some .lintsnap
  else if page = 0x0F0 then some .hostif
  else none

/-- PAGE_ID.BLOCK, 14_pages.md R679. -/
def Kind.block : Kind → Nat
  | .chip => 0x01 | .clk => 0x02 | .pwr => 0x03 | .therm => 0x04 | .lamp => 0x05 | .mgmt => 0x06 | .access => 0x07
  | .cal => 0x08 | .repair => 0x09 | .core => 0x10 | .cmem => 0x11 | .xmem => 0x12 | .xcache => 0x13 | .dram => 0x14
  | .shelf => 0x15 | .tier => 0x16 | .scale => 0x17 | .optim => 0x18 | .spin => 0x19 | .link => 0x20 | .weave => 0x21
  | .mangle => 0x22 | .press => 0x23 | .hanger => 0x24 | .xring => 0x25 | .patch => 0x26 | .part => 0x27 | .ctx => 0x28
  | .lint => 0x29 | .lintsnap => 0x2A | .hostif => 0x2B

/-- Page numbers, 14_pages.md R510. -/
abbrev Page.chip : Nat := 0x000
abbrev Page.clk : Nat := 0x001
abbrev Page.pwr : Nat := 0x002
abbrev Page.therm : Nat := 0x003
abbrev Page.lamp : Nat := 0x004
abbrev Page.mgmt : Nat := 0x008
abbrev Page.access : Nat := 0x009
abbrev Page.cal : Nat := 0x00A
abbrev Page.repair : Nat := 0x00B
abbrev Page.core (c : Nat) : Nat := 0x010 + c
abbrev Page.cmem (c : Nat) : Nat := 0x014 + c
abbrev Page.xmem : Nat := 0x020
abbrev Page.xcache : Nat := 0x021
abbrev Page.dram : Nat := 0x028
abbrev Page.shelf : Nat := 0x030
abbrev Page.tier : Nat := 0x031
abbrev Page.scale : Nat := 0x038
abbrev Page.optim : Nat := 0x039
abbrev Page.spin : Nat := 0x03A
abbrev Page.link (p : Nat) : Nat := 0x040 + p
abbrev Page.weave : Nat := 0x04C
abbrev Page.mangle : Nat := 0x050
abbrev Page.press : Nat := 0x058
abbrev Page.hanger : Nat := 0x059
abbrev Page.xring : Nat := 0x05A
abbrev Page.patch : Nat := 0x060
abbrev Page.part : Nat := 0x068
abbrev Page.ctx (n : Nat) : Nat := 0x080 + n
abbrev Page.lint : Nat := 0x0C0
abbrev Page.lintsnap : Nat := 0x0C1
abbrev Page.hostif : Nat := 0x0F0

/-- Every assigned page number, in rising order. -/
def allPages : List Nat := (List.range 256).filter fun p => (kindOf p).isSome

namespace Reg

-- CORE: 03_bundles.md R117
abbrev CORE_CTRL_HALT_REQ : Fld := ⟨0x040, 1, 0, 1, .w1s, 0⟩
abbrev CORE_CTRL_STEP : Fld := ⟨0x040, 1, 1, 1, .wo, 0⟩
abbrev CORE_CTRL_BRK_EN : Fld := ⟨0x040, 1, 2, 1, .rw, 0⟩
abbrev CORE_STATE_STATE : Fld := ⟨0x044, 1, 0, 3, .ro, 0⟩
abbrev CORE_STATE_PC : Fld := ⟨0x044, 1, 16, 11, .ro, 0⟩
abbrev CORE_FAULT_STATUS : Fld := ⟨0x048, 1, 0, 8, .ro, 0⟩
abbrev CORE_FAULT_REASON : Fld := ⟨0x048, 1, 8, 8, .ro, 0⟩
abbrev CORE_FAULT_PC : Fld := ⟨0x048, 1, 16, 11, .ro, 0⟩
abbrev CORE_FAULT_SLOT : Fld := ⟨0x048, 1, 27, 3, .ro, 0⟩
abbrev CORE_FAULT_VALID : Fld := ⟨0x048, 1, 31, 1, .ro, 0⟩
abbrev CORE_IMEM_VALID_VALID : Fld := ⟨0x04C, 1, 0, 32, .ro, 0⟩
abbrev CORE_CYC_LO_CYC : Fld := ⟨0x050, 1, 0, 32, .ro, 0⟩
abbrev CORE_CYC_HI_CYC : Fld := ⟨0x054, 1, 0, 32, .ro, 0⟩
abbrev CORE_WAIT_HELD_COUNT : Fld := ⟨0x058, 1, 0, 32, .ro, 0⟩
abbrev CORE_WAIT_TICKS_TICKS : Fld := ⟨0x05C, 1, 0, 32, .ro, 0⟩
abbrev CORE_WAIT_MAX_TICKS : Fld := ⟨0x060, 1, 0, 32, .ro, 0⟩
abbrev CORE_WAIT_MAX_PC_PC : Fld := ⟨0x064, 1, 0, 11, .ro, 0⟩
abbrev CORE_WAIT_MAX_PC_BSLOT : Fld := ⟨0x064, 1, 16, 8, .ro, 0⟩
abbrev CORE_EPOCH_TICKS_TICKS : Fld := ⟨0x068, 1, 0, 32, .ro, 0⟩
abbrev CORE_STRETCH_CNT_COUNT : Fld := ⟨0x06C, 1, 0, 32, .ro, 0⟩
abbrev CORE_STRETCH_TIME_TIME : Fld := ⟨0x070, 1, 0, 32, .ro, 0⟩
abbrev CORE_DEFER_CMEM : Fld := ⟨0x074, 1, 0, 16, .ro, 0⟩
abbrev CORE_DEFER_XMEM : Fld := ⟨0x074, 1, 16, 16, .ro, 0⟩
abbrev CORE_CONTRACT_CTRL_WAIT_EVENT_EN : Fld := ⟨0x078, 1, 0, 1, .rw, 0⟩
abbrev CORE_CONTRACT_CTRL_COUNT_CLR : Fld := ⟨0x078, 1, 1, 1, .wo, 0⟩
abbrev CORE_HOLD_CCLK_CCLK : Fld := ⟨0x07C, 1, 0, 32, .ro, 0⟩
abbrev CORE_BSLOT_READS : Fld := ⟨0x400, 256, 0, 8, .rw, 0⟩
abbrev CORE_BSLOT_INIT : Fld := ⟨0x400, 256, 8, 2, .rw, 0⟩
abbrev CORE_BSLOT_TAG : Fld := ⟨0x400, 256, 12, 2, .ro, 0⟩
abbrev CORE_BSLOT_RC : Fld := ⟨0x400, 256, 14, 8, .ro, 0⟩
-- CMEM: 05_buffers.md R188
abbrev CMEM_ECC_CE_COUNT : Fld := ⟨0x040, 1, 0, 32, .ro, 0⟩
abbrev CMEM_ECC_UE_COUNT : Fld := ⟨0x044, 1, 0, 32, .ro, 0⟩
abbrev CMEM_SPARE_LO_USED : Fld := ⟨0x048, 1, 0, 32, .ro, 0⟩
abbrev CMEM_SPARE_HI_USED : Fld := ⟨0x04C, 1, 0, 32, .ro, 0⟩
abbrev CMEM_DARN_PEND_BANKS : Fld := ⟨0x050, 1, 0, 16, .ro, 0⟩
abbrev CMEM_DARN_PEND_MAPPED_OUT : Fld := ⟨0x050, 1, 16, 1, .ro, 0⟩
abbrev CMEM_LAST_ERR_BANK : Fld := ⟨0x054, 1, 0, 4, .ro, 0⟩
abbrev CMEM_LAST_ERR_ROW : Fld := ⟨0x054, 1, 4, 10, .ro, 0⟩
abbrev CMEM_LAST_ERR_MEM : Fld := ⟨0x054, 1, 28, 3, .ro, 0⟩
abbrev CMEM_LAST_ERR_UE : Fld := ⟨0x054, 1, 31, 1, .ro, 0⟩
abbrev CMEM_SCRUB_CTRL_LEVEL : Fld := ⟨0x058, 1, 0, 2, .ro, 0⟩
abbrev CMEM_SCRUB_CTRL_MIN_LEVEL : Fld := ⟨0x058, 1, 4, 2, .rw, 0⟩
abbrev CMEM_BIST_START : Fld := ⟨0x05C, 1, 0, 1, .wo, 0⟩
abbrev CMEM_BIST_STATUS : Fld := ⟨0x05C, 1, 8, 8, .ro, 0⟩
abbrev CMEM_BIST_DONE : Fld := ⟨0x05C, 1, 31, 1, .ro, 0⟩
-- XMEM: 05_buffers.md R189
abbrev XMEM_ECC_CE_COUNT : Fld := ⟨0x040, 1, 0, 32, .ro, 0⟩
abbrev XMEM_ECC_UE_COUNT : Fld := ⟨0x044, 1, 0, 32, .ro, 0⟩
abbrev XMEM_LAST_ERR_BANK : Fld := ⟨0x048, 1, 0, 9, .ro, 0⟩
abbrev XMEM_LAST_ERR_ROW : Fld := ⟨0x048, 1, 9, 13, .ro, 0⟩
abbrev XMEM_LAST_ERR_UE : Fld := ⟨0x048, 1, 31, 1, .ro, 0⟩
abbrev XMEM_HEALTH_BANKS_OUT : Fld := ⟨0x04C, 1, 0, 10, .ro, 0⟩
abbrev XMEM_HEALTH_DARN_PEND : Fld := ⟨0x04C, 1, 16, 10, .ro, 0⟩
abbrev XMEM_WITHHELD_SEG : Fld := ⟨0x050, 4, 0, 32, .ro, 0⟩
abbrev XMEM_SCRUB_CTRL_LEVEL : Fld := ⟨0x060, 1, 0, 2, .ro, 0⟩
abbrev XMEM_SCRUB_CTRL_MIN_LEVEL : Fld := ⟨0x060, 1, 4, 2, .rw, 0⟩
abbrev XMEM_SCRUB_PASS_COUNT : Fld := ⟨0x064, 1, 0, 32, .ro, 0⟩
abbrev XMEM_BIST_SEG : Fld := ⟨0x068, 1, 0, 7, .rw, 0⟩
abbrev XMEM_BIST_START : Fld := ⟨0x068, 1, 8, 1, .wo, 0⟩
abbrev XMEM_BIST_STATUS : Fld := ⟨0x068, 1, 16, 8, .ro, 0⟩
abbrev XMEM_BIST_DONE : Fld := ⟨0x068, 1, 31, 1, .ro, 0⟩
-- XCACHE: 05_buffers.md R190
abbrev XCACHE_CFG_STEPS : Fld := ⟨0x040, 1, 0, 3, .rws, 0⟩
abbrev XCACHE_CFG_BASE : Fld := ⟨0x040, 1, 8, 7, .rws, 0⟩
abbrev XCACHE_STATE_STATE : Fld := ⟨0x044, 1, 0, 2, .ro, 0⟩
abbrev XCACHE_STATE_TAG_LOST : Fld := ⟨0x044, 1, 8, 1, .w1c, 0⟩
abbrev XCACHE_HITS_COUNT : Fld := ⟨0x048, 1, 0, 32, .ro, 0⟩
abbrev XCACHE_MISSES_COUNT : Fld := ⟨0x04C, 1, 0, 32, .ro, 0⟩
abbrev XCACHE_WB_COUNT : Fld := ⟨0x050, 1, 0, 32, .ro, 0⟩
abbrev XCACHE_DIRTY_LINES : Fld := ⟨0x054, 1, 0, 23, .ro, 0⟩
abbrev XCACHE_POISON_LINES : Fld := ⟨0x058, 1, 0, 16, .ro, 0⟩
-- DRAM: 06_tiers.md R240
abbrev DRAM_STATUS_TRAINED : Fld := ⟨0x040, 1, 0, 1, .ro, 0⟩
abbrev DRAM_STATUS_REFRESH : Fld := ⟨0x040, 1, 1, 2, .ro, 0⟩
abbrev DRAM_LINK_CE_COUNT : Fld := ⟨0x044, 1, 0, 32, .ro, 0⟩
abbrev DRAM_LINK_UE_COUNT : Fld := ⟨0x048, 1, 0, 32, .ro, 0⟩
abbrev DRAM_POISON_ENTRIES : Fld := ⟨0x04C, 1, 0, 11, .ro, 0⟩
abbrev DRAM_POISON_LOST : Fld := ⟨0x04C, 1, 16, 1, .w1c, 0⟩
-- SHELF: 06_tiers.md R241
abbrev SHELF_STATE_RO_PRESERVE : Fld := ⟨0x040, 1, 0, 1, .ro, 0⟩
abbrev SHELF_WEAR_WEAR_PCT : Fld := ⟨0x044, 1, 0, 8, .ro, 0⟩
abbrev SHELF_WEAR_SPARE_PCT : Fld := ⟨0x044, 1, 16, 16, .ro, 0x5DC⟩
abbrev SHELF_RETIRED_BLOCKS : Fld := ⟨0x048, 1, 0, 32, .ro, 0⟩
abbrev SHELF_PROG_TIME_US : Fld := ⟨0x04C, 1, 0, 16, .ro, 0⟩
abbrev SHELF_MEDIA_UE_COUNT : Fld := ⟨0x050, 1, 0, 32, .ro, 0⟩
abbrev SHELF_NS_SEL_NS : Fld := ⟨0x054, 1, 0, 6, .rw, 0⟩
abbrev SHELF_NS_BASE_LBA : Fld := ⟨0x058, 1, 0, 32, .rws, 0⟩
abbrev SHELF_NS_LEN_BLOCKS : Fld := ⟨0x05C, 1, 0, 32, .rws, 0⟩
abbrev SHELF_NS_OWNER_PART : Fld := ⟨0x060, 1, 0, 12, .rws, 0⟩
abbrev SHELF_NS_OWNER_VALID : Fld := ⟨0x060, 1, 31, 1, .rws, 0⟩
abbrev SHELF_NS_STATE_CLEARING : Fld := ⟨0x064, 1, 0, 1, .ro, 0⟩
-- TIER: 06_tiers.md R242
abbrev TIER_QUEUE_CORE : Fld := ⟨0x040, 1, 0, 24, .ro, 0⟩
abbrev TIER_HOSTQ_DEPTH : Fld := ⟨0x044, 1, 0, 7, .ro, 0⟩
abbrev TIER_LAST_FAIL_STATUS : Fld := ⟨0x048, 1, 0, 8, .ro, 0⟩
abbrev TIER_LAST_FAIL_QUEUE : Fld := ⟨0x048, 1, 8, 3, .ro, 0⟩
abbrev TIER_LAST_FAIL_TILE_TILE : Fld := ⟨0x04C, 1, 0, 32, .ro, 0⟩
abbrev TIER_CRC_ERR_COUNT : Fld := ⟨0x050, 1, 0, 32, .ro, 0⟩
abbrev TIER_SH_SEL_ENTRY : Fld := ⟨0x054, 1, 0, 4, .rw, 0⟩
abbrev TIER_SH_DRAM_BASE : Fld := ⟨0x058, 1, 0, 21, .rws, 0⟩
abbrev TIER_SH_PAGES_PAGES : Fld := ⟨0x05C, 1, 0, 21, .rws, 0⟩
abbrev TIER_SH_NS_NSID : Fld := ⟨0x060, 1, 0, 6, .rws, 0⟩
abbrev TIER_SH_LBA_LBA : Fld := ⟨0x064, 1, 0, 32, .rws, 0⟩
abbrev TIER_SH_STATE_STATE : Fld := ⟨0x068, 1, 0, 2, .ro, 0⟩
abbrev TIER_SH_STATE_DIRTY : Fld := ⟨0x068, 1, 8, 24, .ro, 0⟩
-- SCALE: 07_numerics.md R275
abbrev SCALE_SEL_CORE : Fld := ⟨0x040, 1, 0, 2, .rw, 0⟩
abbrev SCALE_SEL_SLOT : Fld := ⟨0x040, 1, 8, 8, .rw, 0⟩
abbrev SCALE_CFG_LEN : Fld := ⟨0x044, 1, 0, 3, .rws, 0⟩
abbrev SCALE_CFG_FMT : Fld := ⟨0x044, 1, 4, 4, .rws, 0⟩
abbrev SCALE_CFG_MARGIN : Fld := ⟨0x044, 1, 8, 4, .rws, 0⟩
abbrev SCALE_CFG_POW2 : Fld := ⟨0x044, 1, 12, 1, .rws, 0⟩
abbrev SCALE_CFG_VALID : Fld := ⟨0x044, 1, 13, 1, .rws, 0⟩
abbrev SCALE_VALUE_SCALE : Fld := ⟨0x048, 1, 0, 32, .ro, 0x3F800000⟩
abbrev SCALE_PENDING_AMAX : Fld := ⟨0x04C, 1, 0, 32, .ro, 0⟩
abbrev SCALE_SAT_COUNT : Fld := ⟨0x050, 4, 0, 32, .ro, 0⟩
abbrev SCALE_NONFINITE_COUNT : Fld := ⟨0x060, 1, 0, 16, .ro, 0⟩
abbrev SCALE_HIST_USED_ENTRIES : Fld := ⟨0x064, 1, 0, 15, .ro, 0⟩
-- OPTIM: 07_numerics.md R276
abbrev OPTIM_SEL_SET : Fld := ⟨0x040, 1, 0, 6, .rw, 0⟩
abbrev OPTIM_LR_LR : Fld := ⟨0x044, 1, 0, 32, .rws, 0⟩
abbrev OPTIM_BETA1_BETA1 : Fld := ⟨0x048, 1, 0, 32, .rws, 0⟩
abbrev OPTIM_BETA2_BETA2 : Fld := ⟨0x04C, 1, 0, 32, .rws, 0⟩
abbrev OPTIM_EPS_EPS : Fld := ⟨0x050, 1, 0, 32, .rws, 0⟩
abbrev OPTIM_WD_WD : Fld := ⟨0x054, 1, 0, 32, .rws, 0⟩
abbrev OPTIM_GRAD_MUL_GRAD_MUL : Fld := ⟨0x058, 1, 0, 32, .rws, 0⟩
abbrev OPTIM_MODE_MASTER : Fld := ⟨0x05C, 1, 0, 1, .rws, 0⟩
abbrev OPTIM_MODE_OUT : Fld := ⟨0x05C, 1, 1, 2, .rws, 0⟩
abbrev OPTIM_MODE_SR : Fld := ⟨0x05C, 1, 3, 1, .rws, 0⟩
abbrev OPTIM_MODE_SCALE_SLOT : Fld := ⟨0x05C, 1, 8, 8, .rws, 0⟩
abbrev OPTIM_MODE_VALID : Fld := ⟨0x05C, 1, 31, 1, .rws, 0⟩
abbrev OPTIM_NF_COUNT : Fld := ⟨0x060, 1, 0, 32, .ro, 0⟩
abbrev OPTIM_STICKY_NF : Fld := ⟨0x064, 1, 0, 4, .w1c, 0⟩
-- SPIN: 08_spin.md R302
abbrev SPIN_PART_PART : Fld := ⟨0x040, 1, 0, 12, .rws, 0⟩
abbrev SPIN_CTRL_ACTION : Fld := ⟨0x044, 1, 0, 2, .rws, 0⟩
abbrev SPIN_CTRL_SOURCE : Fld := ⟨0x044, 1, 4, 1, .rws, 0⟩
abbrev SPIN_CTRL_CORE : Fld := ⟨0x044, 1, 8, 2, .rws, 0⟩
abbrev SPIN_SEED_LO_SEED : Fld := ⟨0x048, 1, 0, 32, .rws, 0⟩
abbrev SPIN_SEED_HI_SEED : Fld := ⟨0x04C, 1, 0, 32, .rws, 0⟩
abbrev SPIN_ADDR_LO_ADDR : Fld := ⟨0x050, 1, 0, 32, .rws, 0⟩
abbrev SPIN_ADDR_HI_ADDR : Fld := ⟨0x054, 1, 0, 8, .rws, 0⟩
abbrev SPIN_STATUS_BUSY : Fld := ⟨0x058, 1, 0, 1, .ro, 0⟩
abbrev SPIN_STATUS_STATUS : Fld := ⟨0x058, 1, 8, 8, .ro, 0⟩
abbrev SPIN_STATUS_SEEDED : Fld := ⟨0x058, 1, 16, 4, .ro, 0⟩
abbrev SPIN_SEED_USED_LO_SEED : Fld := ⟨0x05C, 1, 0, 32, .ro, 0⟩
abbrev SPIN_SEED_USED_HI_SEED : Fld := ⟨0x060, 1, 0, 32, .ro, 0⟩
abbrev SPIN_SRC_HEALTH_HEALTHY : Fld := ⟨0x064, 1, 0, 8, .ro, 0⟩
abbrev SPIN_SRC_HEALTH_OFF : Fld := ⟨0x064, 1, 8, 8, .ro, 0⟩
abbrev SPIN_RCT_FAIL_COUNT : Fld := ⟨0x068, 1, 0, 16, .ro, 0⟩
abbrev SPIN_APT_FAIL_COUNT : Fld := ⟨0x06C, 1, 0, 16, .ro, 0⟩
abbrev SPIN_ISSUE_COUNT : Fld := ⟨0x070, 4, 0, 32, .ro, 0⟩
-- LINK: 09_weave.md R352
abbrev LINK_CTRL_ENABLE : Fld := ⟨0x040, 1, 0, 1, .rw, 0⟩
abbrev LINK_CTRL_RETRAIN : Fld := ⟨0x040, 1, 1, 1, .wo, 0⟩
abbrev LINK_CTRL_LANES : Fld := ⟨0x040, 1, 2, 2, .rws, 0⟩
abbrev LINK_CTRL_PRESET : Fld := ⟨0x040, 1, 8, 8, .rws, 0xFF⟩
abbrev LINK_STATE_STATE : Fld := ⟨0x044, 1, 0, 3, .ro, 0⟩
abbrev LINK_STATE_CAUSE : Fld := ⟨0x044, 1, 4, 4, .ro, 0⟩
abbrev LINK_STATE_PEER_PORT : Fld := ⟨0x044, 1, 8, 4, .ro, 0⟩
abbrev LINK_STATE_PEER_PCN : Fld := ⟨0x044, 1, 12, 12, .ro, 0⟩
abbrev LINK_LAT_MEAS : Fld := ⟨0x048, 1, 0, 10, .ro, 0⟩
abbrev LINK_LAT_PIN : Fld := ⟨0x048, 1, 16, 10, .ro, 0⟩
abbrev LINK_PIN_TARGET_TARGET : Fld := ⟨0x04C, 1, 0, 10, .rw, 0⟩
abbrev LINK_FEC_CE_COUNT : Fld := ⟨0x050, 1, 0, 32, .ro, 0⟩
abbrev LINK_FEC_UE_COUNT : Fld := ⟨0x054, 1, 0, 32, .ro, 0⟩
abbrev LINK_VC0_LATE_COUNT : Fld := ⟨0x058, 1, 0, 32, .ro, 0⟩
abbrev LINK_VC0_LATE_MAX_TICKS : Fld := ⟨0x05C, 1, 0, 16, .ro, 0⟩
abbrev LINK_REPLAY_PENALTY_TICKS : Fld := ⟨0x060, 1, 0, 12, .ro, 0⟩
abbrev LINK_RETRAINS_COUNT : Fld := ⟨0x064, 1, 0, 32, .ro, 0⟩
abbrev LINK_VC0_UNCLAIMED_COUNT : Fld := ⟨0x068, 1, 0, 32, .ro, 0⟩
abbrev LINK_VC0_DROPPED_COUNT : Fld := ⟨0x06C, 1, 0, 32, .ro, 0⟩
-- WEAVE: 09_weave.md R353
abbrev WEAVE_CTRL_MASTER : Fld := ⟨0x040, 1, 0, 1, .rw, 0⟩
abbrev WEAVE_TIME_LO_WT : Fld := ⟨0x044, 1, 0, 32, .ro, 0⟩
abbrev WEAVE_TIME_HI_WT : Fld := ⟨0x048, 1, 0, 32, .ro, 0⟩
abbrev WEAVE_STATUS_ALIGNED : Fld := ⟨0x04C, 1, 0, 1, .ro, 0⟩
abbrev WEAVE_STATUS_PARENT : Fld := ⟨0x04C, 1, 4, 4, .ro, 0xF⟩
abbrev WEAVE_STATUS_MASTER_PCN : Fld := ⟨0x04C, 1, 16, 12, .ro, 0⟩
abbrev WEAVE_QUIET_LEN : Fld := ⟨0x050, 1, 0, 7, .rw, 4⟩
abbrev WEAVE_LOAD_KIND_KIND : Fld := ⟨0x054, 1, 0, 1, .rws, 0⟩
abbrev WEAVE_LOAD_KIND_PORT : Fld := ⟨0x054, 1, 4, 4, .rws, 0⟩
abbrev WEAVE_LOAD_BASE_LO_BASE : Fld := ⟨0x058, 1, 0, 32, .rws, 0⟩
abbrev WEAVE_LOAD_BASE_HI_BASE : Fld := ⟨0x05C, 1, 0, 8, .rws, 0⟩
abbrev WEAVE_LOAD_LEN_LEN : Fld := ⟨0x060, 1, 0, 13, .rws, 0⟩
abbrev WEAVE_LOAD_EPOCH_LO_EPOCH : Fld := ⟨0x064, 1, 0, 32, .rws, 0⟩
abbrev WEAVE_LOAD_EPOCH_HI_EPOCH : Fld := ⟨0x068, 1, 0, 15, .rws, 0⟩
abbrev WEAVE_LOAD_STATUS_BUSY : Fld := ⟨0x06C, 1, 0, 1, .ro, 0⟩
abbrev WEAVE_LOAD_STATUS_ARMED : Fld := ⟨0x06C, 1, 1, 1, .ro, 0⟩
abbrev WEAVE_LOAD_STATUS_STATUS : Fld := ⟨0x06C, 1, 8, 8, .ro, 0⟩
abbrev WEAVE_VCW_W1 : Fld := ⟨0x080, 12, 0, 8, .rw, 0x10⟩
abbrev WEAVE_VCW_W2 : Fld := ⟨0x080, 12, 8, 8, .rw, 0x08⟩
abbrev WEAVE_VCW_W3 : Fld := ⟨0x080, 12, 16, 8, .rw, 0x04⟩
abbrev WEAVE_PATH_SEL_ENTRY : Fld := ⟨0x0B0, 1, 0, 10, .rw, 0⟩
abbrev WEAVE_PATH_LO_ENTRY : Fld := ⟨0x0B4, 1, 0, 32, .ro, 0⟩
abbrev WEAVE_PATH_HI_ENTRY : Fld := ⟨0x0B8, 1, 0, 32, .ro, 0⟩
-- MANGLE: 10_mangle.md R387
abbrev MANGLE_SEL_INDEX : Fld := ⟨0x040, 1, 0, 8, .rw, 0⟩
abbrev MANGLE_SEL_KIND : Fld := ⟨0x040, 1, 8, 1, .rw, 0⟩
abbrev MANGLE_D_OP_OP : Fld := ⟨0x044, 1, 0, 3, .rws, 0⟩
abbrev MANGLE_D_OP_RED : Fld := ⟨0x044, 1, 4, 2, .rws, 0⟩
abbrev MANGLE_D_OP_WIDE : Fld := ⟨0x044, 1, 6, 1, .rws, 0⟩
abbrev MANGLE_D_OP_IFMT : Fld := ⟨0x044, 1, 8, 4, .rws, 0⟩
abbrev MANGLE_D_OP_OFMT : Fld := ⟨0x044, 1, 12, 4, .rws, 0⟩
abbrev MANGLE_D_OP_GROUP : Fld := ⟨0x044, 1, 16, 6, .rws, 0⟩
abbrev MANGLE_D_OP_VALID : Fld := ⟨0x044, 1, 31, 1, .rws, 0⟩
abbrev MANGLE_D_COUNT_COUNT : Fld := ⟨0x048, 1, 0, 24, .rws, 0⟩
abbrev MANGLE_D_ROOT_ROOT : Fld := ⟨0x04C, 1, 0, 14, .rws, 0⟩
abbrev MANGLE_D_DEADLINE_TICKS : Fld := ⟨0x050, 1, 0, 32, .rws, 0⟩
abbrev MANGLE_D_PART_PART : Fld := ⟨0x054, 1, 0, 12, .rws, 0⟩
abbrev MANGLE_G_BASE_BASE : Fld := ⟨0x058, 1, 0, 14, .rws, 0⟩
abbrev MANGLE_G_COUNT_COUNT : Fld := ⟨0x05C, 1, 0, 15, .rws, 0⟩
abbrev MANGLE_G_STRIDE_STRIDE : Fld := ⟨0x060, 1, 0, 14, .rws, 0⟩
abbrev MANGLE_G_PART_PART : Fld := ⟨0x064, 1, 0, 12, .rws, 0⟩
abbrev MANGLE_G_PART_VALID : Fld := ⟨0x064, 1, 31, 1, .rws, 0⟩
abbrev MANGLE_G_EPOCH_EPOCH : Fld := ⟨0x068, 1, 0, 32, .ro, 0⟩
abbrev MANGLE_LAST_ABORT_CAUSE : Fld := ⟨0x06C, 1, 0, 4, .ro, 0⟩
abbrev MANGLE_LAST_ABORT_ORIGIN : Fld := ⟨0x06C, 1, 4, 14, .ro, 0⟩
abbrev MANGLE_LAST_ABORT_GROUP : Fld := ⟨0x06C, 1, 18, 6, .ro, 0⟩
abbrev MANGLE_ABORTS_COUNT : Fld := ⟨0x070, 1, 0, 32, .ro, 0⟩
abbrev MANGLE_STALE_COUNT : Fld := ⟨0x074, 1, 0, 32, .ro, 0⟩
abbrev MANGLE_SAT_COUNT : Fld := ⟨0x078, 1, 0, 32, .ro, 0⟩
abbrev MANGLE_EARLY_FLITS : Fld := ⟨0x07C, 1, 0, 12, .ro, 0⟩
abbrev MANGLE_EARLY_STALLED : Fld := ⟨0x07C, 1, 16, 1, .ro, 0⟩
-- HANGER: 11_press.md R437
abbrev HANGER_SEL_MODEL : Fld := ⟨0x040, 1, 0, 4, .rw, 0⟩
abbrev HANGER_CFG_CORES : Fld := ⟨0x044, 1, 0, 4, .rws, 0⟩
abbrev HANGER_CFG_LOCKSTEP : Fld := ⟨0x044, 1, 4, 1, .rws, 0⟩
abbrev HANGER_CFG_PART : Fld := ⟨0x044, 1, 16, 12, .rws, 0⟩
abbrev HANGER_CFG_VALID : Fld := ⟨0x044, 1, 31, 1, .rws, 0⟩
abbrev HANGER_SEGS_BANK0 : Fld := ⟨0x048, 1, 0, 7, .rws, 0⟩
abbrev HANGER_SEGS_BANK1 : Fld := ⟨0x048, 1, 8, 7, .rws, 0⟩
abbrev HANGER_SEGS_NSEG : Fld := ⟨0x048, 1, 16, 7, .rws, 0⟩
abbrev HANGER_TILES_TILES : Fld := ⟨0x04C, 1, 0, 19, .rws, 0⟩
abbrev HANGER_STATE_STATE : Fld := ⟨0x050, 1, 0, 3, .ro, 0⟩
abbrev HANGER_STATE_MARK : Fld := ⟨0x050, 1, 4, 2, .ro, 0⟩
abbrev HANGER_STATE_ON_NEW : Fld := ⟨0x050, 1, 8, 4, .ro, 0⟩
abbrev HANGER_PEND_VER_VERSION : Fld := ⟨0x054, 1, 0, 32, .ro, 0⟩
abbrev HANGER_LANDED_TILES : Fld := ⟨0x058, 1, 0, 19, .ro, 0⟩
abbrev HANGER_ARM_E_LO_E : Fld := ⟨0x05C, 1, 0, 32, .ro, 0⟩
abbrev HANGER_ARM_E_HI_E : Fld := ⟨0x060, 1, 0, 15, .ro, 0⟩
abbrev HANGER_ACTIVE_VERSION : Fld := ⟨0x064, 4, 0, 32, .ro, 0⟩
abbrev HANGER_CRC_COUNT : Fld := ⟨0x074, 1, 0, 32, .ro, 0⟩
abbrev HANGER_DISCARD_COUNT : Fld := ⟨0x078, 1, 0, 32, .ro, 0⟩
abbrev HANGER_FLIPS_COUNT : Fld := ⟨0x07C, 1, 0, 32, .ro, 0⟩
-- PRESS: 11_press.md R438
abbrev PRESS_MC_SEL_ENTRY : Fld := ⟨0x040, 1, 0, 6, .rw, 0⟩
abbrev PRESS_MC_ENTRY_GROUP : Fld := ⟨0x044, 1, 0, 12, .rws, 0⟩
abbrev PRESS_MC_ENTRY_LOCAL : Fld := ⟨0x044, 1, 12, 1, .rws, 0⟩
abbrev PRESS_MC_ENTRY_FWD : Fld := ⟨0x044, 1, 16, 12, .rws, 0⟩
abbrev PRESS_MC_ENTRY_VALID : Fld := ⟨0x044, 1, 31, 1, .rws, 0⟩
abbrev PRESS_QUEUE_CORE : Fld := ⟨0x048, 1, 0, 20, .ro, 0⟩
abbrev PRESS_LAST_STATUS : Fld := ⟨0x04C, 1, 0, 8, .ro, 0⟩
abbrev PRESS_LAST_CAUSE : Fld := ⟨0x04C, 1, 8, 4, .ro, 0⟩
abbrev PRESS_LAST_MODEL : Fld := ⟨0x04C, 1, 12, 4, .ro, 0⟩
abbrev PRESS_LAST_VER_VERSION : Fld := ⟨0x050, 1, 0, 32, .ro, 0⟩
abbrev PRESS_TILES_SENT_COUNT : Fld := ⟨0x054, 1, 0, 32, .ro, 0⟩
abbrev PRESS_CANCELS_COUNT : Fld := ⟨0x058, 1, 0, 32, .ro, 0⟩
abbrev PRESS_MC_DROP_COUNT : Fld := ⟨0x05C, 1, 0, 32, .ro, 0⟩
-- XRING: 11_press.md R439
abbrev XRING_SEL_RING : Fld := ⟨0x040, 1, 0, 6, .rw, 0⟩
abbrev XRING_BASE_LO_BASE : Fld := ⟨0x044, 1, 0, 32, .rws, 0⟩
abbrev XRING_BASE_HI_BASE : Fld := ⟨0x048, 1, 0, 8, .rws, 0⟩
abbrev XRING_REC_RECU : Fld := ⟨0x04C, 1, 0, 11, .rws, 0⟩
abbrev XRING_REC_DEPTH : Fld := ⟨0x04C, 1, 16, 4, .rws, 0⟩
abbrev XRING_PROD_PROD_BASE : Fld := ⟨0x050, 1, 0, 14, .rws, 0⟩
abbrev XRING_PROD_STRIDE : Fld := ⟨0x050, 1, 16, 14, .rws, 0⟩
abbrev XRING_MODE_NPROD : Fld := ⟨0x054, 1, 0, 9, .rws, 0⟩
abbrev XRING_MODE_POLICY : Fld := ⟨0x054, 1, 12, 1, .rws, 0⟩
abbrev XRING_MODE_ORDER : Fld := ⟨0x054, 1, 13, 1, .rws, 0⟩
abbrev XRING_MODE_PART : Fld := ⟨0x054, 1, 16, 12, .rws, 0⟩
abbrev XRING_MODE_VALID : Fld := ⟨0x054, 1, 31, 1, .rws, 0⟩
abbrev XRING_MAXLAG_LAG : Fld := ⟨0x058, 1, 0, 16, .rws, 0xFFFF⟩
abbrev XRING_HELD_RECORDS : Fld := ⟨0x05C, 1, 0, 24, .ro, 0⟩
abbrev XRING_DROPPED_COUNT : Fld := ⟨0x060, 1, 0, 32, .ro, 0⟩
abbrev XRING_LAGGED_COUNT : Fld := ⟨0x064, 1, 0, 32, .ro, 0⟩
abbrev XRING_OVERRUN_COUNT : Fld := ⟨0x068, 1, 0, 32, .ro, 0⟩
abbrev XRING_CRC_COUNT : Fld := ⟨0x06C, 1, 0, 32, .ro, 0⟩
abbrev XRING_POP_N_COUNT : Fld := ⟨0x070, 4, 0, 13, .ro, 0⟩
-- PATCH: 12_serving.md R466
abbrev PATCH_SEL_INST : Fld := ⟨0x040, 1, 0, 4, .rw, 0⟩
abbrev PATCH_SEL_ENTRY : Fld := ⟨0x040, 1, 16, 16, .rw, 0⟩
abbrev PATCH_I_CFG_CORES : Fld := ⟨0x044, 1, 0, 4, .rws, 0⟩
abbrev PATCH_I_CFG_RMAX : Fld := ⟨0x044, 1, 4, 3, .rws, 0⟩
abbrev PATCH_I_CFG_MODEL : Fld := ⟨0x044, 1, 8, 4, .rws, 0⟩
abbrev PATCH_I_CFG_CTX : Fld := ⟨0x044, 1, 12, 6, .rws, 0⟩
abbrev PATCH_I_CFG_VALID : Fld := ⟨0x044, 1, 31, 1, .rws, 0⟩
abbrev PATCH_I_PART_PART : Fld := ⟨0x048, 1, 0, 12, .rws, 0⟩
abbrev PATCH_I_PART_ROWS : Fld := ⟨0x048, 1, 16, 10, .rws, 0⟩
abbrev PATCH_I_TBL_LO_TBL : Fld := ⟨0x04C, 1, 0, 32, .rws, 0⟩
abbrev PATCH_I_TBL_HI_TBL : Fld := ⟨0x050, 1, 0, 8, .rws, 0⟩
abbrev PATCH_I_STORE_LO_STORE : Fld := ⟨0x054, 1, 0, 32, .rws, 0⟩
abbrev PATCH_I_STORE_HI_STORE : Fld := ⟨0x058, 1, 0, 8, .rws, 0⟩
abbrev PATCH_I_RES_SEG : Fld := ⟨0x05C, 1, 0, 7, .rws, 0⟩
abbrev PATCH_I_RES_NRES : Fld := ⟨0x05C, 1, 8, 7, .rws, 0⟩
abbrev PATCH_I_RES_SLOT_TILES : Fld := ⟨0x05C, 1, 16, 16, .rws, 0⟩
abbrev PATCH_E_CFG_RANK : Fld := ⟨0x060, 1, 0, 3, .rws, 0⟩
abbrev PATCH_E_CFG_FMT : Fld := ⟨0x060, 1, 3, 1, .rws, 0⟩
abbrev PATCH_E_CFG_BLK : Fld := ⟨0x060, 1, 4, 2, .rws, 0⟩
abbrev PATCH_E_CFG_VALID : Fld := ⟨0x060, 1, 31, 1, .rws, 0⟩
abbrev PATCH_E_ALPHA_ALPHA : Fld := ⟨0x064, 1, 0, 32, .rws, 0⟩
abbrev PATCH_E_IMG_LO_IMG : Fld := ⟨0x068, 1, 0, 32, .rws, 0⟩
abbrev PATCH_E_IMG_HI_IMG : Fld := ⟨0x06C, 1, 0, 8, .rws, 0⟩
abbrev PATCH_E_TILES_TILES : Fld := ⟨0x070, 1, 0, 16, .rws, 0⟩
abbrev PATCH_E_GEN_GEN : Fld := ⟨0x074, 1, 0, 32, .rws, 0⟩
abbrev PATCH_I_POSTED_STEP : Fld := ⟨0x078, 1, 0, 32, .ro, 0⟩
abbrev PATCH_I_LATCHED_STEP : Fld := ⟨0x07C, 1, 0, 32, .ro, 0⟩
abbrev PATCH_ROW_FAIL_COUNT : Fld := ⟨0x080, 1, 0, 32, .ro, 0⟩
abbrev PATCH_LOADS_COUNT : Fld := ⟨0x084, 1, 0, 32, .ro, 0⟩
abbrev PATCH_LOAD_FAIL_COUNT : Fld := ⟨0x088, 1, 0, 32, .ro, 0⟩
-- PART: 13_partitions.md R498
abbrev PART_CORE_PART : Fld := ⟨0x040, 4, 0, 12, .rws, 0⟩
abbrev PART_CORE_RANK : Fld := ⟨0x040, 4, 12, 14, .rws, 0⟩
abbrev PART_CORE_VALID : Fld := ⟨0x040, 4, 31, 1, .rws, 0⟩
abbrev PART_GRANT_FIRST : Fld := ⟨0x050, 1, 0, 7, .rws, 0⟩
abbrev PART_GRANT_COUNT : Fld := ⟨0x050, 1, 8, 8, .rws, 0⟩
abbrev PART_GRANT_PART : Fld := ⟨0x050, 1, 16, 12, .rws, 0⟩
abbrev PART_GRANT_OP : Fld := ⟨0x050, 1, 31, 1, .rws, 0⟩
abbrev PART_SEG_SEL_SEG : Fld := ⟨0x054, 1, 0, 7, .rw, 0⟩
abbrev PART_SEG_INFO_STATE : Fld := ⟨0x058, 1, 0, 2, .ro, 0⟩
abbrev PART_SEG_INFO_ZEROING : Fld := ⟨0x058, 1, 2, 1, .ro, 0⟩
abbrev PART_SEG_INFO_PART : Fld := ⟨0x058, 1, 16, 12, .ro, 0⟩
abbrev PART_EVICT_CTRL_CORES : Fld := ⟨0x05C, 1, 0, 4, .rws, 0⟩
abbrev PART_EVICT_CTRL_DEADLINE : Fld := ⟨0x05C, 1, 16, 16, .rws, 0⟩
abbrev PART_EVICT_E_LO_E : Fld := ⟨0x060, 1, 0, 32, .rws, 0⟩
abbrev PART_EVICT_E_HI_E : Fld := ⟨0x064, 1, 0, 15, .rws, 0⟩
abbrev PART_EVICT_SAVE_LO_ADDR : Fld := ⟨0x068, 1, 0, 32, .rws, 0⟩
abbrev PART_EVICT_SAVE_HI_ADDR : Fld := ⟨0x06C, 1, 0, 8, .rws, 0⟩
abbrev PART_EVICT_STATUS_BUSY : Fld := ⟨0x070, 1, 0, 1, .ro, 0⟩
abbrev PART_EVICT_STATUS_STATUS : Fld := ⟨0x070, 1, 8, 8, .ro, 0⟩
abbrev PART_EVICT_STATUS_FORCED : Fld := ⟨0x070, 1, 16, 4, .ro, 0⟩
-- CTX: 13_partitions.md R499
abbrev CTX_BIND_PART : Fld := ⟨0x040, 1, 0, 12, .rws, 0⟩
abbrev CTX_BIND_CORES : Fld := ⟨0x040, 1, 16, 4, .rws, 0⟩
abbrev CTX_BIND_VALID : Fld := ⟨0x040, 1, 31, 1, .rws, 0⟩
abbrev CTX_WIN_BASE : Fld := ⟨0x044, 4, 0, 16, .rws, 0⟩
abbrev CTX_WIN_LEN : Fld := ⟨0x044, 4, 16, 16, .rws, 0⟩
abbrev CTX_SQ_ADDR : Fld := ⟨0x054, 2, 0, 32, .rws, 0⟩
abbrev CTX_CQ_ADDR : Fld := ⟨0x05C, 2, 0, 32, .rws, 0⟩
abbrev CTX_QCTRL_ENABLE : Fld := ⟨0x064, 1, 0, 1, .rws, 0⟩
abbrev CTX_SQ_DB_TAIL : Fld := ⟨0x068, 1, 0, 9, .wo, 0⟩
abbrev CTX_CQ_DB_HEAD : Fld := ⟨0x06C, 1, 0, 9, .wo, 0⟩
abbrev CTX_SQ_STATE_HEAD : Fld := ⟨0x070, 1, 0, 9, .ro, 0⟩
abbrev CTX_SQ_STATE_TAIL : Fld := ⟨0x070, 1, 16, 9, .ro, 0⟩
abbrev CTX_CQ_STATE_HEAD : Fld := ⟨0x074, 1, 0, 9, .ro, 0⟩
abbrev CTX_CQ_STATE_TAIL : Fld := ⟨0x074, 1, 16, 9, .ro, 0⟩
abbrev CTX_CQ_STATE_FULL : Fld := ⟨0x074, 1, 31, 1, .ro, 0⟩
abbrev CTX_ERR_DB_BAD : Fld := ⟨0x078, 1, 0, 8, .ro, 0⟩
abbrev CTX_HELD_COUNT : Fld := ⟨0x07C, 1, 0, 7, .ro, 0⟩
-- HEADER: 14_pages.md R511
abbrev PAGE_ID_PAGE : Fld := ⟨0x000, 1, 0, 12, .ro, 0⟩
abbrev PAGE_ID_BLOCK : Fld := ⟨0x000, 1, 12, 8, .ro, 0⟩
abbrev PAGE_REV_MINOR : Fld := ⟨0x004, 1, 0, 8, .ro, 0⟩
abbrev PAGE_REV_MAJOR : Fld := ⟨0x004, 1, 8, 8, .ro, 1⟩
abbrev PAGE_CTRL_INT_EN : Fld := ⟨0x008, 1, 0, 1, .rw, 1⟩
abbrev PAGE_STATUS_LOCKED : Fld := ⟨0x00C, 1, 0, 1, .ro, 0⟩
abbrev PAGE_STATUS_STAGED : Fld := ⟨0x00C, 1, 1, 1, .ro, 0⟩
abbrev PAGE_STATUS_READY : Fld := ⟨0x00C, 1, 2, 1, .ro, 0⟩
abbrev PAGE_STATUS_LAST_PATH : Fld := ⟨0x00C, 1, 4, 2, .ro, 0⟩
abbrev PAGE_STATUS_LAST_VF : Fld := ⟨0x00C, 1, 8, 6, .ro, 0⟩
abbrev INT_RAW_RAW : Fld := ⟨0x010, 1, 0, 31, .ro, 0⟩
abbrev INT_RAW_VIOL : Fld := ⟨0x010, 1, 31, 1, .ro, 0⟩
abbrev INT_STATUS_STATUS : Fld := ⟨0x014, 1, 0, 32, .w1c, 0⟩
abbrev INT_ENABLE_ENABLE : Fld := ⟨0x018, 1, 0, 32, .rw, 0⟩
abbrev INT_SEVERITY_ALERT_MIN : Fld := ⟨0x01C, 1, 0, 3, .rw, 5⟩
abbrev COMMIT_APPLY : Fld := ⟨0x020, 1, 0, 1, .wo, 0⟩
abbrev COMMIT_DISCARD : Fld := ⟨0x020, 1, 1, 1, .wo, 0⟩
abbrev COMMIT_STATUS_STATUS : Fld := ⟨0x024, 1, 0, 8, .ro, 0⟩
abbrev COMMIT_STATUS_GROUP : Fld := ⟨0x024, 1, 8, 4, .ro, 0⟩
abbrev COMMIT_STATUS_SEQ : Fld := ⟨0x024, 1, 16, 16, .ro, 0⟩
abbrev PAGE_LOCK_LOCK : Fld := ⟨0x028, 1, 0, 1, .w1s, 0⟩
abbrev VIOLATION_LOCK_WRITE : Fld := ⟨0x02C, 1, 0, 1, .w1c, 0⟩
abbrev VIOLATION_WO_REWRITE : Fld := ⟨0x02C, 1, 1, 1, .w1c, 0⟩
abbrev VIOLATION_VF_DENIED : Fld := ⟨0x02C, 1, 2, 1, .w1c, 0⟩
abbrev VIOLATION_PARTIAL : Fld := ⟨0x02C, 1, 3, 1, .w1c, 0⟩
abbrev VIOLATION_COMMIT_BAD : Fld := ⟨0x02C, 1, 4, 1, .w1c, 0⟩
abbrev VIOLATION_ADDR_OFFSET : Fld := ⟨0x030, 1, 0, 12, .ro, 0⟩
abbrev VIOLATION_ADDR_PATH : Fld := ⟨0x030, 1, 12, 2, .ro, 0⟩
abbrev VIOLATION_ADDR_VF : Fld := ⟨0x030, 1, 16, 6, .ro, 0⟩
abbrev VIOLATION_ADDR_MORE : Fld := ⟨0x030, 1, 31, 1, .ro, 0⟩
abbrev SCRATCH_DATA : Fld := ⟨0x034, 1, 0, 32, .rw, 0⟩
-- CHIP: 14_pages.md R530
abbrev CHIP_ID_PART : Fld := ⟨0x040, 1, 0, 16, .ro, 0x0B01⟩
abbrev CHIP_ID_REV : Fld := ⟨0x040, 1, 16, 8, .ro, 0xB1⟩
abbrev CHIP_SERIAL_LO_SERIAL : Fld := ⟨0x044, 1, 0, 32, .ro, 0⟩
abbrev CHIP_SERIAL_HI_SERIAL : Fld := ⟨0x048, 1, 0, 32, .ro, 0⟩
abbrev CHIP_PCN_PCN : Fld := ⟨0x04C, 1, 0, 12, .rws, 0⟩
abbrev CHIP_PCN_VALID : Fld := ⟨0x04C, 1, 31, 1, .rws, 0⟩
abbrev CHIP_STATUS_CORES_USABLE : Fld := ⟨0x050, 1, 0, 4, .ro, 0xF⟩
abbrev CHIP_STATUS_CAL_VALID : Fld := ⟨0x050, 1, 4, 1, .ro, 0⟩
abbrev CHIP_STATUS_SHELF_RO : Fld := ⟨0x050, 1, 5, 1, .ro, 0⟩
abbrev CHIP_STATUS_ALIGNED : Fld := ⟨0x050, 1, 6, 1, .ro, 0⟩
abbrev CHIP_STATUS_FATAL_SEEN : Fld := ⟨0x050, 1, 8, 1, .ro, 0⟩
abbrev CHIP_STATUS_MGMT_UP : Fld := ⟨0x050, 1, 9, 1, .ro, 0⟩
abbrev CHIP_XMEM_SEGMENTS : Fld := ⟨0x054, 1, 0, 8, .ro, 128⟩
abbrev CHIP_XMEM_MIB : Fld := ⟨0x054, 1, 16, 12, .ro, 2048⟩
abbrev CHIP_ALERT_PEND : Fld := ⟨0x058, 1, 0, 1, .w1c, 0⟩
abbrev CHIP_ALERT_EVENT_EVENT : Fld := ⟨0x05C, 1, 0, 24, .ro, 0⟩
abbrev CHIP_INT_SUM_PAGES : Fld := ⟨0x060, 8, 0, 32, .ro, 0⟩
abbrev CHIP_RESET_DROP_COUNT : Fld := ⟨0x080, 1, 0, 32, .ro, 0⟩
abbrev CHIP_RESET_LAST_PAGE : Fld := ⟨0x084, 1, 0, 12, .ro, 0⟩
abbrev CHIP_RESET_LAST_PATH : Fld := ⟨0x084, 1, 12, 2, .ro, 0⟩
abbrev CHIP_RESET_LAST_WRITE : Fld := ⟨0x084, 1, 15, 1, .ro, 0⟩
abbrev CHIP_UNMAPPED_COUNT : Fld := ⟨0x088, 1, 0, 32, .ro, 0⟩
-- HOSTIF: 14_pages.md R534
abbrev HOSTIF_LINK_SPEED : Fld := ⟨0x040, 1, 0, 3, .ro, 0⟩
abbrev HOSTIF_LINK_WIDTH : Fld := ⟨0x040, 1, 4, 5, .ro, 0⟩
abbrev HOSTIF_LINK_DL_UP : Fld := ⟨0x040, 1, 16, 1, .ro, 0⟩
abbrev HOSTIF_SRIOV_NUMVF : Fld := ⟨0x044, 1, 0, 7, .ro, 0⟩
abbrev HOSTIF_SRIOV_VF_EN : Fld := ⟨0x044, 1, 8, 1, .ro, 0⟩
abbrev HOSTIF_AER_CE_COUNT : Fld := ⟨0x048, 1, 0, 32, .ro, 0⟩
abbrev HOSTIF_AER_UE_COUNT : Fld := ⟨0x04C, 1, 0, 32, .ro, 0⟩
abbrev HOSTIF_MGMT_SMBUS_DEAD : Fld := ⟨0x050, 1, 0, 1, .ro, 0⟩
abbrev HOSTIF_MBOX_CTRL_POST : Fld := ⟨0x054, 1, 0, 1, .wo, 0⟩
abbrev HOSTIF_MBOX_STATUS_REPLY : Fld := ⟨0x058, 1, 0, 1, .ro, 0⟩
abbrev HOSTIF_MBOX_STATUS_STATUS : Fld := ⟨0x058, 1, 8, 8, .ro, 0⟩
abbrev HOSTIF_MBOX_STATUS_LEN : Fld := ⟨0x058, 1, 16, 9, .ro, 0⟩
abbrev HOSTIF_BAR_DROP_COUNT : Fld := ⟨0x05C, 1, 0, 32, .ro, 0⟩
abbrev HOSTIF_FLR_COUNT : Fld := ⟨0x060, 1, 0, 32, .ro, 0⟩
abbrev HOSTIF_MBOX_DATA_DATA : Fld := ⟨0x100, 64, 0, 32, .rw, 0⟩
-- CLK: 15_clocks_power.md R570
abbrev CLK_STATUS_GEAR : Fld := ⟨0x040, 1, 0, 3, .ro, 4⟩
abbrev CLK_STATUS_LOCKED : Fld := ⟨0x040, 1, 3, 1, .ro, 0⟩
abbrev CLK_STATUS_REF_HOLD : Fld := ⟨0x040, 1, 4, 1, .ro, 0⟩
abbrev CLK_STATUS_LIMITS : Fld := ⟨0x040, 1, 8, 5, .ro, 0⟩
abbrev CLK_GEAR_GEAR : Fld := ⟨0x044, 1, 0, 3, .rws, 4⟩
abbrev CLK_GEAR_E_LO_E : Fld := ⟨0x048, 1, 0, 32, .rws, 0⟩
abbrev CLK_GEAR_E_HI_E : Fld := ⟨0x04C, 1, 0, 15, .rws, 0⟩
abbrev CLK_GEAR_PEND_GEAR : Fld := ⟨0x050, 1, 0, 3, .ro, 0⟩
abbrev CLK_GEAR_PEND_VALID : Fld := ⟨0x050, 1, 31, 1, .ro, 0⟩
abbrev CLK_REF_SRC : Fld := ⟨0x054, 1, 0, 1, .rw, 0⟩
abbrev CLK_CHANGES_COUNT : Fld := ⟨0x058, 1, 0, 32, .ro, 0⟩
abbrev CLK_PAUSE_TICKS_TICKS : Fld := ⟨0x05C, 1, 0, 32, .ro, 0⟩
abbrev CLK_RELAY_FAIL_COUNT : Fld := ⟨0x060, 1, 0, 32, .ro, 0⟩
abbrev CLK_RELAY_PCN : Fld := ⟨0x080, 16, 0, 12, .rw, 0⟩
abbrev CLK_RELAY_FWD : Fld := ⟨0x080, 16, 30, 1, .rw, 0⟩
abbrev CLK_RELAY_VALID : Fld := ⟨0x080, 16, 31, 1, .rw, 0⟩
-- PWR: 15_clocks_power.md R571
abbrev PWR_CAP_CAP : Fld := ⟨0x040, 1, 0, 8, .rws, 115⟩
abbrev PWR_CAP_IN_FORCE_CAP : Fld := ⟨0x044, 1, 0, 8, .ro, 115⟩
abbrev PWR_CAP_IN_FORCE_UNMET : Fld := ⟨0x044, 1, 8, 1, .ro, 0⟩
abbrev PWR_CAP_IN_FORCE_CAP_GEAR : Fld := ⟨0x044, 1, 16, 3, .ro, 4⟩
abbrev PWR_MEAS_DECIW : Fld := ⟨0x048, 1, 0, 12, .ro, 0⟩
abbrev PWR_PEAK_DECIW : Fld := ⟨0x04C, 1, 0, 12, .ro, 0⟩
abbrev PWR_AVS_VOLT : Fld := ⟨0x050, 1, 0, 32, .ro, 0xA0A0A0A0⟩
abbrev PWR_CTRL_PEAK_CLR : Fld := ⟨0x054, 1, 0, 1, .wo, 0⟩
abbrev PWR_STRETCH_CNT_COUNT : Fld := ⟨0x058, 1, 0, 32, .ro, 0⟩
abbrev PWR_STRETCH_TIME_TIME : Fld := ⟨0x05C, 1, 0, 32, .ro, 0⟩
abbrev PWR_FAIL_STEP : Fld := ⟨0x060, 1, 0, 3, .ro, 0⟩
abbrev PWR_FAIL_RETURNED : Fld := ⟨0x060, 1, 8, 1, .ro, 0⟩
abbrev PWR_FAIL_LAST_US : Fld := ⟨0x064, 1, 0, 16, .ro, 0⟩
abbrev PWR_FAIL_LAST_STEP : Fld := ⟨0x064, 1, 16, 3, .ro, 0⟩
-- THERM: 15_clocks_power.md R572
abbrev THERM_MAX_TEMP : Fld := ⟨0x040, 1, 0, 11, .ro, 0⟩
abbrev THERM_MAX_SENSOR : Fld := ⟨0x040, 1, 16, 5, .ro, 0⟩
abbrev THERM_LIMITS_THROTTLE : Fld := ⟨0x044, 1, 0, 8, .ro, 95⟩
abbrev THERM_LIMITS_RELEASE : Fld := ⟨0x044, 1, 8, 8, .ro, 90⟩
abbrev THERM_LIMITS_TRIP : Fld := ⟨0x044, 1, 16, 8, .ro, 105⟩
abbrev THERM_STATE_TGEAR : Fld := ⟨0x048, 1, 0, 3, .ro, 0⟩
abbrev THERM_STATE_THROTTLING : Fld := ⟨0x048, 1, 3, 1, .ro, 0⟩
abbrev THERM_STATE_EXCLUDED : Fld := ⟨0x048, 1, 8, 24, .ro, 0⟩
abbrev THERM_PEAK_TEMP : Fld := ⟨0x04C, 1, 0, 11, .ro, 0⟩
abbrev THERM_CTRL_PEAK_CLR : Fld := ⟨0x050, 1, 0, 1, .wo, 0⟩
abbrev THERM_SENS_TEMP : Fld := ⟨0x080, 24, 0, 11, .ro, 0⟩
-- LINT: 17_lint.md R627
abbrev LINT_CTRL_MIN_SEV : Fld := ⟨0x040, 1, 0, 3, .rwl, 0⟩
abbrev LINT_CTRL_MIRROR_EN : Fld := ⟨0x040, 1, 8, 1, .rwl, 1⟩
abbrev LINT_USED_RECORDS : Fld := ⟨0x044, 1, 0, 13, .ro, 0⟩
abbrev LINT_USED_BAD : Fld := ⟨0x044, 1, 16, 13, .ro, 0⟩
abbrev LINT_MODE_DEGRADED : Fld := ⟨0x048, 1, 0, 1, .ro, 0⟩
abbrev LINT_MODE_MIRROR_BUSY : Fld := ⟨0x048, 1, 1, 1, .ro, 0⟩
abbrev LINT_MODE_SEQ_EXHAUSTED : Fld := ⟨0x048, 1, 2, 1, .ro, 0⟩
abbrev LINT_SEQ_LO_SEQ : Fld := ⟨0x04C, 1, 0, 32, .ro, 0⟩
abbrev LINT_SEQ_HI_SEQ : Fld := ⟨0x050, 1, 0, 16, .ro, 0⟩
abbrev LINT_DROPPED_COUNT : Fld := ⟨0x054, 1, 0, 32, .ro, 0⟩
abbrev LINT_FILTERED_COUNT : Fld := ⟨0x058, 1, 0, 32, .ro, 0⟩
abbrev LINT_LASTGASP_CODE : Fld := ⟨0x05C, 1, 0, 8, .ro, 0⟩
abbrev LINT_LASTGASP_SLOT : Fld := ⟨0x05C, 1, 8, 12, .ro, 0⟩
abbrev LINT_LASTGASP_ACK : Fld := ⟨0x05C, 1, 31, 1, .wo, 0⟩
abbrev LINT_RD_SEL_SLOT : Fld := ⟨0x060, 1, 0, 12, .rw, 0⟩
abbrev LINT_RD_SEL_RING : Fld := ⟨0x060, 1, 16, 1, .rw, 0⟩
abbrev LINT_RD_STATUS_STATUS : Fld := ⟨0x064, 1, 0, 8, .ro, 0⟩
abbrev LINT_RD_DATA_DATA : Fld := ⟨0x080, 16, 0, 32, .ro, 0⟩
abbrev LINT_CLEAR_REQ : Fld := ⟨0x0C0, 1, 0, 1, .wo, 0⟩
abbrev LINT_CLEAR_UPTO_LO_SEQ : Fld := ⟨0x0C4, 1, 0, 32, .rw, 0⟩
abbrev LINT_CLEAR_UPTO_HI_SEQ : Fld := ⟨0x0C8, 1, 0, 16, .rw, 0⟩
abbrev LINT_CLEAR_STATUS_STATUS : Fld := ⟨0x0CC, 1, 0, 8, .ro, 0⟩
abbrev LINT_MIRROR_STATUS_STATUS : Fld := ⟨0x0D0, 1, 0, 8, .ro, 0⟩
abbrev LINT_MIRROR_STATUS_IMAGE : Fld := ⟨0x0D0, 1, 8, 6, .ro, 0⟩
abbrev LINT_MIRRORS_COUNT : Fld := ⟨0x0D4, 1, 0, 32, .ro, 0⟩
-- LINTSNAP: 17_lint.md R629
abbrev LINTSNAP_SEL_ENTRY : Fld := ⟨0x040, 1, 0, 6, .rw, 0⟩
abbrev LINTSNAP_MATCH_EVENT : Fld := ⟨0x044, 1, 0, 24, .rws, 0⟩
abbrev LINTSNAP_MATCH_PAGE_ONLY : Fld := ⟨0x044, 1, 24, 1, .rws, 0⟩
abbrev LINTSNAP_MATCH_NREG : Fld := ⟨0x044, 1, 25, 4, .rws, 0⟩
abbrev LINTSNAP_MATCH_VALID : Fld := ⟨0x044, 1, 31, 1, .rws, 0⟩
abbrev LINTSNAP_REG_PAGE : Fld := ⟨0x048, 8, 0, 12, .rws, 0⟩
abbrev LINTSNAP_REG_WORD : Fld := ⟨0x048, 8, 12, 10, .rws, 0⟩
-- MGMT: 18_access.md R658
abbrev MGMT_STATUS_SMBUS : Fld := ⟨0x040, 1, 0, 2, .ro, 0⟩
abbrev MGMT_STATUS_PATH : Fld := ⟨0x040, 1, 4, 1, .ro, 0⟩
abbrev MGMT_STATUS_ADDR : Fld := ⟨0x040, 1, 8, 7, .ro, 0⟩
abbrev MGMT_VID_VID : Fld := ⟨0x044, 1, 0, 32, .ro, 0⟩
abbrev MGMT_FW_IMAGE : Fld := ⟨0x048, 1, 0, 1, .ro, 0⟩
abbrev MGMT_FW_TRIAL : Fld := ⟨0x048, 1, 1, 1, .ro, 0⟩
abbrev MGMT_FW_ERASING : Fld := ⟨0x048, 1, 2, 1, .ro, 0⟩
abbrev MGMT_FW_SEQ_SEQ : Fld := ⟨0x04C, 1, 0, 32, .ro, 0⟩
abbrev MGMT_QSC_QSC_MASK : Fld := ⟨0x050, 1, 0, 1, .rwl, 0⟩
abbrev MGMT_QSC_LINE : Fld := ⟨0x050, 1, 1, 1, .ro, 0⟩
abbrev MGMT_QSC_QUIESCED : Fld := ⟨0x050, 1, 2, 1, .ro, 0⟩
abbrev MGMT_QSC_HELD : Fld := ⟨0x050, 1, 4, 4, .ro, 0⟩
abbrev MGMT_SMB_RESETS_COUNT : Fld := ⟨0x054, 1, 0, 32, .ro, 0⟩
-- ACCESS: 18_access.md R658
abbrev ACCESS_STATE_LEVEL : Fld := ⟨0x040, 1, 0, 2, .ro, 0⟩
abbrev ACCESS_STATE_CLEAR_AUTH : Fld := ⟨0x040, 1, 2, 1, .ro, 0⟩
abbrev ACCESS_STATE_PW_SET : Fld := ⟨0x040, 1, 3, 1, .ro, 0⟩
abbrev ACCESS_STATE_PW_FAILS : Fld := ⟨0x040, 1, 8, 8, .ro, 0⟩
abbrev ACCESS_STATE_PW_LOCKOUT : Fld := ⟨0x040, 1, 16, 1, .ro, 0⟩
abbrev ACCESS_CTRL_OPEN_PW : Fld := ⟨0x044, 1, 0, 1, .wo, 0⟩
abbrev ACCESS_CTRL_CHAL : Fld := ⟨0x044, 1, 1, 1, .wo, 0⟩
abbrev ACCESS_CTRL_RESP : Fld := ⟨0x044, 1, 2, 1, .wo, 0⟩
abbrev ACCESS_CTRL_CLOSE : Fld := ⟨0x044, 1, 3, 1, .wo, 0⟩
abbrev ACCESS_CTRL_REQ_LEVEL : Fld := ⟨0x044, 1, 4, 2, .rw, 0⟩
abbrev ACCESS_STATUS_STATUS : Fld := ⟨0x048, 1, 0, 8, .ro, 0⟩
abbrev ACCESS_OWNER_PW_DIGEST : Fld := ⟨0x050, 4, 0, 32, .woc, 0⟩
abbrev ACCESS_TRY_TRY : Fld := ⟨0x060, 8, 0, 32, .wo, 0⟩
abbrev ACCESS_NONCE_NONCE : Fld := ⟨0x080, 4, 0, 32, .ro, 0⟩
abbrev ACCESS_SIG_SIG : Fld := ⟨0x0A0, 16, 0, 32, .wo, 0⟩
-- CAL: 18_access.md R658
abbrev CAL_STATUS_CAL_VALID : Fld := ⟨0x040, 1, 0, 1, .ro, 0⟩
abbrev CAL_STATUS_PAGE_OK : Fld := ⟨0x040, 1, 1, 1, .ro, 0⟩
abbrev CAL_STATUS_FACTORY : Fld := ⟨0x040, 1, 2, 6, .ro, 0⟩
abbrev CAL_STATUS_NOR_BUSY : Fld := ⟨0x040, 1, 8, 1, .ro, 0⟩
abbrev CAL_STATUS_NOR_STATUS : Fld := ⟨0x040, 1, 16, 8, .ro, 0⟩
abbrev CAL_SEL_SECTION : Fld := ⟨0x044, 1, 0, 4, .rw, 0⟩
abbrev CAL_SEL_INDEX : Fld := ⟨0x044, 1, 8, 8, .rw, 0⟩
abbrev CAL_DATA_DATA : Fld := ⟨0x048, 1, 0, 32, .rws, 0⟩
abbrev CAL_DERIVE_PORTS : Fld := ⟨0x04C, 1, 0, 12, .wo, 0⟩
abbrev CAL_DERIVE_LAMPS : Fld := ⟨0x04C, 1, 12, 2, .wo, 0⟩
abbrev CAL_DERIVE_START : Fld := ⟨0x04C, 1, 31, 1, .wo, 0⟩
abbrev CAL_DERIVE_STATUS_STATUS : Fld := ⟨0x050, 1, 0, 8, .ro, 0⟩
abbrev CAL_DERIVE_STATUS_FAILED : Fld := ⟨0x050, 1, 8, 12, .ro, 0⟩
-- REPAIR: 18_access.md R658
abbrev REPAIR_STATUS_ENTRIES : Fld := ⟨0x040, 1, 0, 14, .ro, 0⟩
abbrev REPAIR_STATUS_FULL : Fld := ⟨0x040, 1, 31, 1, .ro, 0⟩
abbrev REPAIR_SEL_ENTRY : Fld := ⟨0x044, 1, 0, 13, .rw, 0⟩
abbrev REPAIR_ENTRY_DATA : Fld := ⟨0x048, 2, 0, 32, .ro, 0⟩
-- LAMP: 18_access.md R658
abbrev LAMP_CFG_DUTY : Fld := ⟨0x040, 2, 0, 10, .rws, 0⟩
abbrev LAMP_CFG_MODE : Fld := ⟨0x040, 2, 10, 2, .rws, 0⟩
abbrev LAMP_CTRL_STRETCH_EN : Fld := ⟨0x048, 1, 0, 1, .rw, 1⟩
abbrev LAMP_CTRL_AUTO : Fld := ⟨0x048, 1, 1, 1, .rw, 1⟩
abbrev LAMP_STATUS_LAMP0 : Fld := ⟨0x04C, 1, 0, 3, .ro, 0⟩
abbrev LAMP_STATUS_LAMP1 : Fld := ⟨0x04C, 1, 4, 3, .ro, 0⟩

/-- Fields of the common page header, 14_pages.md R511: identity and status, interrupts (R512), COMMIT (R518), the lock and
violations (R517). -/
def headerFields : List Fld :=
  [PAGE_ID_PAGE, PAGE_ID_BLOCK, PAGE_REV_MINOR, PAGE_REV_MAJOR, PAGE_CTRL_INT_EN]
  ++ [PAGE_STATUS_LOCKED, PAGE_STATUS_STAGED, PAGE_STATUS_READY, PAGE_STATUS_LAST_PATH, PAGE_STATUS_LAST_VF]
  ++ [INT_RAW_RAW, INT_RAW_VIOL, INT_STATUS_STATUS, INT_ENABLE_ENABLE, INT_SEVERITY_ALERT_MIN]
  ++ [COMMIT_APPLY, COMMIT_DISCARD, COMMIT_STATUS_STATUS, COMMIT_STATUS_GROUP, COMMIT_STATUS_SEQ]
  ++ [PAGE_LOCK_LOCK, VIOLATION_LOCK_WRITE, VIOLATION_WO_REWRITE, VIOLATION_VF_DENIED, VIOLATION_PARTIAL, VIOLATION_COMMIT_BAD]
  ++ [VIOLATION_ADDR_OFFSET, VIOLATION_ADDR_PATH, VIOLATION_ADDR_VF, VIOLATION_ADDR_MORE, SCRATCH_DATA]

/-- Fields of the CHIP page. -/
def chipFields : List Fld :=
  [CHIP_ID_PART, CHIP_ID_REV, CHIP_SERIAL_LO_SERIAL, CHIP_SERIAL_HI_SERIAL,
   CHIP_PCN_PCN, CHIP_PCN_VALID, CHIP_STATUS_CORES_USABLE, CHIP_STATUS_CAL_VALID,
   CHIP_STATUS_SHELF_RO, CHIP_STATUS_ALIGNED, CHIP_STATUS_FATAL_SEEN, CHIP_STATUS_MGMT_UP,
   CHIP_XMEM_SEGMENTS, CHIP_XMEM_MIB, CHIP_ALERT_PEND, CHIP_ALERT_EVENT_EVENT,
   CHIP_INT_SUM_PAGES, CHIP_RESET_DROP_COUNT, CHIP_RESET_LAST_PAGE, CHIP_RESET_LAST_PATH,
   CHIP_RESET_LAST_WRITE, CHIP_UNMAPPED_COUNT]
/-- Fields of the CLK page. -/
def clkFields : List Fld :=
  [CLK_STATUS_GEAR, CLK_STATUS_LOCKED, CLK_STATUS_REF_HOLD, CLK_STATUS_LIMITS,
   CLK_GEAR_GEAR, CLK_GEAR_E_LO_E, CLK_GEAR_E_HI_E, CLK_GEAR_PEND_GEAR,
   CLK_GEAR_PEND_VALID, CLK_REF_SRC, CLK_CHANGES_COUNT, CLK_PAUSE_TICKS_TICKS,
   CLK_RELAY_FAIL_COUNT, CLK_RELAY_PCN, CLK_RELAY_FWD, CLK_RELAY_VALID]
/-- Fields of the PWR page. -/
def pwrFields : List Fld :=
  [PWR_CAP_CAP, PWR_CAP_IN_FORCE_CAP, PWR_CAP_IN_FORCE_UNMET, PWR_CAP_IN_FORCE_CAP_GEAR,
   PWR_MEAS_DECIW, PWR_PEAK_DECIW, PWR_AVS_VOLT, PWR_CTRL_PEAK_CLR,
   PWR_STRETCH_CNT_COUNT, PWR_STRETCH_TIME_TIME, PWR_FAIL_STEP, PWR_FAIL_RETURNED,
   PWR_FAIL_LAST_US, PWR_FAIL_LAST_STEP]
/-- Fields of the THERM page. -/
def thermFields : List Fld :=
  [THERM_MAX_TEMP, THERM_MAX_SENSOR, THERM_LIMITS_THROTTLE, THERM_LIMITS_RELEASE,
   THERM_LIMITS_TRIP, THERM_STATE_TGEAR, THERM_STATE_THROTTLING, THERM_STATE_EXCLUDED,
   THERM_PEAK_TEMP, THERM_CTRL_PEAK_CLR, THERM_SENS_TEMP]
/-- Fields of the LAMP page. -/
def lampFields : List Fld :=
  [LAMP_CFG_DUTY, LAMP_CFG_MODE, LAMP_CTRL_STRETCH_EN, LAMP_CTRL_AUTO,
   LAMP_STATUS_LAMP0, LAMP_STATUS_LAMP1]
/-- Fields of the MGMT page. -/
def mgmtFields : List Fld :=
  [MGMT_STATUS_SMBUS, MGMT_STATUS_PATH, MGMT_STATUS_ADDR, MGMT_VID_VID,
   MGMT_FW_IMAGE, MGMT_FW_TRIAL, MGMT_FW_ERASING, MGMT_FW_SEQ_SEQ,
   MGMT_QSC_QSC_MASK, MGMT_QSC_LINE, MGMT_QSC_QUIESCED, MGMT_QSC_HELD,
   MGMT_SMB_RESETS_COUNT]
/-- Fields of the ACCESS page. -/
def accessFields : List Fld :=
  [ACCESS_STATE_LEVEL, ACCESS_STATE_CLEAR_AUTH, ACCESS_STATE_PW_SET, ACCESS_STATE_PW_FAILS,
   ACCESS_STATE_PW_LOCKOUT, ACCESS_CTRL_OPEN_PW, ACCESS_CTRL_CHAL, ACCESS_CTRL_RESP,
   ACCESS_CTRL_CLOSE, ACCESS_CTRL_REQ_LEVEL, ACCESS_STATUS_STATUS, ACCESS_OWNER_PW_DIGEST,
   ACCESS_TRY_TRY, ACCESS_NONCE_NONCE, ACCESS_SIG_SIG]
/-- Fields of the CAL page. -/
def calFields : List Fld :=
  [CAL_STATUS_CAL_VALID, CAL_STATUS_PAGE_OK, CAL_STATUS_FACTORY, CAL_STATUS_NOR_BUSY,
   CAL_STATUS_NOR_STATUS, CAL_SEL_SECTION, CAL_SEL_INDEX, CAL_DATA_DATA,
   CAL_DERIVE_PORTS, CAL_DERIVE_LAMPS, CAL_DERIVE_START, CAL_DERIVE_STATUS_STATUS,
   CAL_DERIVE_STATUS_FAILED]
/-- Fields of the REPAIR page. -/
def repairFields : List Fld :=
  [REPAIR_STATUS_ENTRIES, REPAIR_STATUS_FULL, REPAIR_SEL_ENTRY, REPAIR_ENTRY_DATA]
/-- Fields of the CORE pages. -/
def coreFields : List Fld :=
  [CORE_CTRL_HALT_REQ, CORE_CTRL_STEP, CORE_CTRL_BRK_EN, CORE_STATE_STATE,
   CORE_STATE_PC, CORE_FAULT_STATUS, CORE_FAULT_REASON, CORE_FAULT_PC,
   CORE_FAULT_SLOT, CORE_FAULT_VALID, CORE_IMEM_VALID_VALID, CORE_CYC_LO_CYC,
   CORE_CYC_HI_CYC, CORE_WAIT_HELD_COUNT, CORE_WAIT_TICKS_TICKS, CORE_WAIT_MAX_TICKS,
   CORE_WAIT_MAX_PC_PC, CORE_WAIT_MAX_PC_BSLOT, CORE_EPOCH_TICKS_TICKS, CORE_STRETCH_CNT_COUNT,
   CORE_STRETCH_TIME_TIME, CORE_DEFER_CMEM, CORE_DEFER_XMEM, CORE_CONTRACT_CTRL_WAIT_EVENT_EN,
   CORE_CONTRACT_CTRL_COUNT_CLR, CORE_HOLD_CCLK_CCLK, CORE_BSLOT_READS, CORE_BSLOT_INIT,
   CORE_BSLOT_TAG, CORE_BSLOT_RC]
/-- Fields of the CMEM pages. -/
def cmemFields : List Fld :=
  [CMEM_ECC_CE_COUNT, CMEM_ECC_UE_COUNT, CMEM_SPARE_LO_USED, CMEM_SPARE_HI_USED,
   CMEM_DARN_PEND_BANKS, CMEM_DARN_PEND_MAPPED_OUT, CMEM_LAST_ERR_BANK, CMEM_LAST_ERR_ROW,
   CMEM_LAST_ERR_MEM, CMEM_LAST_ERR_UE, CMEM_SCRUB_CTRL_LEVEL, CMEM_SCRUB_CTRL_MIN_LEVEL,
   CMEM_BIST_START, CMEM_BIST_STATUS, CMEM_BIST_DONE]
/-- Fields of the XMEM page. -/
def xmemFields : List Fld :=
  [XMEM_ECC_CE_COUNT, XMEM_ECC_UE_COUNT, XMEM_LAST_ERR_BANK, XMEM_LAST_ERR_ROW,
   XMEM_LAST_ERR_UE, XMEM_HEALTH_BANKS_OUT, XMEM_HEALTH_DARN_PEND, XMEM_WITHHELD_SEG,
   XMEM_SCRUB_CTRL_LEVEL, XMEM_SCRUB_CTRL_MIN_LEVEL, XMEM_SCRUB_PASS_COUNT, XMEM_BIST_SEG,
   XMEM_BIST_START, XMEM_BIST_STATUS, XMEM_BIST_DONE]
/-- Fields of the XCACHE page. -/
def xcacheFields : List Fld :=
  [XCACHE_CFG_STEPS, XCACHE_CFG_BASE, XCACHE_STATE_STATE, XCACHE_STATE_TAG_LOST,
   XCACHE_HITS_COUNT, XCACHE_MISSES_COUNT, XCACHE_WB_COUNT, XCACHE_DIRTY_LINES,
   XCACHE_POISON_LINES]
/-- Fields of the DRAM page. -/
def dramFields : List Fld :=
  [DRAM_STATUS_TRAINED, DRAM_STATUS_REFRESH, DRAM_LINK_CE_COUNT, DRAM_LINK_UE_COUNT,
   DRAM_POISON_ENTRIES, DRAM_POISON_LOST]
/-- Fields of the SHELF page. -/
def shelfFields : List Fld :=
  [SHELF_STATE_RO_PRESERVE, SHELF_WEAR_WEAR_PCT, SHELF_WEAR_SPARE_PCT, SHELF_RETIRED_BLOCKS,
   SHELF_PROG_TIME_US, SHELF_MEDIA_UE_COUNT, SHELF_NS_SEL_NS, SHELF_NS_BASE_LBA,
   SHELF_NS_LEN_BLOCKS, SHELF_NS_OWNER_PART, SHELF_NS_OWNER_VALID, SHELF_NS_STATE_CLEARING]
/-- Fields of the TIER page. -/
def tierFields : List Fld :=
  [TIER_QUEUE_CORE, TIER_HOSTQ_DEPTH, TIER_LAST_FAIL_STATUS, TIER_LAST_FAIL_QUEUE,
   TIER_LAST_FAIL_TILE_TILE, TIER_CRC_ERR_COUNT, TIER_SH_SEL_ENTRY, TIER_SH_DRAM_BASE,
   TIER_SH_PAGES_PAGES, TIER_SH_NS_NSID, TIER_SH_LBA_LBA, TIER_SH_STATE_STATE,
   TIER_SH_STATE_DIRTY]
/-- Fields of the SCALE page. -/
def scaleFields : List Fld :=
  [SCALE_SEL_CORE, SCALE_SEL_SLOT, SCALE_CFG_LEN, SCALE_CFG_FMT,
   SCALE_CFG_MARGIN, SCALE_CFG_POW2, SCALE_CFG_VALID, SCALE_VALUE_SCALE,
   SCALE_PENDING_AMAX, SCALE_SAT_COUNT, SCALE_NONFINITE_COUNT, SCALE_HIST_USED_ENTRIES]
/-- Fields of the OPTIM page. -/
def optimFields : List Fld :=
  [OPTIM_SEL_SET, OPTIM_LR_LR, OPTIM_BETA1_BETA1, OPTIM_BETA2_BETA2,
   OPTIM_EPS_EPS, OPTIM_WD_WD, OPTIM_GRAD_MUL_GRAD_MUL, OPTIM_MODE_MASTER,
   OPTIM_MODE_OUT, OPTIM_MODE_SR, OPTIM_MODE_SCALE_SLOT, OPTIM_MODE_VALID,
   OPTIM_NF_COUNT, OPTIM_STICKY_NF]
/-- Fields of the SPIN page. -/
def spinFields : List Fld :=
  [SPIN_PART_PART, SPIN_CTRL_ACTION, SPIN_CTRL_SOURCE, SPIN_CTRL_CORE,
   SPIN_SEED_LO_SEED, SPIN_SEED_HI_SEED, SPIN_ADDR_LO_ADDR, SPIN_ADDR_HI_ADDR,
   SPIN_STATUS_BUSY, SPIN_STATUS_STATUS, SPIN_STATUS_SEEDED, SPIN_SEED_USED_LO_SEED,
   SPIN_SEED_USED_HI_SEED, SPIN_SRC_HEALTH_HEALTHY, SPIN_SRC_HEALTH_OFF, SPIN_RCT_FAIL_COUNT,
   SPIN_APT_FAIL_COUNT, SPIN_ISSUE_COUNT]
/-- Fields of the LINK pages. -/
def linkFields : List Fld :=
  [LINK_CTRL_ENABLE, LINK_CTRL_RETRAIN, LINK_CTRL_LANES, LINK_CTRL_PRESET,
   LINK_STATE_STATE, LINK_STATE_CAUSE, LINK_STATE_PEER_PORT, LINK_STATE_PEER_PCN,
   LINK_LAT_MEAS, LINK_LAT_PIN, LINK_PIN_TARGET_TARGET, LINK_FEC_CE_COUNT,
   LINK_FEC_UE_COUNT, LINK_VC0_LATE_COUNT, LINK_VC0_LATE_MAX_TICKS, LINK_REPLAY_PENALTY_TICKS,
   LINK_RETRAINS_COUNT, LINK_VC0_UNCLAIMED_COUNT, LINK_VC0_DROPPED_COUNT]
/-- Fields of the WEAVE page. -/
def weaveFields : List Fld :=
  [WEAVE_CTRL_MASTER, WEAVE_TIME_LO_WT, WEAVE_TIME_HI_WT, WEAVE_STATUS_ALIGNED,
   WEAVE_STATUS_PARENT, WEAVE_STATUS_MASTER_PCN, WEAVE_QUIET_LEN, WEAVE_LOAD_KIND_KIND,
   WEAVE_LOAD_KIND_PORT, WEAVE_LOAD_BASE_LO_BASE, WEAVE_LOAD_BASE_HI_BASE, WEAVE_LOAD_LEN_LEN,
   WEAVE_LOAD_EPOCH_LO_EPOCH, WEAVE_LOAD_EPOCH_HI_EPOCH, WEAVE_LOAD_STATUS_BUSY, WEAVE_LOAD_STATUS_ARMED,
   WEAVE_LOAD_STATUS_STATUS, WEAVE_VCW_W1, WEAVE_VCW_W2, WEAVE_VCW_W3,
   WEAVE_PATH_SEL_ENTRY, WEAVE_PATH_LO_ENTRY, WEAVE_PATH_HI_ENTRY]
/-- Fields of the MANGLE page. -/
def mangleFields : List Fld :=
  [MANGLE_SEL_INDEX, MANGLE_SEL_KIND, MANGLE_D_OP_OP, MANGLE_D_OP_RED,
   MANGLE_D_OP_WIDE, MANGLE_D_OP_IFMT, MANGLE_D_OP_OFMT, MANGLE_D_OP_GROUP,
   MANGLE_D_OP_VALID, MANGLE_D_COUNT_COUNT, MANGLE_D_ROOT_ROOT, MANGLE_D_DEADLINE_TICKS,
   MANGLE_D_PART_PART, MANGLE_G_BASE_BASE, MANGLE_G_COUNT_COUNT, MANGLE_G_STRIDE_STRIDE,
   MANGLE_G_PART_PART, MANGLE_G_PART_VALID, MANGLE_G_EPOCH_EPOCH, MANGLE_LAST_ABORT_CAUSE,
   MANGLE_LAST_ABORT_ORIGIN, MANGLE_LAST_ABORT_GROUP, MANGLE_ABORTS_COUNT, MANGLE_STALE_COUNT,
   MANGLE_SAT_COUNT, MANGLE_EARLY_FLITS, MANGLE_EARLY_STALLED]
/-- Fields of the PRESS page. -/
def pressFields : List Fld :=
  [PRESS_MC_SEL_ENTRY, PRESS_MC_ENTRY_GROUP, PRESS_MC_ENTRY_LOCAL, PRESS_MC_ENTRY_FWD,
   PRESS_MC_ENTRY_VALID, PRESS_QUEUE_CORE, PRESS_LAST_STATUS, PRESS_LAST_CAUSE,
   PRESS_LAST_MODEL, PRESS_LAST_VER_VERSION, PRESS_TILES_SENT_COUNT, PRESS_CANCELS_COUNT,
   PRESS_MC_DROP_COUNT]
/-- Fields of the HANGER page. -/
def hangerFields : List Fld :=
  [HANGER_SEL_MODEL, HANGER_CFG_CORES, HANGER_CFG_LOCKSTEP, HANGER_CFG_PART,
   HANGER_CFG_VALID, HANGER_SEGS_BANK0, HANGER_SEGS_BANK1, HANGER_SEGS_NSEG,
   HANGER_TILES_TILES, HANGER_STATE_STATE, HANGER_STATE_MARK, HANGER_STATE_ON_NEW,
   HANGER_PEND_VER_VERSION, HANGER_LANDED_TILES, HANGER_ARM_E_LO_E, HANGER_ARM_E_HI_E,
   HANGER_ACTIVE_VERSION, HANGER_CRC_COUNT, HANGER_DISCARD_COUNT, HANGER_FLIPS_COUNT]
/-- Fields of the XRING page. -/
def xringFields : List Fld :=
  [XRING_SEL_RING, XRING_BASE_LO_BASE, XRING_BASE_HI_BASE, XRING_REC_RECU,
   XRING_REC_DEPTH, XRING_PROD_PROD_BASE, XRING_PROD_STRIDE, XRING_MODE_NPROD,
   XRING_MODE_POLICY, XRING_MODE_ORDER, XRING_MODE_PART, XRING_MODE_VALID,
   XRING_MAXLAG_LAG, XRING_HELD_RECORDS, XRING_DROPPED_COUNT, XRING_LAGGED_COUNT,
   XRING_OVERRUN_COUNT, XRING_CRC_COUNT, XRING_POP_N_COUNT]
/-- Fields of the PATCH page. -/
def patchFields : List Fld :=
  [PATCH_SEL_INST, PATCH_SEL_ENTRY, PATCH_I_CFG_CORES, PATCH_I_CFG_RMAX,
   PATCH_I_CFG_MODEL, PATCH_I_CFG_CTX, PATCH_I_CFG_VALID, PATCH_I_PART_PART,
   PATCH_I_PART_ROWS, PATCH_I_TBL_LO_TBL, PATCH_I_TBL_HI_TBL, PATCH_I_STORE_LO_STORE,
   PATCH_I_STORE_HI_STORE, PATCH_I_RES_SEG, PATCH_I_RES_NRES, PATCH_I_RES_SLOT_TILES,
   PATCH_E_CFG_RANK, PATCH_E_CFG_FMT, PATCH_E_CFG_BLK, PATCH_E_CFG_VALID,
   PATCH_E_ALPHA_ALPHA, PATCH_E_IMG_LO_IMG, PATCH_E_IMG_HI_IMG, PATCH_E_TILES_TILES,
   PATCH_E_GEN_GEN, PATCH_I_POSTED_STEP, PATCH_I_LATCHED_STEP, PATCH_ROW_FAIL_COUNT,
   PATCH_LOADS_COUNT, PATCH_LOAD_FAIL_COUNT]
/-- Fields of the PART page. -/
def partFields : List Fld :=
  [PART_CORE_PART, PART_CORE_RANK, PART_CORE_VALID, PART_GRANT_FIRST,
   PART_GRANT_COUNT, PART_GRANT_PART, PART_GRANT_OP, PART_SEG_SEL_SEG,
   PART_SEG_INFO_STATE, PART_SEG_INFO_ZEROING, PART_SEG_INFO_PART, PART_EVICT_CTRL_CORES,
   PART_EVICT_CTRL_DEADLINE, PART_EVICT_E_LO_E, PART_EVICT_E_HI_E, PART_EVICT_SAVE_LO_ADDR,
   PART_EVICT_SAVE_HI_ADDR, PART_EVICT_STATUS_BUSY, PART_EVICT_STATUS_STATUS, PART_EVICT_STATUS_FORCED]
/-- Fields of the CTX pages. -/
def ctxFields : List Fld :=
  [CTX_BIND_PART, CTX_BIND_CORES, CTX_BIND_VALID, CTX_WIN_BASE,
   CTX_WIN_LEN, CTX_SQ_ADDR, CTX_CQ_ADDR, CTX_QCTRL_ENABLE,
   CTX_SQ_DB_TAIL, CTX_CQ_DB_HEAD, CTX_SQ_STATE_HEAD, CTX_SQ_STATE_TAIL,
   CTX_CQ_STATE_HEAD, CTX_CQ_STATE_TAIL, CTX_CQ_STATE_FULL, CTX_ERR_DB_BAD,
   CTX_HELD_COUNT]
/-- Fields of the LINT page. -/
def lintFields : List Fld :=
  [LINT_CTRL_MIN_SEV, LINT_CTRL_MIRROR_EN, LINT_USED_RECORDS, LINT_USED_BAD,
   LINT_MODE_DEGRADED, LINT_MODE_MIRROR_BUSY, LINT_MODE_SEQ_EXHAUSTED, LINT_SEQ_LO_SEQ,
   LINT_SEQ_HI_SEQ, LINT_DROPPED_COUNT, LINT_FILTERED_COUNT, LINT_LASTGASP_CODE,
   LINT_LASTGASP_SLOT, LINT_LASTGASP_ACK, LINT_RD_SEL_SLOT, LINT_RD_SEL_RING,
   LINT_RD_STATUS_STATUS, LINT_RD_DATA_DATA, LINT_CLEAR_REQ, LINT_CLEAR_UPTO_LO_SEQ,
   LINT_CLEAR_UPTO_HI_SEQ, LINT_CLEAR_STATUS_STATUS, LINT_MIRROR_STATUS_STATUS, LINT_MIRROR_STATUS_IMAGE,
   LINT_MIRRORS_COUNT]
/-- Fields of the LINTSNAP page. -/
def lintsnapFields : List Fld :=
  [LINTSNAP_SEL_ENTRY, LINTSNAP_MATCH_EVENT, LINTSNAP_MATCH_PAGE_ONLY, LINTSNAP_MATCH_NREG,
   LINTSNAP_MATCH_VALID, LINTSNAP_REG_PAGE, LINTSNAP_REG_WORD]
/-- Fields of the HOSTIF page. -/
def hostifFields : List Fld :=
  [HOSTIF_LINK_SPEED, HOSTIF_LINK_WIDTH, HOSTIF_LINK_DL_UP, HOSTIF_SRIOV_NUMVF,
   HOSTIF_SRIOV_VF_EN, HOSTIF_AER_CE_COUNT, HOSTIF_AER_UE_COUNT, HOSTIF_MGMT_SMBUS_DEAD,
   HOSTIF_MBOX_CTRL_POST, HOSTIF_MBOX_STATUS_REPLY, HOSTIF_MBOX_STATUS_STATUS, HOSTIF_MBOX_STATUS_LEN,
   HOSTIF_BAR_DROP_COUNT, HOSTIF_FLR_COUNT, HOSTIF_MBOX_DATA_DATA]

end Reg

open Reg


/-- The fields of a block's own registers. -/
def Kind.fields : Kind → List Fld
  | .chip => chipFields | .clk => clkFields | .pwr => pwrFields | .therm => thermFields | .lamp => lampFields
  | .mgmt => mgmtFields | .access => accessFields | .cal => calFields | .repair => repairFields | .core => coreFields
  | .cmem => cmemFields | .xmem => xmemFields | .xcache => xcacheFields | .dram => dramFields | .shelf => shelfFields
  | .tier => tierFields | .scale => scaleFields | .optim => optimFields | .spin => spinFields | .link => linkFields
  | .weave => weaveFields | .mangle => mangleFields | .press => pressFields | .hanger => hangerFields
  | .xring => xringFields | .patch => patchFields | .part => partFields | .ctx => ctxFields | .lint => lintFields
  | .lintsnap => lintsnapFields | .hostif => hostifFields

/-- The fields that the register at `off` of a page of block `k` holds. -/
def fieldsAt (k : Kind) (off : Nat) : List Fld :=
  (if off < 0x040 then headerFields else k.fields).filter fun f => f.at off

/-- The staged groups of a block as ranges of offsets, first and last register, in ascending order (14_pages.md R518, R520;
the groups are those of each chapter's COMMIT rules). -/
def Kind.groups : Kind → List (Nat × Nat)
  | .chip => [(0x04C, 0x04C)]
  | .clk => [(0x044, 0x04C)]
  | .pwr => [(0x040, 0x040)]
  | .lamp => [(0x040, 0x044)]
  | .cal => [(0x048, 0x048)]
  | .xcache => [(0x040, 0x040)]
  | .shelf => [(0x058, 0x060)]
  | .tier => [(0x058, 0x064)]
  | .scale => [(0x044, 0x044)]
  | .optim => [(0x044, 0x05C)]
  | .spin => [(0x040, 0x054)]
  | .link => [(0x040, 0x040)]
  | .weave => [(0x054, 0x068)]
  | .mangle => [(0x044, 0x054), (0x058, 0x064)]
  | .hanger => [(0x044, 0x04C)]
  | .press => [(0x044, 0x044)]
  | .xring => [(0x044, 0x058)]
  | .patch => [(0x044, 0x05C), (0x060, 0x074)]
  | .part => [(0x040, 0x04C), (0x050, 0x050), (0x05C, 0x06C)]
  | .ctx => [(0x040, 0x050), (0x054, 0x064)]
  | .lintsnap => [(0x044, 0x064)]
  | .therm | .mgmt | .access | .repair | .core | .cmem | .xmem | .dram | .lint | .hostif => []

/-- The group that the register at `off` belongs to. -/
def Kind.groupAt (k : Kind) (off : Nat) : Option Nat := k.groups.findIdx? fun g => g.1 ≤ off && off ≤ g.2

/-- The selector registers whose write discards groups (14_pages.md R518), with the groups that they select among. -/
def Kind.selects (k : Kind) (off : Nat) : List Nat :=
  match k with
  | .scale | .optim | .hanger | .press | .xring | .lintsnap => if off = 0x040 then [0] else []
  | .mangle | .patch => if off = 0x040 then [0, 1] else []
  | .shelf | .tier => if off = 0x054 then [0] else []
  | .cal => if off = 0x044 then [0] else []
  | _ => []

/-- A register word's key in the register file: page, index of the selected entry, offset. -/
def regKey (page idx off : Nat) : Nat := page * 2 ^ 28 + idx * 2 ^ 12 + off

/-- The value that fields place in a word. -/
def placed (l : List (Fld × Nat)) : Nat := l.foldl (fun w e => w ||| ((e.2 % 2 ^ e.1.width) <<< e.1.lsb)) 0

/-- The reset value of the register at `off` of `page`. -/
def resetWord (page off : Nat) : Word :=
  match kindOf page with
  | none => 0
  | some k => BitVec.ofNat 32 (placed ((fieldsAt k off).map fun f => (f, f.reset)))

/-- The reset value of a register word by its key. -/
def resetOfKey (key : Nat) : Word := resetWord (key / 2 ^ 28) (key % 2 ^ 12)

/-- The bits of a word that a field covers. -/
def Fld.mask (f : Fld) : Word := (BitVec.ofNat 32 (2 ^ f.width - 1)) <<< f.lsb

/-- A field's value in a word. -/
def Fld.of (f : Fld) (w : Word) : Nat := (w.toNat >>> f.lsb) % 2 ^ f.width

/-- A word with a field replaced. -/
def Fld.into (f : Fld) (w : Word) (v : Nat) : Word :=
  (w &&& ~~~f.mask) ||| ((BitVec.ofNat 32 (v % 2 ^ f.width)) <<< f.lsb)

/-- The canonical form of the register file. -/
def RegFile.wf (r : RegFile) : Bool := Sparse.wf resetOfKey r

/-- A register word. -/
def State.word (s : State) (page idx off : Nat) : Word := Sparse.get resetOfKey s.regs (regKey page idx off)

/-- Store a register word. -/
def State.setWord (s : State) (page idx off : Nat) (w : Word) : State :=
  { s with regs := Sparse.put resetOfKey s.regs (regKey page idx off) w }

/-- A field of entry `idx` of a page. -/
def State.getI (s : State) (page idx : Nat) (f : Fld) : Nat := f.of (s.word page idx f.off)

/-- Store a field of entry `idx` of a page. -/
def State.setI (s : State) (page idx : Nat) (f : Fld) (v : Nat) : State :=
  s.setWord page idx f.off (f.into (s.word page idx f.off) v)

/-- A field of a page without entries. -/
def State.get (s : State) (page : Nat) (f : Fld) : Nat := s.getI page 0 f

/-- Store a field of a page without entries. -/
def State.set (s : State) (page : Nat) (f : Fld) (v : Nat) : State := s.setI page 0 f v

/-- Add to a saturating counter of entry `idx`. -/
def State.addI (s : State) (page idx : Nat) (f : Fld) (n : Nat) : State :=
  s.setI page idx f (min (s.getI page idx f + n) (2 ^ f.width - 1))

/-- Add to a saturating counter. -/
def State.add (s : State) (page : Nat) (f : Fld) (n : Nat) : State := s.addI page 0 f n

/-- Whether a one-bit field is set. -/
def State.flag (s : State) (page : Nat) (f : Fld) : Bool := s.get page f != 0

/-- Return every register of a page to its reset value. -/
def State.resetPage (s : State) (page : Nat) : State :=
  { s with regs := s.regs.filter (fun e => e.1 / 2 ^ 28 != page),
           staged := s.staged.filter (fun e => e.1 / 2 ^ 28 != page),
           touched := s.touched.filter (fun g => g.1 != page) }

end Sys2Proof.Machine
end

