-- ==== Sys2Proof/Machine/Events.lean ====
section
/-!
DEFINITION. The events of every page: event number and severity, as each chapter's event table gives them (00_scope.md R10,
R11).
-/
namespace Sys2Proof.Machine

/-- An event of a page: its number within the page and its severity. -/
structure Ev where
  num : Nat
  sev : Nat
  deriving DecidableEq, Repr

namespace Ev

-- 03_bundles.md R119
abbrev CORE_FAULT : Ev := ⟨0x001, 4⟩
abbrev CTRL_DENIED : Ev := ⟨0x002, 2⟩
abbrev DEBUG_HALT : Ev := ⟨0x003, 1⟩
abbrev WAIT_HELD : Ev := ⟨0x020, 0⟩
-- 05_buffers.md R191
abbrev ECC_CE : Ev := ⟨0x001, 1⟩
abbrev ECC_UE : Ev := ⟨0x002, 4⟩
abbrev DARN_PENDING : Ev := ⟨0x003, 2⟩
abbrev DARN_DONE : Ev := ⟨0x004, 1⟩
abbrev BANK_MAPPED_OUT : Ev := ⟨0x005, 3⟩
abbrev CORE_MAPPED_OUT : Ev := ⟨0x005, 3⟩
abbrev SCRUB_LEVEL : Ev := ⟨0x006, 1⟩
abbrev REPAIR_WRITE_FAIL : Ev := ⟨0x007, 4⟩
abbrev WATCH_FULL : Ev := ⟨0x008, 2⟩
abbrev TAG_LOST : Ev := ⟨0x001, 5⟩
abbrev CACHE_STATE : Ev := ⟨0x002, 1⟩
-- 06_tiers.md R243
abbrev LINK_UE : Ev := ⟨0x001, 4⟩
abbrev POISON_LOST : Ev := ⟨0x002, 5⟩
abbrev BLOCK_RETIRED : Ev := ⟨0x001, 2⟩
abbrev WEAR_OUT : Ev := ⟨0x002, 3⟩
abbrev SPARE_LOW : Ev := ⟨0x003, 4⟩
abbrev SHELF_RO : Ev := ⟨0x004, 4⟩
abbrev MEDIA_UE : Ev := ⟨0x005, 4⟩
abbrev READ_DISTURB_RISK : Ev := ⟨0x006, 3⟩
abbrev MIRROR_STOPPED : Ev := ⟨0x007, 3⟩
abbrev NS_CHANGE : Ev := ⟨0x008, 1⟩
abbrev CRC_FAIL : Ev := ⟨0x001, 4⟩
abbrev DESC_FAIL : Ev := ⟨0x002, 2⟩
-- 07_numerics.md R277
abbrev SATURATED : Ev := ⟨0x001, 2⟩
abbrev AMAX_NONFINITE : Ev := ⟨0x002, 2⟩
abbrev NONFINITE_GRAD : Ev := ⟨0x001, 3⟩
-- 08_spin.md R303
abbrev SOURCE_FAIL : Ev := ⟨0x001, 3⟩
abbrev SOURCE_OFF : Ev := ⟨0x002, 4⟩
abbrev ENTROPY_LOST : Ev := ⟨0x003, 4⟩
abbrev SEEDED : Ev := ⟨0x004, 1⟩
-- 09_weave.md R354
abbrev LINK_STATE : Ev := ⟨0x001, 1⟩
abbrev RETRAIN : Ev := ⟨0x002, 3⟩
abbrev LINK_FAILED : Ev := ⟨0x003, 4⟩
abbrev VC0_LATE : Ev := ⟨0x004, 2⟩
abbrev VC0_UNCLAIMED : Ev := ⟨0x005, 4⟩
abbrev VC0_FOREIGN : Ev := ⟨0x006, 4⟩
abbrev VC0_DISCARDED : Ev := ⟨0x007, 3⟩
abbrev TIME_ALIGNED : Ev := ⟨0x001, 1⟩
abbrev TIME_CONFLICT : Ev := ⟨0x002, 4⟩
abbrev TABLE_SWAP : Ev := ⟨0x003, 1⟩
abbrev TABLE_LOAD_FAIL : Ev := ⟨0x004, 4⟩
abbrev MASTER_REFUSED : Ev := ⟨0x005, 3⟩
-- 10_mangle.md R388
abbrev ABORT_ORIGIN : Ev := ⟨0x001, 3⟩
abbrev COLL_ABORTED : Ev := ⟨0x002, 2⟩
abbrev EARLY_STALL : Ev := ⟨0x003, 2⟩
abbrev SIG_MISMATCH : Ev := ⟨0x004, 4⟩
-- 11_press.md R440
abbrev READY : Ev := ⟨0x001, 1⟩
abbrev PRESS_SUPERSEDED : Ev := ⟨0x002, 2⟩
abbrev CANCELLED : Ev := ⟨0x003, 2⟩
abbrev CANCEL_LATE : Ev := ⟨0x004, 3⟩
abbrev ARM_LATE : Ev := ⟨0x005, 3⟩
abbrev ARM_STALE : Ev := ⟨0x006, 2⟩
abbrev TILE_CRC : Ev := ⟨0x007, 4⟩
abbrev PRESS_FAILED : Ev := ⟨0x001, 3⟩
abbrev RECORD_DROPPED : Ev := ⟨0x001, 2⟩
abbrev RECORD_CRC : Ev := ⟨0x002, 4⟩
-- 12_serving.md R467
abbrev ROWS_REJECTED : Ev := ⟨0x001, 2⟩
abbrev LOAD_FAIL : Ev := ⟨0x002, 4⟩
abbrev TABLE_BAD : Ev := ⟨0x003, 4⟩
-- 13_partitions.md R500
abbrev EVICT_DONE : Ev := ⟨0x001, 1⟩
abbrev EVICT_FORCED : Ev := ⟨0x002, 4⟩
abbrev DOORBELL_BAD : Ev := ⟨0x001, 4⟩
abbrev VF_WRITE_DENIED : Ev := ⟨0x002, 2⟩
-- 14_pages.md R516
abbrev LOCK_WRITE : Ev := ⟨0xF01, 2⟩
abbrev WO_REWRITE : Ev := ⟨0xF02, 2⟩
abbrev PARTIAL_WRITE : Ev := ⟨0xF03, 2⟩
abbrev COMMIT_BAD : Ev := ⟨0xF04, 2⟩
-- 14_pages.md R537
abbrev UNMAPPED_ACCESS : Ev := ⟨0x001, 2⟩
abbrev RESET_ACCESS : Ev := ⟨0x002, 2⟩
abbrev PCN_SET : Ev := ⟨0x003, 1⟩
abbrev CAPACITY : Ev := ⟨0x004, 3⟩
abbrev BAR_WRITE_DENIED : Ev := ⟨0x001, 2⟩
abbrev FLR : Ev := ⟨0x002, 1⟩
abbrev MBOX_ACTIVE : Ev := ⟨0x003, 3⟩
-- 15_clocks_power.md R573
abbrev GEAR_CHANGE : Ev := ⟨0x001, 1⟩
abbrev GEAR_LATE : Ev := ⟨0x002, 3⟩
abbrev GEAR_REFUSED : Ev := ⟨0x003, 3⟩
abbrev GEAR_BAD : Ev := ⟨0x004, 4⟩
abbrev RELAY_FAIL : Ev := ⟨0x005, 4⟩
abbrev PLL_LATE : Ev := ⟨0x006, 4⟩
abbrev REF_CHANGE : Ev := ⟨0x007, 3⟩
abbrev CAP_IN_FORCE : Ev := ⟨0x001, 1⟩
abbrev CAP_UNMET : Ev := ⟨0x002, 3⟩
abbrev AVS_LIMIT : Ev := ⟨0x003, 3⟩
abbrev POWER_FAIL : Ev := ⟨0x004, 4⟩
abbrev POWER_RETURN_DURING_SHUTDOWN : Ev := ⟨0x005, 3⟩
abbrev THROTTLE : Ev := ⟨0x001, 3⟩
abbrev THROTTLE_END : Ev := ⟨0x002, 1⟩
abbrev THERMTRIP : Ev := ⟨0x003, 5⟩
abbrev SENSOR_FAULT : Ev := ⟨0x004, 4⟩
-- 16_reset.md R597
abbrev RESET_ENTER : Ev := ⟨0x005, 1⟩
abbrev RESET_EXIT : Ev := ⟨0x006, 1⟩
abbrev REPLY_DISCARDED : Ev := ⟨0x007, 2⟩
abbrev BOOT_IMAGE : Ev := ⟨0x008, 1⟩
abbrev BOOT_FAIL : Ev := ⟨0x009, 5⟩
abbrev FW_SWAP : Ev := ⟨0x00A, 1⟩
abbrev SWAP_REVERT : Ev := ⟨0x00B, 4⟩
-- 17_lint.md R630
abbrev LOG_STORE_FAULT : Ev := ⟨0x001, 4⟩
abbrev LOG_DEGRADED : Ev := ⟨0x002, 4⟩
abbrev CLEARED : Ev := ⟨0x003, 3⟩
abbrev CLEAR_DENIED : Ev := ⟨0x004, 3⟩
abbrev MIRROR_FAIL : Ev := ⟨0x005, 3⟩
abbrev SEQ_EXHAUSTED : Ev := ⟨0x006, 5⟩
-- 18_access.md R660
abbrev SMBUS_RESET : Ev := ⟨0x001, 2⟩
abbrev SMBUS_DEAD : Ev := ⟨0x002, 4⟩
abbrev SMBUS_BACK : Ev := ⟨0x003, 1⟩
abbrev QUIESCE_ENTER : Ev := ⟨0x004, 1⟩
abbrev QUIESCE_STUCK : Ev := ⟨0x005, 3⟩
abbrev QUIESCE_EXIT : Ev := ⟨0x006, 1⟩
abbrev UNLOCK : Ev := ⟨0x001, 2⟩
abbrev UNLOCK_FAIL : Ev := ⟨0x002, 3⟩
abbrev LOCKOUT : Ev := ⟨0x003, 4⟩
abbrev CLOSED : Ev := ⟨0x004, 1⟩
abbrev CAL_INVALID : Ev := ⟨0x001, 3⟩
abbrev CAL_WRITE : Ev := ⟨0x002, 2⟩
abbrev CAL_WRITE_FAIL : Ev := ⟨0x003, 4⟩
abbrev DERIVE_DONE : Ev := ⟨0x004, 1⟩
abbrev REPAIR_ENTRY_BAD : Ev := ⟨0x001, 2⟩
abbrev LAMP_FAULT : Ev := ⟨0x001, 3⟩

end Ev

end Sys2Proof.Machine
end

