-- ==== Sys2Proof/Machine/Ops.lean ====
section
/-!
DEFINITION. The named operations that every block shares: status codes, updates of one unit of the state, raising an event,
violations, pages in reset, seconds and ticks.
-/
namespace Sys2Proof

/-- The path codes of 14_pages.md R507. -/
def Path.code : Path → Nat
  | .pf => 0 | .mgmt => 1 | .vf _ => 2 | .fw => 3

/-- The VF of a path, 0 for the others. -/
def Path.vfNum : Path → Nat
  | .vf n => n.1
  | _ => 0

end Sys2Proof

namespace Sys2Proof.Machine

open Reg

/-- Status codes, 00_scope.md R8. -/
def Status.code : Status → Nat
  | .ok => 0x00 | .busy => 0x01 | .notReady => 0x02 | .timeout => 0x03 | .aborted => 0x04 | .resetNack => 0x05
  | .contractFault => 0x06 | .eccFatal => 0x07 | .locked => 0x08 | .mismatch => 0x09 | .noSpace => 0x0A
  | .readOnly => 0x0B | .authFail => 0x0C | .param => 0x0D

/-! One unit of the state. -/

def State.core (s : State) (c : CoreId) : Core := s.cores[c]
def State.setCore (s : State) (c : CoreId) (k : Core) : State := { s with cores := s.cores.set c k }
def State.updCore (s : State) (c : CoreId) (f : Core → Core) : State := s.setCore c (f (s.core c))
def State.port (s : State) (p : PortId) : Port := s.ports[p]
def State.setPort (s : State) (p : PortId) (k : Port) : State := { s with ports := s.ports.set p k }
def State.updPort (s : State) (p : PortId) (f : Port → Port) : State := s.setPort p (f (s.port p))
def State.ctx (s : State) (n : CtxId) : Ctx := s.ctxs[n]
def State.updCtx (s : State) (n : CtxId) (f : Ctx → Ctx) : State := { s with ctxs := s.ctxs.set n (f s.ctxs[n]) }
def State.hanger (s : State) (m : Fin 16) : Hanger := s.hangers[m]
def State.updHanger (s : State) (m : Fin 16) (f : Hanger → Hanger) : State :=
  { s with hangers := s.hangers.set m (f s.hangers[m]) }
def State.updTier (s : State) (f : Tier → Tier) : State := { s with tier := f s.tier }
def State.updEng (s : State) (f : Engines → Engines) : State := { s with eng := f s.eng }
def State.updEcc (s : State) (f : Ecc → Ecc) : State := { s with ecc := f s.ecc }
def State.updClock (s : State) (f : Clock → Clock) : State := { s with clock := f s.clock }
def State.updLint (s : State) (f : Lint → Lint) : State := { s with lint := f s.lint }
def State.updMgmt (s : State) (f : Mgmt → Mgmt) : State := { s with mgmt := f s.mgmt }
def State.updRack (s : State) (f : Rack → Rack) : State := { s with rack := f s.rack }
def State.updMangle (s : State) (f : Mangle → Mangle) : State := { s with mangle := f s.mangle }
def State.updResets (s : State) (f : Resets → Resets) : State := { s with resets := f s.resets }
def State.updWeave (s : State) (f : Weave → Weave) : State := { s with weave := f s.weave }
def State.updSpin (s : State) (f : Spin → Spin) : State := { s with spin := f s.spin }

/-- The four cores in ascending order. -/
def allCores : List CoreId := [0, 1, 2, 3]
/-- The twelve ports in ascending order. -/
def allPorts : List PortId := [0, 1, 2, 3, 4, 5, 6, 7, 8, 9, 10, 11]

/-- The core that a number names. -/
def coreOf (n : Nat) : CoreId := ⟨n % 4, Nat.mod_lt n (by decide)⟩

/-- The cores that a 4-bit mask names. -/
def coresOf (mask : Nat) : List CoreId := allCores.filter fun c => mask.testBit c.1

/-- Apply an operation for every element of a list, from left to right. -/
def eachOf {α : Type} (l : List α) (f : α → State → State) (s : State) : State := l.foldl (fun s x => f x s) s

/-! Pages in reset, 16_reset.md R575. -/

/-- Whether a page is in reset. -/
def State.inReset (s : State) (page : Nat) : Bool :=
  s.resets.cold ||
  match kindOf page with
  | none => false
  | some .hostif => false
  | some .core => s.resets.warm || s.resets.core.getLsbD (page - 0x010)
  | some .cmem => s.resets.warm || s.resets.core.getLsbD (page - 0x014)
  | some .link => s.resets.warm || s.resets.port.getLsbD (page - 0x040)
  | some .dram | some .shelf | some .tier => s.resets.warm || s.resets.tier
  | some .mgmt | some .cal | some .repair => s.resets.warm || s.resets.mgmt
  | some .mangle => s.resets.warm || s.resets.mangle
  | some _ => s.resets.warm

/-! Events, 14_pages.md R512-R515; 17_lint.md R599-R613. -/

/-- ORIGIN of a Lint record, 17_lint.md R605. -/
def origin (kind value : Nat) : BitVec 16 := BitVec.ofNat 16 (kind + 8 * value)
/-- ORIGIN naming the block itself. -/
def byBlock : BitVec 16 := origin 0 0
/-- ORIGIN naming a core. -/
def byCore (c : CoreId) : BitVec 16 := origin 1 c.1
/-- ORIGIN naming an access path. -/
def byPath (p : Path) : BitVec 16 := origin 2 (p.code + 4 * p.vfNum)
/-- ORIGIN naming a remote chip. -/
def byChip (p : Pcn) : BitVec 16 := origin 3 p.toNat
/-- ORIGIN naming a port. -/
def byPort (p : PortId) : BitVec 16 := origin 4 p.1

/-- A number as the words of an event's arguments: one word, or two with the low word first (17_lint.md R606). -/
def arg (x : Nat) : List Word := [BitVec.ofNat 32 x]
def arg64 (x : Nat) : List Word := [BitVec.ofNat 32 x, BitVec.ofNat 32 (x / 2 ^ 32)]

/-- Set a bit of a page's INT_STATUS (14_pages.md R512). -/
def State.latch (s : State) (page bit : Nat) : State :=
  let w := s.word page 0 INT_STATUS_STATUS.off
  s.setWord page 0 INT_STATUS_STATUS.off (w ||| BitVec.ofNat 32 (2 ^ bit))

/-- A source's event buffer takes an event, 17_lint.md R600: a full buffer drops it, but a FATAL event displaces the oldest
of the lowest severity and enters at the tail. The second result counts the events dropped. -/
def bufPush (b : List Event) (e : Event) : List Event × Nat :=
  if b.length < 4 then (b ++ [e], 0)
  else if e.sev ≠ 5 ∨ b.all (fun x => decide (x.sev = 5)) then (b, 1)
  else
    let low := b.foldl (fun m x => min m x.sev) 5
    match b.findIdx? (fun x => decide (x.sev = low)) with
    | some i => (b.eraseIdx i ++ [e], 1)
    | none => (b, 1)

/-- The event enters its source's buffer, or is filtered at the source (17_lint.md R600, R613). -/
def State.record (s : State) (page : Nat) (e : Ev) (org : BitVec 16) (args : List Word) : State :=
  if e.sev < s.get Page.lint LINT_CTRL_MIN_SEV then s.add Page.lint LINT_FILTERED_COUNT 1
  else
    let x : Event := ⟨BitVec.ofNat 24 (page * 4096 + e.num), e.sev, org, args⟩
    let r := bufPush ((assocGet s.lint.bufs page).getD []) x
    (s.updLint fun l => { l with bufs := assocSet l.bufs page r.1 }).add Page.lint LINT_DROPPED_COUNT r.2

/-- ALERT_N, 14_pages.md R515: an event of at least the page's ALERT_MIN sets CHIP_ALERT.PEND when it is clear. -/
def State.alert (s : State) (page : Nat) (e : Ev) : State :=
  if s.get page INT_SEVERITY_ALERT_MIN ≤ e.sev ∧ s.flag Page.chip CHIP_ALERT_PEND = false then
    ((s.set Page.chip CHIP_ALERT_PEND 1).set Page.chip CHIP_ALERT_EVENT_EVENT (page * 4096 + e.num)).latch Page.chip 8
  else s

/-- A page raises an event: its severity bit is latched (14_pages.md R512, R513), a FATAL event is remembered (R530), ALERT_N
may be asserted (R515), and the event goes to Lint (17_lint.md R599-R613). -/
def State.raise (s : State) (page : Nat) (e : Ev) (org : BitVec 16 := byBlock) (args : List Word := []) : State :=
  let s := s.latch page e.sev
  let s := if e.sev = 5 then s.set Page.chip CHIP_STATUS_FATAL_SEEN 1 else s
  (s.alert page e).record page e org args

/-- A violation of the page header, 14_pages.md R517, R513. -/
def State.violate (s : State) (page : Nat) (f : Fld) (path : Path) (off : Nat) : State :=
  let first := s.word page 0 VIOLATION_LOCK_WRITE.off == 0
  let s := (s.set page f 1).latch page 31
  if first then
    (((s.set page VIOLATION_ADDR_OFFSET off).set page VIOLATION_ADDR_PATH path.code).set page VIOLATION_ADDR_VF
      path.vfNum).set page VIOLATION_ADDR_MORE 0
  else s.set page VIOLATION_ADDR_MORE 1

/-- A status code in a register field. -/
def State.setStatus (s : State) (page : Nat) (f : Fld) (st : Status) : State := s.set page f st.code

/-! Time, 00_scope.md (tick 6.4 ns), 09_weave.md R317. -/

/-- Slots of an epoch: 2^17 ticks (00_scope.md, House terms). -/
abbrev epochTicks : Nat := 2 ^ 17
/-- The epoch that weave time is in. -/
def State.epochNo (s : State) : Nat := s.weave.wt.toNat / epochTicks
/-- Ticks in a millisecond (156.25 MHz). -/
abbrev ticksPerMs : Nat := 156250
/-- Hours of weave time. -/
abbrev ticksPerHour : Nat := 3600000 * ticksPerMs

/-- A free value: the counter that names it advances, so that no two uses are the same value. -/
def State.fresh (s : State) : Nat × State := (s.free, { s with free := s.free + 1 })

/-- Whether the management core runs (CHIP_STATUS.MGMT_UP). -/
def State.mgmtUp (s : State) : Bool := s.flag Page.chip CHIP_STATUS_MGMT_UP && !s.resets.mgmt

/-- The levels that hold ALERT_N asserted: CHIP_ALERT.PEND (14_pages.md R515), LINT_LASTGASP (17_lint.md R620), the boot
ROM's recovery (16_reset.md R590). -/
def State.alertN (s : State) : Bool :=
  s.flag Page.chip CHIP_ALERT_PEND || s.get Page.lint LINT_LASTGASP_CODE != 0 || s.pins.bootAlert

end Sys2Proof.Machine
end

