-- ==== Sys2Proof/Machine/Memory.lean ====
section
/-!
DEFINITION. On-chip memory and the way to DRAM (05_buffers.md): the memories with their ECC findings, segments and
scratchpad offsets (R161, 13_partitions.md R474), the XMEM cache controller (R162-R170), and DRAM behind it (06_tiers.md
R195, R196, R217).
-/
namespace Sys2Proof.Machine

open Reg

/-! Geometry. -/

/-- Bytes of a segment, 05_buffers.md R159. -/
abbrev segBytes : Nat := 2 ^ 24
/-- Bytes of the DRAM and of its general area, 06_tiers.md R193. -/
abbrev dramBytes : Nat := 96 * 2 ^ 30
abbrev dramGeneral : Nat := 0x1710000000
abbrev sideStore : Nat := 0x17D0000000

/-- Size of an address space of a core that has a fixed size (03_bundles.md R72). -/
def spaceSize : Nat → Option Nat
  | 0x0 => some (768 * 1024)
  | 0x2 => some dramBytes
  | 0x3 => some (64 * 1024)
  | 0x4 => some (128 * 1024)
  | 0x5 => some (32 * 1024)
  | 0x6 => some (16 * 1024)
  | _ => none

/-- The memory of a core that a SPACE names. -/
def memOfSpace (c : CoreId) : Nat → MemId
  | 0x3 => .min c
  | 0x4 => .acc c
  | 0x5 => .vec c
  | 0x6 => .stg c
  | 0x1 => .xmem
  | _ => .cmem c

end Sys2Proof.Machine

namespace Sys2Proof

open Machine

/-- Size of a memory in bytes, 05_buffers.md R157. -/
def MemId.size : MemId → Nat
  | .cmem _ => 768 * 1024 | .min _ => 64 * 1024 | .acc _ => 128 * 1024 | .vec _ => 32 * 1024 | .stg _ => 16 * 1024
  | .imem _ => 256 * 1024 | .xmem => 2 ^ 31

/-- Bytes of an ECC word, 05_buffers.md R173. -/
def MemId.eccWord : MemId → Nat
  | .acc _ | .vec _ => 4
  | _ => 8

/-- MEM codes of CMEM_LAST_ERR, 05_buffers.md R188. -/
def MemId.code : MemId → Nat
  | .cmem _ => 0 | .min _ => 1 | .acc _ => 2 | .vec _ => 3 | .stg _ => 4 | .imem _ => 5 | .xmem => 0

/-- The page that reports a memory's errors. -/
def MemId.page : MemId → Nat
  | .cmem c | .min c | .acc c | .vec c | .stg c | .imem c => Page.cmem c.1
  | .xmem => Page.xmem

/-- The page that reports a row's darning. -/
def RowId.page (r : RowId) : Nat :=
  match r.core with
  | some c => Page.cmem c.1
  | none => Page.xmem

end Sys2Proof

namespace Sys2Proof.Machine

open Reg

/-- The contents of a memory. -/
def State.mem (s : State) : MemId → Mem
  | .cmem c => (s.core c).cmem
  | .min c => (s.core c).min
  | .acc c => (s.core c).acc
  | .vec c => (s.core c).vec
  | .stg c => (s.core c).stg
  | .imem c => (s.core c).imem
  | .xmem => s.xmem

/-- Replace the contents of a memory. -/
def State.setMem (s : State) (m : MemId) (x : Mem) : State :=
  match m with
  | .cmem c => s.updCore c fun k => { k with cmem := x }
  | .min c => s.updCore c fun k => { k with min := x }
  | .acc c => s.updCore c fun k => { k with acc := x }
  | .vec c => s.updCore c fun k => { k with vec := x }
  | .stg c => s.updCore c fun k => { k with stg := x }
  | .imem c => s.updCore c fun k => { k with imem := x }
  | .xmem => { s with xmem := x }

/-- Bytes of a memory. -/
def State.readMem (s : State) (m : MemId) (a n : Nat) : List Byte := (s.mem m).read a n

/-- Write bytes of a memory: an uncorrectable word stays so until it is written (05_buffers.md R682). -/
def State.writeMem (s : State) (m : MemId) (a : Nat) (bs : List Byte) : State :=
  let w := m.eccWord
  let hit := fun (e : MemId × Nat) => e.1 == m && decide (a < e.2 + w) && decide (e.2 < a + bs.length)
  (s.setMem m ((s.mem m).write a bs)).updEcc fun e =>
    { e with upset := e.upset.filter (fun x => !hit x) }

/-- The uncorrectable words within a range, lowest address first (05_buffers.md R682). -/
def State.uesIn (s : State) (m : MemId) (a n : Nat) : List Nat :=
  (s.ecc.upset.filter fun e => e.1 == m && decide (a < e.2 + m.eccWord) && decide (e.2 < a + n)).foldl
    (fun l e => insertNat l e.2) []

/-- LAST_ERR names a word (05_buffers.md R188, R189). -/
def State.setLastErr (s : State) (m : MemId) (a : Nat) (ue : Bool) : State :=
  match m with
  | .xmem =>
    let o := a % segBytes
    ((s.set Page.xmem XMEM_LAST_ERR_BANK (4 * (a / segBytes) + bits o 10 9)).set Page.xmem XMEM_LAST_ERR_ROW
      (o / 2048)).set Page.xmem XMEM_LAST_ERR_UE ue.toNat
  | _ =>
    let line := a / 64
    (((s.set m.page CMEM_LAST_ERR_BANK line).set m.page CMEM_LAST_ERR_ROW (line / 16)).set m.page CMEM_LAST_ERR_MEM
      m.code).set m.page CMEM_LAST_ERR_UE ue.toNat

/-- The row of a word that can be darned, none for operand buffers and instruction memory (05_buffers.md R178). -/
def rowOf (m : MemId) (a : Nat) : Option RowId :=
  match m with
  | .cmem c => some ⟨some c, a / 64 % 16, a / 1024⟩
  | .xmem => some ⟨none, 4 * (a / segBytes) + bits (a % segBytes) 10 9, a % segBytes / 2048⟩
  | _ => none

/-! Segments and scratchpad offsets. -/

/-- Segment states of PART_SEG_INFO, 13_partitions.md R498: 0 FREE, 1 GRANTED, 2 CACHE, 3 WITHHELD. -/
def State.segState (s : State) (seg : Nat) : Nat := s.getI Page.part seg PART_SEG_INFO_STATE

/-- Set a segment's state and holder. -/
def State.setSeg (s : State) (seg st part : Nat) : State :=
  ((s.setI Page.part seg PART_SEG_INFO_STATE st).setI Page.part seg PART_SEG_INFO_PART part).setI Page.part seg
    PART_SEG_INFO_ZEROING 0

/-- The segments of a partition's scratchpad, ascending: granted and not ZEROING (13_partitions.md R474). -/
def State.grantedSegs (s : State) (part : Nat) : List Nat :=
  (List.range 128).filter fun g =>
    s.segState g == 1 && s.getI Page.part g PART_SEG_INFO_PART == part && s.getI Page.part g PART_SEG_INFO_ZEROING == 0

/-- The physical XMEM byte of a scratchpad offset (13_partitions.md R474). -/
def scratchPhys (segs : List Nat) (o : Nat) : Option Nat :=
  (segs[o / segBytes]?).map fun g => g * segBytes + o % segBytes

/-- The partition of a core, none when its entry is not VALID (13_partitions.md R470). -/
def State.partOf (s : State) (c : CoreId) : Option Nat :=
  if s.flag Page.part (PART_CORE_VALID.nth c.1) then some (s.get Page.part (PART_CORE_PART.nth c.1)) else none

/-- The partition rank of a core. -/
def State.rankOf (s : State) (c : CoreId) : Nat := s.get Page.part (PART_CORE_RANK.nth c.1)

/-- The cores of a partition on the chip, in ascending partition rank. -/
def State.coresOfPart (s : State) (part : Nat) : List CoreId :=
  (allCores.filter fun c => s.partOf c == some part).mergeSort fun a b => decide (s.rankOf a ≤ s.rankOf b)

/-- XMEM bytes of a partition's scratchpad from offset `o`; none outside the space. -/
def State.readScratch (s : State) (part o n : Nat) : Option (List Byte) :=
  let segs := s.grantedSegs part
  if o + n ≤ segs.length * segBytes then
    some ((List.range n).map fun i => s.xmem.byte ((scratchPhys segs (o + i)).getD 0))
  else none

/-- Write XMEM bytes at physical address. -/
def State.writeXmem (s : State) (a : Nat) (bs : List Byte) : State := s.writeMem .xmem a bs

/-- Split bytes at multiples of `k` of their address: (address, bytes) pieces. -/
def pieces (k : Nat) : (fuel a : Nat) → List Byte → List (Nat × List Byte)
  | 0, _, _ => []
  | fuel + 1, a, bs =>
    if bs.isEmpty then []
    else
      let n := k - a % k
      (a, bs.take n) :: pieces k fuel (a + n) (bs.drop n)

/-- Write bytes of a partition's scratchpad; bytes outside it go nowhere. -/
def State.writeScratch (s : State) (part o : Nat) (bs : List Byte) : State :=
  let segs := s.grantedSegs part
  eachOf (pieces segBytes (bs.length + 1) o bs)
    (fun p s => match scratchPhys segs p.1 with | some a => s.writeXmem a p.2 | none => s) s

/-! Darn candidates and uncorrectable words, 05_buffers.md R178-R184, R682. -/

/-- Whether a core runs a program: RUNNING, WAITING or DEBUG_HALT (13_partitions.md R472). -/
def Core.active (k : Core) : Bool := k.st == .running || k.st == .waiting || k.st == .debugHalt

/-- Whether a partition's job is STOPPED on the chip (13_partitions.md R472). -/
def State.jobStopped (s : State) (part : Nat) : Bool := (s.coresOfPart part).all fun c => !(s.core c).active

/-- Whether a row's darn window is open (R182). -/
def State.darnWindow (s : State) (r : RowId) : Bool :=
  match r.core with
  | none => s.segState (r.bank / 4) == 0 || s.segState (r.bank / 4) == 3
  | some c =>
    match s.partOf c with
    | none => true
    | some p => s.jobStopped p

/-- Spares of a bank: how many there are, and how many are used (R178). -/
def spareRows (core : Option CoreId) : Nat := if core.isSome then 4 else 32
def State.sparesUsed (s : State) (core : Option CoreId) (bank : Nat) : Nat := (assocGet s.ecc.spares (core, bank)).getD 0

/-- A row needs a darn: the fields of pending darns name it, and an XMEM bank with no spare left is FAILING (R184, R188,
R189). -/
def State.needDarn (s : State) (r : RowId) : State :=
  let s := s.updEcc fun e => { e with cands := e.cands ++ [r] }
  match r.core with
  | some c => s.set (Page.cmem c.1) CMEM_DARN_PEND_BANKS (s.get (Page.cmem c.1) CMEM_DARN_PEND_BANKS ||| 2 ^ r.bank)
  | none =>
    let s := s.set Page.xmem XMEM_HEALTH_DARN_PEND (s.ecc.cands.filter (fun (x : RowId) => x.core == none)).length
    if spareRows none ≤ s.sparesUsed none r.bank then s.updEcc fun e => { e with failing := insertNat e.failing r.bank } else s

/-- A row becomes a darn candidate; DARN_PENDING is logged once for a row that has to wait for its darn window (R180,
R182). -/
def State.candidate (s : State) (r : RowId) : State :=
  if s.ecc.cands.contains r then s
  else if s.darnWindow r then s.needDarn r
  else (s.needDarn r).raise r.page Ev.DARN_PENDING

/-- An uncorrectable error on a row of XMEM: four distinct rows of a bank within 1 s are the mark of a failing bank (05_buffers.md
R184). -/
def State.ueOnRow (s : State) (r : RowId) : State :=
  if r.core.isSome then s
  else
    let now := s.weave.wt.toNat
    s.updEcc fun e =>
      let rows := (e.ueRows.filter fun x => x.1 != r && decide (now < x.2 + 1000 * ticksPerMs)) ++ [(r, now)]
      let n := (rows.filter fun x => x.1.bank == r.bank).length
      { e with ueRows := rows, failing := if 4 ≤ n then insertNat e.failing r.bank else e.failing }

/-- A read finds uncorrectable words (05_buffers.md R682): each counts, one ECC_UE event, LAST_ERR names the lowest, and the
rows become darn candidates (R180). -/
def State.foundUe (s : State) (m : MemId) (ws : List Nat) : State :=
  match ws with
  | [] => s
  | w :: _ =>
    let s := s.add m.page (match m with | .xmem => XMEM_ECC_UE_COUNT | _ => CMEM_ECC_UE_COUNT) ws.length
    let s := (s.setLastErr m w true).raise m.page Ev.ECC_UE
    eachOf (ws.filterMap (rowOf m)) (fun r s => (s.candidate r).ueOnRow r) s

/-! The XMEM cache controller. -/

/-- Cache states of XCACHE_STATE: 0 OFF, 1 INIT, 2 ON, 3 DRAINING (05_buffers.md R190). -/
def State.cacheState (s : State) : Nat := s.get Page.xcache XCACHE_STATE_STATE

/-- The cache region that lines are looked up in: the new one when ON, the old one while DRAINING. -/
def State.cacheRegion (s : State) : Nat × Nat :=
  if s.cacheState = 3 then (s.xcache.oldSteps, s.xcache.oldBase)
  else (s.get Page.xcache XCACHE_CFG_STEPS, s.get Page.xcache XCACHE_CFG_BASE)

/-- A line's set: segment, set within the segment, tag (05_buffers.md R164). -/
structure Place where
  seg : Nat
  j   : Nat
  tag : Nat
  deriving DecidableEq, Repr

def placeOf (steps base line : Nat) : Place :=
  let n := 16 * steps
  let S := 4032 * n
  let t := line % S
  ⟨base + t % n, t / n, line / S⟩

/-- XMEM address of the data and of the tag entry of a way. -/
def Place.data (p : Place) (w : Nat) : Nat := p.seg * segBytes + (16 * p.j + w) * 256
def Place.entry (p : Place) (w : Nat) : Nat := p.seg * segBytes + 0xFC0000 + 64 * p.j + 4 * w

/-- A tag entry, 05_buffers.md R165. -/
def State.tagEntry (s : State) (p : Place) (w : Nat) : Nat := leNat (s.xmem.read (p.entry w) 4)
def State.setTagEntry (s : State) (p : Place) (w v : Nat) : State := s.writeXmem (p.entry w) (leBytes 4 v)

def tagValid (e : Nat) : Bool := e.testBit 16
def tagDirty (e : Nat) : Bool := e.testBit 17
def tagPoison (e : Nat) : Bool := e.testBit 18
def tagNode (e : Nat) : Bool := e.testBit 19
/-- A tag entry from its parts. -/
def mkTag (tag : Nat) (valid dirty poison node : Bool) : Nat :=
  tag % 65536 + valid.toNat * 2 ^ 16 + dirty.toNat * 2 ^ 17 + poison.toNat * 2 ^ 18 + node.toNat * 2 ^ 19

/-- The way that holds a line. -/
def State.cacheHit (s : State) (p : Place) : Option Nat :=
  (List.range 16).find? fun w => let e := s.tagEntry p w; tagValid e && e % 65536 == p.tag % 65536

/-- Invalidate a way; the counts of dirty and of poisoned lines no longer hold it (05_buffers.md R190). -/
def State.dropWay (s : State) (p : Place) (w : Nat) : State :=
  let e := s.tagEntry p w
  let s := if tagValid e && tagDirty e then
      s.set Page.xcache XCACHE_DIRTY_LINES (s.get Page.xcache XCACHE_DIRTY_LINES - 1) else s
  let s := if tagValid e && tagPoison e then
      s.set Page.xcache XCACHE_POISON_LINES (s.get Page.xcache XCACHE_POISON_LINES - 1) else s
  s.setTagEntry p w (mkTag 0 false false false (tagNode e))

/-- A lost tag entry: its way is invalidated and TAG_LOST names set and way (05_buffers.md R174). -/
def State.loseTag (s : State) (p : Place) (set w : Nat) : State :=
  ((s.dropWay p w).set Page.xcache XCACHE_STATE_TAG_LOST 1).raise Page.xcache Ev.TAG_LOST byBlock (arg set ++ arg w)

/-- A look-up reads the tag words of a set, each with the entries of two ways: both are lost with an uncorrectable one
(05_buffers.md R173, R174; log 104). -/
def State.checkTags (s : State) (p : Place) (set : Nat) : State :=
  eachOf (List.range 8) (fun k s =>
    let ws := s.uesIn .xmem (p.entry (2 * k)) 8
    if ws.isEmpty then s else ((s.foundUe .xmem ws).loseTag p set (2 * k)).loseTag p set (2 * k + 1)) s

/-- Whether tree node `n` of a set points right; node n is kept in way n - 1 (05_buffers.md R165). -/
def State.treeNode (s : State) (p : Place) (n : Nat) : Bool := tagNode (s.tagEntry p (n - 1))

/-- Set tree node `n`. -/
def State.setTreeNode (s : State) (p : Place) (n : Nat) (b : Bool) : State :=
  let e := s.tagEntry p (n - 1)
  s.setTagEntry p (n - 1) (mkTag e (tagValid e) (tagDirty e) (tagPoison e) b)

/-- Point the nodes on a way's path away from it: `d` levels remain, `n` is the node (05_buffers.md R166). -/
def State.touchWay (s : State) (p : Place) (w : Nat) : (d n : Nat) → State
  | 0, _ => s
  | d + 1, n =>
    let right := w.testBit d
    (s.setTreeNode p n (!right)).touchWay p w d (2 * n + right.toNat)

/-- The way that the tree chooses for eviction. -/
def State.victimWay (s : State) (p : Place) : (d n w : Nat) → Nat
  | 0, _, w => w
  | d + 1, n, w =>
    let right := s.treeNode p n
    s.victimWay p d (2 * n + right.toNat) (2 * w + right.toNat)

/-! DRAM itself. -/

/-- An ACTIVE shadow entry's page bit is set by a write that reaches DRAM (06_tiers.md R217). -/
def State.markDirty (s : State) (page : Nat) : State :=
  let inShadow := (List.range 16).any fun e =>
    s.getI Page.tier e TIER_SH_STATE_STATE != 0 &&
    decide (s.getI Page.tier e TIER_SH_DRAM_BASE ≤ page) &&
    decide (page < s.getI Page.tier e TIER_SH_DRAM_BASE + s.getI Page.tier e TIER_SH_PAGES_PAGES)
  if inShadow then s.updTier fun t => { t with dirty := insertNat t.dirty page } else s

/-- Write bytes within one 256-byte line of DRAM; a whole line removes its poison (06_tiers.md R196). -/
def State.dramWrite (s : State) (a : Nat) (bs : List Byte) : State :=
  let s := { s with dram := s.dram.write a bs }
  let s := if bs.length = 256 then s.updTier fun t => { t with poison := t.poison.filter (· != a) } else s
  let s := s.set Page.dram DRAM_POISON_ENTRIES s.tier.poison.length
  s.markDirty (a / 65536)

/-- A poisoned line is written back: its address enters the poison table, or is lost (06_tiers.md R196). -/
def State.dramWritePoison (s : State) (a : Nat) (bs : List Byte) : State :=
  let s := ({ s with dram := s.dram.write a bs } : State).markDirty (a / 65536)
  if s.tier.poison.contains a then s
  else if s.tier.poison.length < 1024 then
    let s := s.updTier fun t => { t with poison := t.poison ++ [a] }
    s.set Page.dram DRAM_POISON_ENTRIES s.tier.poison.length
  else (s.set Page.dram DRAM_POISON_LOST 1).raise Page.dram Ev.POISON_LOST byBlock (arg64 a)

/-- A line's bytes in DRAM, and whether it is listed in the poison table. -/
def State.dramLine (s : State) (line : Nat) : List Byte × Bool :=
  (s.dram.read (line * 256) 256, s.tier.poison.contains (line * 256))

/-- The line that a way of a set holds. -/
def lineOf (steps base : Nat) (p : Place) (tag : Nat) : Nat :=
  tag * (4032 * 16 * steps) + p.j * (16 * steps) + (p.seg - base)

/-- Write a way's dirty line back to DRAM and clear DIRTY (05_buffers.md R166, R174). -/
def State.writeBack (s : State) (steps base : Nat) (p : Place) (w : Nat) : State :=
  let e := s.tagEntry p w
  if tagValid e && tagDirty e then
    let a := lineOf steps base p (e % 65536) * 256
    let bs := s.xmem.read (p.data w) 256
    let bad := s.uesIn .xmem (p.data w) 256
    let s := s.foundUe .xmem bad
    let s := if tagPoison e || !bad.isEmpty then s.dramWritePoison a bs else s.dramWrite a bs
    let s := s.setTagEntry p w (mkTag e true false (tagPoison e) (tagNode e))
    (s.add Page.xcache XCACHE_WB_COUNT 1).set Page.xcache XCACHE_DIRTY_LINES (s.get Page.xcache XCACHE_DIRTY_LINES - 1)
  else s

/-- The way to fill on a miss: the lowest invalid one, else the tree's, whose dirty line is written back first. -/
def State.claimWay (s : State) (steps base : Nat) (p : Place) : Nat × State :=
  match (List.range 16).find? (fun w => !tagValid (s.tagEntry p w)) with
  | some w => (w, s)
  | none =>
    let w := s.victimWay p 4 1 0
    (w, (s.writeBack steps base p w).dropWay p w)

/-- Install a line in a way. -/
def State.fillWay (s : State) (p : Place) (w : Nat) (bs : List Byte) (dirty poison : Bool) : State :=
  let e := s.tagEntry p w
  let s := (s.setTagEntry p w (mkTag p.tag true dirty poison (tagNode e))).writeXmem (p.data w) bs
  let s := if dirty then s.add Page.xcache XCACHE_DIRTY_LINES 1 else s
  let s := if poison then s.add Page.xcache XCACHE_POISON_LINES 1 else s
  s.touchWay p w 4 1

/-- A set's number, in look-ups and in TAG_LOST (05_buffers.md R164). -/
def setOf (steps line : Nat) : Nat := line % (4032 * 16 * steps)

/-- Read one line through the cache controller (05_buffers.md R162-R170): its bytes and whether the read completes
ECC_FATAL (R174; 06_tiers.md R196). A line of the poison table is cached with POISON (log 104). -/
def State.readLine (s : State) (line : Nat) : List Byte × Bool × State :=
  let st := s.cacheState
  if st = 0 ∨ st = 1 then let r := s.dramLine line; (r.1, r.2, s)
  else
    let (steps, base) := s.cacheRegion
    let p := placeOf steps base line
    let s := s.checkTags p (setOf steps line)
    match s.cacheHit p with
    | some w =>
      let bad := s.uesIn .xmem (p.data w) 256
      let s := s.foundUe .xmem bad
      let e := s.tagEntry p w
      let s := if !bad.isEmpty && !tagPoison e then
          (s.setTagEntry p w (mkTag e true (tagDirty e) true (tagNode e))).add Page.xcache XCACHE_POISON_LINES 1 else s
      let s := s.add Page.xcache XCACHE_HITS_COUNT 1
      let s := if st = 2 then s.touchWay p w 4 1 else s
      (s.xmem.read (p.data w) 256, tagPoison e || !bad.isEmpty, s)
    | none =>
      let s := s.add Page.xcache XCACHE_MISSES_COUNT 1
      let r := s.dramLine line
      if st = 2 then
        let (w, s) := s.claimWay steps base p
        (r.1, r.2, s.fillWay p w r.1 false r.2)
      else (r.1, r.2, s)

/-- Write bytes within one line through the cache controller (05_buffers.md R166, R170). -/
def State.writeLine (s : State) (a : Nat) (bs : List Byte) : State :=
  let line := a / 256
  let st := s.cacheState
  if st = 0 ∨ st = 1 then s.dramWrite a bs
  else
    let (steps, base) := s.cacheRegion
    let p := placeOf steps base line
    let s := s.checkTags p (setOf steps line)
    match s.cacheHit p with
    | some w =>
      let e := s.tagEntry p w
      let poison := tagPoison e && bs.length != 256
      let s := if tagPoison e && !poison then
          s.set Page.xcache XCACHE_POISON_LINES (s.get Page.xcache XCACHE_POISON_LINES - 1) else s
      let s := if tagDirty e then s else s.add Page.xcache XCACHE_DIRTY_LINES 1
      let s := (s.setTagEntry p w (mkTag e true true poison (tagNode e))).writeXmem (p.data w + a % 256) bs
      let s := s.add Page.xcache XCACHE_HITS_COUNT 1
      if st = 2 then s.touchWay p w 4 1 else s
    | none =>
      let s := s.add Page.xcache XCACHE_MISSES_COUNT 1
      let r := s.dramLine line
      if st = 2 then
        let (w, s) := s.claimWay steps base p
        let k := a % 256
        s.fillWay p w (r.1.take k ++ bs ++ r.1.drop (k + bs.length)) true (r.2 && bs.length != 256)
      else s.dramWrite a bs

/-- Read DRAM bytes: ECC_FATAL when any line of the range is bad. -/
def State.readDramFrom : (fuel : Nat) → State → (a n : Nat) → List Byte → Bool → List Byte × Bool × State
  | 0, s, _, _, acc, bad => (acc, bad, s)
  | fuel + 1, s, a, n, acc, bad =>
    if n = 0 then (acc, bad, s)
    else
      let k := min n (256 - a % 256)
      let (bs, b, s) := s.readLine (a / 256)
      State.readDramFrom fuel s (a + k) (n - k) (acc ++ (bs.drop (a % 256)).take k) (bad || b)

/-- Read `n` DRAM bytes at `a` through the cache controller. -/
def State.readDram (s : State) (a n : Nat) : List Byte × Bool × State := State.readDramFrom (n / 256 + 2) s a n [] false

/-- A transfer of the DRAM link (06_tiers.md R195): one that the retry recovered is counted, one that fails twice is counted and
logged, and its request completes ECC_FATAL. -/
def State.linkMet (s : State) : LinkRead → Bool × State
  | .clean => (false, s)
  | .recovered => (false, s.add Page.dram DRAM_LINK_CE_COUNT 1)
  | .failed => (true, (s.add Page.dram DRAM_LINK_UE_COUNT 1).raise Page.dram Ev.LINK_UE)

/-- Read DRAM over the link: ECC_FATAL also when the link fails twice. -/
def State.readDramOver (s : State) (link : LinkRead) (a n : Nat) : List Byte × Bool × State :=
  match s.linkMet link with
  | (true, s) => ([], true, s)
  | (false, s) => s.readDram a n

/-- Write DRAM bytes through the cache controller. -/
def State.writeDram (s : State) (a : Nat) (bs : List Byte) : State :=
  eachOf (pieces 256 (bs.length + 1) a bs) (fun p s => s.writeLine p.1 p.2) s

end Sys2Proof.Machine
end

