-- ==== Sys2Proof/Machine/Post.lean ====
section
/-!
DEFINITION. Completion entries and completion queues of contexts (13_partitions.md R480, R486-R488; 14_pages.md R536).
-/
namespace Sys2Proof.Machine

open Reg

/-- The first 63 bytes of a completion entry, 13_partitions.md R486. -/
def cplEntry (st : Status) (kind sqIdx cookie core reason pc step : Nat) : List Byte :=
  leBytes 1 st.code ++ leBytes 1 kind ++ leBytes 2 sqIdx ++ leBytes 4 cookie ++ leBytes 1 core ++ leBytes 1 reason ++
  leBytes 2 pc ++ leBytes 4 0 ++ leBytes 8 step ++ List.replicate 39 0

/-- Depth of a queue from its 9-bit indices, 13_partitions.md R480. -/
def qDepth (head tail : Nat) : Nat := (tail + 512 - head) % 512

def State.cqDepth (s : State) (n : CtxId) : Nat :=
  qDepth (s.get (Page.ctx n.1) CTX_CQ_STATE_HEAD) (s.get (Page.ctx n.1) CTX_CQ_STATE_TAIL)
def State.sqDepth (s : State) (n : CtxId) : Nat :=
  qDepth (s.get (Page.ctx n.1) CTX_SQ_STATE_HEAD) (s.get (Page.ctx n.1) CTX_SQ_STATE_TAIL)

/-- Whether the queues of a context are in use: its live ENABLE. -/
def State.ctxEnabled (s : State) (n : CtxId) : Bool := s.flag (Page.ctx n.1) CTX_QCTRL_ENABLE

/-- A 64-bit base from a pair of registers. -/
def State.pair (s : State) (page idx : Nat) (lo hi : Fld) : Nat := s.getI page idx lo + 2 ^ 32 * s.getI page idx hi

/-- Post an entry: it is written at the CQ's tail with PHASE, the tail advances, INT_RAW bit 8 is set (R486, R487, R513). -/
def State.postNow (s : State) (n : CtxId) (e : List Byte) : State :=
  let pg := Page.ctx n.1
  let tail := s.get pg CTX_CQ_STATE_TAIL
  let base := s.pair pg 0 (CTX_CQ_ADDR.nth 0) (CTX_CQ_ADDR.nth 1)
  let ph := (s.ctx n).phase
  let s := { s with host := s.host.write (base + 64 * (tail % 256)) (e ++ [if ph then 1 else 0]) }
  let s := s.set pg CTX_CQ_STATE_TAIL ((tail + 1) % 512)
  let s := s.set pg CTX_CQ_STATE_FULL (if s.cqDepth n = 256 then 1 else 0)
  let s := if (tail + 1) % 256 = 0 then s.updCtx n fun x => { x with phase := !x.phase } else s
  s.latch pg 8

/-- A context's share of the holding store, R488. -/
abbrev shareSize : Nat := 64

/-- Whether a context's share of the holding store has room: engines start nothing for it otherwise (R488). -/
def State.shareFree (s : State) (n : CtxId) : Bool := (s.ctx n).held.length < shareSize

/-- Whether a completion for a context is taken now: it is posted, held, or discarded after an FLR (R487, R488). -/
def State.takesPost (s : State) (n : CtxId) : Bool :=
  (s.ctx n).flr || ((s.ctx n).kept.isEmpty && (s.shareFree n || (s.ctxEnabled n && s.cqDepth n < 256 && (s.ctx n).held.isEmpty)))

/-- A completion for a context: posted, or held in order while the CQ is full or not in use (R487), or kept while the context's share
is full (R488), or discarded and counted after an FLR (14_pages.md R536). -/
def State.post (s : State) (n : CtxId) (e : List Byte) : State :=
  if (s.ctx n).flr then s.add Page.hostif HOSTIF_FLR_COUNT 1
  else if s.takesPost n then
    if s.ctxEnabled n && s.cqDepth n < 256 && (s.ctx n).held.isEmpty then s.postNow n e
    else s.updCtx n fun x => { x with held := x.held ++ [e] }
  else s.updCtx n fun x => { x with kept := x.kept ++ [⟨e, none⟩] }

/-- Post held completions while the CQ has room (R487). -/
def State.drainHeld : (fuel : Nat) → State → CtxId → State
  | 0, s, _ => s
  | fuel + 1, s, n =>
    match (s.ctx n).held with
    | [] => s
    | e :: r =>
      if s.ctxEnabled n && s.cqDepth n < 256 then
        State.drainHeld fuel ((s.updCtx n fun x => { x with held := r }).postNow n e) n
      else s

/-- The first 64 bytes that host memory holds at an address. -/
def State.hostRead (s : State) (a n : Nat) : List Byte := s.host.read a n

end Sys2Proof.Machine
end

