-- ==== Sys2Proof/Machine/Cores.lean ====
section
/-!
DEFINITION. The machinery of a core below its operations: buffer-slot tags (04_contract.md R141-R145), landing of operations
in flight (R124), CMEM bank arbitration (R132-R137), the passing of a CCLK, core reset (16_reset.md R576) and wipe
(13_partitions.md R471).
-/
namespace Sys2Proof.Machine

open Reg

/-! Buffer slots. -/

/-- Tag codes, 04_contract.md R142. -/
def Tag.code : Tag → Nat
  | .empty => 0 | .filling => 1 | .full => 2 | .draining => 3

def Tag.ofCode (n : Nat) : Tag :=
  match n % 4 with
  | 0 => .empty | 1 => .filling | 2 => .full | _ => .draining

def Core.slot (k : Core) (b : BitVec 8) : BSlot := k.slots[b.toNat]'(b.isLt)
def Core.setSlot (k : Core) (b : BitVec 8) (x : BSlot) : Core := { k with slots := k.slots.set b.toNat x b.isLt }

/-- A write issues to a slot: EMPTY to FILLING, and a recorded status clears (R142; 06_tiers.md R209). -/
def Core.tagWrite (k : Core) (b : BitVec 8) : Core := k.setSlot b { k.slot b with tag := .filling, err := none }
/-- A read issues from a slot: one fewer read remains, the last one drains it (R142); it is under way until it ends. -/
def Core.tagRead (k : Core) (b : BitVec 8) : Core :=
  let x := k.slot b
  let x := { x with out := x.out + 1 }
  k.setSlot b (if 1 < x.rc.toNat then { x with rc := x.rc - 1 } else { x with tag := .draining })
/-- A write completes: FILLING to FULL with RC = READS (R142). -/
def Core.tagFull (k : Core) (b : BitVec 8) : Core :=
  let x := k.slot b
  if x.tag = .filling then k.setSlot b { x with tag := .full, rc := x.reads } else k
/-- A read of a slot ends: when it is the last one under way, a DRAINING slot is EMPTY (R142). -/
def Core.tagDrained (k : Core) (b : BitVec 8) : Core :=
  let x := k.slot b
  let x := { x with out := x.out - 1 }
  k.setSlot b (if x.tag = .draining ∧ x.out = 0 then { x with tag := .empty } else x)
/-- An engine's work on a slot ends without OK: the slot returns to EMPTY with the status recorded (06_tiers.md R209). -/
def Core.tagFail (k : Core) (b : BitVec 8) (st : Status) : Core :=
  let x := k.slot b
  if x.tag = .filling then k.setSlot b { x with tag := .empty, err := some st } else k

/-- Core start or reset: every tag to CORE_BSLOT.INIT and RC to READS, as software last wrote them (R142, R154). -/
def State.loadSlots (s : State) (c : CoreId) : State :=
  let pg := Page.core c.1
  s.updCore c fun k =>
    { k with slots := Vector.ofFn fun i =>
        let r := BitVec.ofNat 8 (s.get pg (CORE_BSLOT_READS.nth i.1))
        ⟨Tag.ofCode (s.get pg (CORE_BSLOT_INIT.nth i.1)), r, 0, r, none⟩ }

/-! Landing. -/

/-- The register that an effect writes. -/
def Land.dst : Land → Option Dst
  | .regS i _ => some (.s i)
  | .regA i _ => some (.a i)
  | .regV i _ _ => some (.v i)
  | .regP i _ => some (.p i)
  | .regT i _ => some (.t i)
  | _ => none

/-- The register index of a core's slot on the SCALE page. -/
def scaleIdx (c : CoreId) (slot : Nat) : Nat := c.1 * 256 + slot % 256

/-- Raise a slot's pending amax to a magnitude, and count non-finite lanes with one AMAX_NONFINITE (R260). -/
def State.raiseAmax (s : State) (c : CoreId) (slot : Nat) (m : Word) (nonfinite : Nat) : State :=
  let i := scaleIdx c slot
  let old : Word := BitVec.ofNat 32 (s.getI Page.scale i SCALE_PENDING_AMAX)
  let s := if flt old m then s.setI Page.scale i SCALE_PENDING_AMAX m.toNat else s
  if nonfinite = 0 then s
  else (s.addI Page.scale i SCALE_NONFINITE_COUNT nonfinite).raise Page.scale Ev.AMAX_NONFINITE (byCore c)

/-- Write a register of a core. -/
def Core.setS (k : Core) (i : BitVec 6) (x : Dword) : Core := { k with s := k.s.set i.toNat x i.isLt }
def Core.setA (k : Core) (i : BitVec 4) (x : Dword) : Core := { k with a := k.a.set i.toNat x i.isLt }
def Core.setV (k : Core) (i : BitVec 5) (x : Lanes) : Core := { k with v := k.v.set i.toNat x i.isLt }
def Core.setT (k : Core) (i : BitVec 6) (x : BitVec 128) : Core := { k with t := k.t.set i.toNat x i.isLt }
def Core.setP (k : Core) (i : BitVec 4) (x : Bool) : Core :=
  { k with p := if x then k.p ||| (1#16 <<< i.toNat) else k.p &&& ~~~(1#16 <<< i.toNat) }
def Core.rs (k : Core) (i : BitVec 6) : Dword := k.s[i.toNat]'(i.isLt)
def Core.ra (k : Core) (i : BitVec 4) : Dword := k.a[i.toNat]'(i.isLt)
def Core.rv (k : Core) (i : BitVec 5) : Lanes := k.v[i.toNat]'(i.isLt)
def Core.rt (k : Core) (i : BitVec 6) : BitVec 128 := k.t[i.toNat]'(i.isLt)
def Core.rp (k : Core) (i : BitVec 4) : Bool := k.p.getLsbD i.toNat

/-- Lanes of a vector write: with a mask only the lanes whose mask lane is nonzero are written (03_bundles.md R101). -/
def maskLanes (old new : Lanes) : Option Lanes → Lanes
  | none => new
  | some m => Vector.ofFn fun i => if m[i] = 0 then old[i] else new[i]

/-- An operation's effect arrives. -/
def State.land (s : State) (c : CoreId) : Land → State
  | .regS i x => s.updCore c (·.setS i x)
  | .regA i x => s.updCore c (·.setA i x)
  | .regV i x m => s.updCore c fun k => k.setV i (maskLanes (k.rv i) x m)
  | .regP i x => s.updCore c (·.setP i x)
  | .regT i x => s.updCore c (·.setT i x)
  | .mem sp a data => s.writeMem (memOfSpace c sp.toNat) a data
  | .xmem a data => s.writeXmem a data
  | .full b => s.updCore c (·.tagFull b)
  | .empty b => s.updCore c (·.tagDrained b)
  | .fail b st => s.updCore c (·.tagFail b st)
  | .block b data =>
    (s.writeMem (.imem c) (b.toNat * 8192) data).updCore c fun k => { k with imemOk := k.imemOk ||| (1#32 <<< b.toNat) }
  | .plane row data => s.updCore c fun k => { k with planeS := assocSet k.planeS row data }
  | .swap => s.updCore c fun k => { k with planeA := k.planeS, planeS := k.planeA }
  | .scale slot x => s.setI Page.scale (c.1 * 256 + slot) SCALE_VALUE_SCALE x.toNat
  | .accRow row x add =>
    let old := s.readMem (.acc c) (2048 * row) (4 * x.length)
    let new := if add then ((List.range x.length).zip x).map fun p =>
        fadd (BitVec.ofNat 32 (field old (4 * p.1) 4)) p.2 else x
    s.writeMem (.acc c) (2048 * row) (wordBytes new)
  | .amax slot m nonfinite => s.raiseAmax c slot m nonfinite

/-- Whether a register write due with others meets one that issued earlier in its register (R129). -/
def lateClash (due : List Flight) (f : Flight) : Bool :=
  f.what.dst.isSome && due.any fun g => g.what.dst == f.what.dst && decide (g.op < f.op)

/-- Land every flight due by the core's cycle. Of two writes of one register in one CCLK the one that issued later does not
land: its bundle faults with WRITE_COLLISION (R129; log 90). -/
def State.landDue (s : State) (c : CoreId) : State :=
  let k := s.core c
  let due := k.flights.filter fun f => f.due ≤ k.cyc
  let clash := (due.find? (lateClash due)).map fun f => (f.pc, f.op % 8)
  let s := s.updCore c fun k =>
    { k with flights := k.flights.filter fun f => !(f.due ≤ k.cyc), clash := if k.clash.isSome then k.clash else clash }
  eachOf (due.filter fun f => !lateClash due f) (fun f s => s.land c f.what) s

/-- Every operation in flight lands, as before a stop (03_bundles.md R88). -/
def State.landAll (s : State) (c : CoreId) : State :=
  let fl := ((s.core c).flights).mergeSort fun a b => decide (a.due ≤ b.due)
  let s := s.updCore c fun k => { k with flights := [], access := [], beats := [], busy := [] }
  eachOf fl (fun f s => s.land c f.what) s

/-- A chip engine changes a slot's tag in the CCLK of the bundle that a core issues next: a tag check in the CCLK after it
sees the new state (02_chip.md R61). A core whose CCLK do not count has it at once. -/
def State.tagEvent (s : State) (c : CoreId) (w : Land) : State :=
  let k := s.core c
  if k.st = .running ∨ k.st = .waiting then
    s.updCore c fun k => { k with flights := k.flights ++ [⟨k.cyc + 1, 8 * k.cyc + 7, k.pc, w⟩] }
  else s.land c w

/-- An engine's work on a slot ends with a status (R142; 06_tiers.md R209). -/
def State.tagEnd (s : State) (c : CoreId) (b : BitVec 8) (st : Status) : State :=
  s.tagEvent c (if st = .ok then .full b else .fail b st)

/-! CMEM banks. -/

/-- The banks of a wide access at an offset, 04_contract.md R132. -/
def wideBanks (o : Nat) : BitVec 16 := if bits o 9 9 = 0 then 0x00FF#16 else 0xFF00#16
/-- The bank of a narrow access. -/
def narrowBank (o : Nat) : BitVec 16 := 1#16 <<< bits o 9 6
/-- The four banks of a flit landing's half block, 04_contract.md R137. -/
def halfBanks (o : Nat) : BitVec 16 := 0x000F#16 <<< (4 * bits o 9 8)

def BankClass.rank : BankClass → Nat
  | .xldLand => 0 | .tmov => 1 | .vec => 2 | .xstSend => 3 | .narrow => 4

/-- Grant order of one CCLK: the guarded narrow accesses, then by class, then by issue (04_contract.md R134, R136). -/
def accessOrder (guard : Vector Nat 16) (l : List Access) : List Access :=
  let boost (x : Access) : Bool :=
    x.cls == .narrow && (List.range 16).any fun b => decide (3 ≤ guard[b]!) && (x.banks.headD 0).getLsbD b
  let key (x : Access) : Nat := ((if boost x then 0 else 1) * 8 + x.cls.rank) * 2 ^ 70 + x.op
  l.mergeSort fun a b => decide (key a ≤ key b)

/-- Grant accesses in order while their banks are free: the granted operations and the banks in use. -/
def grantBanks : List Access → (used : BitVec 16) → List Nat × BitVec 16
  | [], used => ([], used)
  | x :: r, used =>
    let b := x.banks.headD 0
    if b &&& used = 0 then
      let (g, u) := grantBanks r (used ||| b)
      (x.op :: g, u)
    else grantBanks r used

/-- Operations slide by `n` CCLK: what they still have in flight, and the units that they hold (R126, R135). A flit of SEND
slides while its block is not read (09_weave.md R339). -/
def State.slide (s : State) (c : CoreId) (ops : List Nat) (n : Nat) : State :=
  if ops.isEmpty then s
  else
    let by_ (op due : Nat) : Nat := if ops.contains op then due + n else due
    let now := (s.core c).start + (s.core c).cyc
    let s := s.updCore c fun k =>
      { k with flights := k.flights.map fun f => { f with due := by_ f.op f.due }
               busy := k.busy.map fun b => (b.1, b.2.1, by_ b.2.1 b.2.2) }
    { s with ports := s.ports.map fun p =>
        { p with vc0 := p.vc0.set c (p.vc0[c].map fun x => { x with ready := if now < x.ready then by_ x.op x.ready else x.ready }) } }

/-- One CCLK of bank arbitration at the core's cycle: granted accesses advance, deferred ones slide their operation by one
CCLK and count in CORE_DEFER (04_contract.md R134-R137, R153); the head of the staging buffer lands in idle banks. -/
def State.arbitrate (s : State) (c : CoreId) : State :=
  let k := s.core c
  let now := k.access.filter fun x => x.want ≤ k.cyc
  let order := accessOrder k.guard now
  let (granted, used) := grantBanks order 0
  let late := (now.filter fun x => !granted.contains x.op).map (·.op)
  let wides := (now.filter fun x => granted.contains x.op && x.cls != .narrow).foldl (fun m x => m ||| x.banks.headD 0) 0#16
  let waiting := (now.filter fun x => !granted.contains x.op && x.cls == .narrow).foldl (fun m x => m ||| x.banks.headD 0) 0#16
  let access := k.access.filterMap fun x =>
    if k.cyc < x.want then some x
    else if granted.contains x.op then
      match x.banks with
      | _ :: b :: r => some { x with want := k.cyc + 1, banks := b :: r }
      | _ => none
    else some { x with want := k.cyc + 1 }
  let k := { k with
    access := access
    guard := Vector.ofFn fun b =>
      if waiting.getLsbD b.1 && wides.getLsbD b.1 then k.guard[b] + 1 else 0 }
  let s := ((s.setCore c k).slide c late 1).add (Page.core c.1) CORE_DEFER_CMEM late.length
  match k.staging with
  | f :: r =>
    if halfBanks f.addr &&& used = 0 then
      let s := (s.writeMem (.cmem c) f.addr f.data).updCore c fun k => { k with staging := r }
      match f.last with
      | some b => s.tagEvent c (.full b)
      | none => s
    else s
  | [] => s

/-! XMEM banks. -/

/-- The FCLK of the chip in which a core's current CCLK falls: 40 FCLK to 50 CCLK (R121). -/
def Core.fclk (k : Core) : Nat := (k.start + k.cyc) * 4 / 5

/-- Whether a core's access is granted its segment in the FCLK that it wants: no port of the partition has it already, and of
the ports that want it with this one none comes before, a port that has been deferred in three consecutive FCLK first, then
by partition rank (R139). -/
def State.beatWins (s : State) (c : CoreId) (b : Beat) : Bool :=
  let k := s.core c
  let others := (match s.partOf c with
    | some p => s.coresOfPart p
    | none => []).filter (· != c)
  let held := others.any fun d => (s.core d).took == some (b.want, b.seg)
  let before (d : CoreId) : Bool :=
    let x := s.core d
    match x.beats with
    | y :: _ =>
      y.want == b.want && y.seg == b.seg &&
        (if decide (3 ≤ x.lost) == decide (3 ≤ k.lost) then decide (s.rankOf d < s.rankOf c) else decide (3 ≤ x.lost))
    | [] => false
  !held && !others.any before

/-- A core's XMEM port at the core's cycle: the access that is due is granted, or deferred by one FCLK, which slides its
operation by two CCLK and counts in CORE_DEFER (R127, R139, R153). -/
def State.xmemTurn (s : State) (c : CoreId) : State :=
  let k := s.core c
  match k.beats with
  | [] => s
  | b :: r =>
    if k.fclk < b.want then s
    else if s.beatWins c b then s.updCore c fun k => { k with beats := r, lost := 0, took := some (b.want, b.seg) }
    else
      let s := s.updCore c fun k =>
        { k with beats := k.beats.map fun x => if x.op = b.op then { x with want := x.want + 1 } else x
                 lost := k.lost + 1
                 access := k.access.map fun x => if x.op = b.op then { x with want := x.want + 2 } else x }
      (s.slide c [b.op] 2).add (Page.core c.1) CORE_DEFER_XMEM 1

/-- One CCLK passes: CYC advances, the banks are granted, and what is due lands (04_contract.md R121, R124). -/
def State.cclk (s : State) (c : CoreId) : State :=
  (((s.updCore c fun k => { k with cyc := k.cyc + 1 }).arbitrate c).xmemTurn c).landDue c

/-- Several CCLK pass. -/
def State.cclks : (n : Nat) → State → CoreId → State
  | 0, s, _ => s
  | n + 1, s, c => State.cclks n (s.cclk c) c

/-! Reset and wipe. -/

/-- The counters of the CORE page read zero when the core starts (04_contract.md R153). -/
def State.clearCounters (s : State) (c : CoreId) : State :=
  eachOf [CORE_WAIT_HELD_COUNT, CORE_WAIT_TICKS_TICKS, CORE_WAIT_MAX_TICKS, CORE_WAIT_MAX_PC_PC, CORE_WAIT_MAX_PC_BSLOT,
      CORE_EPOCH_TICKS_TICKS, CORE_STRETCH_CNT_COUNT, CORE_STRETCH_TIME_TIME, CORE_DEFER_CMEM, CORE_DEFER_XMEM,
      CORE_HOLD_CCLK_CCLK] (fun f s => s.set (Page.core c.1) f 0) s

/-- What a core reset clears and keeps (16_reset.md R576): registers, CYC and counters, tags to INIT, CORE_FAULT, operations
in flight, Spin lanes; memories, valid bits and declarations stay. A new life begins: completions of descriptors issued
before are discarded (R585). -/
def State.resetCore (s : State) (c : CoreId) : State :=
  let s := s.updCore c fun k =>
    { Core.reset with
      cmem := k.cmem, min := k.min, acc := k.acc, vec := k.vec, imem := k.imem, stg := k.stg, imemOk := k.imemOk,
      planeA := k.planeA, planeS := k.planeS, slots := k.slots, owner := k.owner, evict := k.evict, wiping := k.wiping,
      quiet := k.quiet, life := k.life + 1 }
  let s := (s.clearCounters c).setWord (Page.core c.1) 0 CORE_FAULT_STATUS.off 0
  let s := (s.set (Page.core c.1) CORE_CTRL_HALT_REQ 0).set (Page.core c.1) CORE_CTRL_BRK_EN 0
  (s.set (Page.core c.1) CORE_CONTRACT_CTRL_WAIT_EVENT_EN 0).loadSlots c

/-- A core that changes partition is reset and wiped: memories, registers, buffer-slot declarations (13_partitions.md R471). -/
def State.wipeCore (s : State) (c : CoreId) : State :=
  let s := eachOf (List.range 256) (fun n s =>
    (s.set (Page.core c.1) (CORE_BSLOT_READS.nth n) 0).set (Page.core c.1) (CORE_BSLOT_INIT.nth n) 0) s
  let s := s.resetCore c
  let s := s.updEcc fun e =>
    { e with upset := e.upset.filter fun x => decide (x.1.page ≠ Page.cmem c.1) }
  s.updCore c fun k =>
    { k with cmem := [], min := [], acc := [], vec := [], imem := [], stg := [], imemOk := 0, planeA := [], planeS := [],
             owner := none, evict := false }

end Sys2Proof.Machine
end

