-- ==== Sys2Proof/Machine/Fabric.lean ====
section
/-!
DEFINITION. Sending on the fabric (09_weave.md): flits and engine words (R330), the path table (R346), egress and the queues
of VC1-VC3 (R344, R350).
-/
namespace Sys2Proof.Machine

open Reg

/-- This chip's PCN. -/
def State.pcn (s : State) : Pcn := BitVec.ofNat 12 (s.get Page.chip CHIP_PCN_PCN)

/-- The bits of a path-table entry, 09_weave.md R346. -/
def State.pathEntry (s : State) (e : Nat) : Nat :=
  s.getI Page.weave e WEAVE_PATH_LO_ENTRY + 2 ^ 32 * s.getI Page.weave e WEAVE_PATH_HI_ENTRY

def pathDst (x : Nat) : Nat := x % 4096
def pathMc (x : Nat) : Bool := x.testBit 12
def pathEgress (x : Nat) : Nat := bits x 16 13
def pathValid (x : Nat) : Bool := x.testBit 17

/-- The port a number names, when there is one. -/
def portOf? (n : Nat) : Option PortId := if h : n < 12 then some ⟨n, h⟩ else none

/-- The egress port of the first valid entry for a destination, with the entry's index (06_tiers.md R212; 11_press.md). -/
def State.route (s : State) (dst : Nat) (mc : Bool) : Option (PortId × Nat) :=
  match (List.range 1024).find? (fun e =>
      let x := s.pathEntry e
      pathValid x && pathDst x == dst && pathMc x == mc) with
  | some e => (portOf? (pathEgress (s.pathEntry e))).map fun p => (p, e)
  | none => none

/-- Kinds of ENG[14:12], 09_weave.md R330. -/
inductive EngKind where
  | pressTile | pressCtrl | ringRec | gear | remote | ringCtrl
  deriving DecidableEq, Repr

def EngKind.code : EngKind → Nat
  | .pressTile => 1 | .pressCtrl => 2 | .ringRec => 3 | .gear => 4 | .remote => 5 | .ringCtrl => 6

/-- An engine word with ENG[15] = 0. -/
def engWord (k : EngKind) (kind low : Nat) : BitVec 16 := BitVec.ofNat 16 (k.code * 4096 + (kind % 16) * 256 + low % 256)

/-- A payload of 256 bytes. -/
def padTo (n : Nat) (l : List Byte) : List Byte := slice l 0 n

/-- A flit of an engine on VC1-VC3. -/
def State.engFlit (s : State) (vc : Nat) (mc : Bool) (dst : Nat) (path part : Nat) (eng : BitVec 16) (fidx : Nat) (last : Bool)
    (payload : List Byte) : Flit :=
  { vc := BitVec.ofNat 2 vc, mc := mc, last := last, src := s.pcn, dst := BitVec.ofNat 12 dst, dcore := 0, bslot := 0,
    fidx := BitVec.ofNat 12 fidx, part := BitVec.ofNat 12 part, path := BitVec.ofNat 10 path, lseq := 0, eng := eng,
    payload := padTo 256 payload }

/-- Queue flits of one VC on a port. -/
def State.queueVc (s : State) (p : PortId) (vc : Fin 3) (fs : List Flit) : State :=
  s.updPort p fun k =>
    { k with vcq := k.vcq.set vc (k.vcq[vc] ++ fs), vc1In := if vc = 0 then k.vc1In + fs.length else k.vc1In }

/-- The end of the VC1 queues of ports, as a descriptor notes it when its last flit joins them. -/
def State.outMarks (s : State) (ports : List PortId) : List (PortId × Nat) := ports.map fun p => (p, (s.port p).vc1In)

/-- Whether the flits of a descriptor have left a port's VC1 queue. -/
def State.leftPort (s : State) (x : PortId × Nat) : Bool := decide (x.2 + ((s.port x.1).vcq[(0 : Fin 3)]).length ≤ (s.port x.1).vc1In)

/-- Whether the last flit of a descriptor has been sent (11_press.md R418, R427). -/
def State.outSent (s : State) (d : Desc) : Bool := d.out.all s.leftPort

/-- The index of VC1-VC3. -/
abbrev vc1 : Fin 3 := 0
abbrev vc2 : Fin 3 := 1
abbrev vc3 : Fin 3 := 2

/-- Whether a port is ACTIVE. -/
def State.portActive (s : State) (p : PortId) : Bool := (s.port p).st == .active

/-- Send engine flits to a destination: none when there is no path, or its egress port is not ACTIVE (R350). -/
def State.sendEng (s : State) (vc : Fin 3) (mc : Bool) (dst part : Nat) (eng : BitVec 16)
    (msgs : List (List Byte)) : Option State :=
  match s.route dst mc with
  | none => none
  | some (p, e) =>
    if s.portActive p then
      let n := msgs.length
      let fs := (List.range n).map fun i =>
        s.engFlit (vc.1 + 1) mc dst e part eng i (i + 1 == n) (msgs.getD i [])
      some (s.queueVc p vc fs)
    else none

/-- Whether an access may start new engine work: not while QUIESCE_N is honoured (18_access.md R638), nor once the power-fail
sequence has begun (15_clocks_power.md R567). -/
def State.mayStart (s : State) : Bool :=
  !s.pins.quiesceLow && s.get Page.pwr PWR_FAIL_STEP == 0

/-- Whether the power-fail sequence has stopped work begun before as well: engines issue nothing and ports take no data flit
(15_clocks_power.md R567). -/
def State.powerStopped (s : State) : Bool := s.get Page.pwr PWR_FAIL_STEP != 0

/-- CRC-32C, one byte: reflected polynomial 0x82F63B78 (06_tiers.md R198). -/
def crcBits : (n : Nat) → Nat → Nat
  | 0, c => c
  | n + 1, c => crcBits n (if c % 2 = 1 then (c / 2) ^^^ 0x82F63B78 else c / 2)

def crcByte (c : Nat) (b : Byte) : Nat := crcBits 8 (c ^^^ b.toNat)

/-- CRC-32C of bytes (06_tiers.md R198). -/
def crc32c (l : List Byte) : Nat := (l.foldl crcByte 0xFFFFFFFF) ^^^ 0xFFFFFFFF

/-- CRC-16 of control words and headers, one byte: polynomial 0x1021, no reflection (09_weave.md R330). -/
def crc16Bits : (n : Nat) → Nat → Nat
  | 0, c => c
  | n + 1, c => crc16Bits n (if c / 32768 % 2 = 1 then ((c * 2) % 65536) ^^^ 0x1021 else (c * 2) % 65536)

/-- CRC-16 of bytes (09_weave.md R330). -/
def crc16 (l : List Byte) : Nat := l.foldl (fun c b => crc16Bits 8 (c ^^^ (b.toNat * 256))) 0xFFFF

end Sys2Proof.Machine
end

