-- ==== Sys2Proof/Machine/Operands.lean ====
section
/-!
DEFINITION. Operand forms that operations and engines share: addresses with their SPACE (03_bundles.md R71-R73), tile handles
(R74), and reads and writes of a core's address spaces.
-/
namespace Sys2Proof.Machine

open Reg

/-- A tile handle, 03_bundles.md R74; `rowLen` and `rows` are decoded, `step` is the distance between row starts. -/
structure Handle where
  base   : Nat
  space  : Nat
  fmt    : Nat
  stride : Nat
  rows   : Nat
  rowLen : Nat
  bslot  : BitVec 8
  tagged : Bool
  deriving DecidableEq, Repr

/-- The fields of a tile-handle register. -/
def Handle.of (t : BitVec 128) : Handle :=
  let x := t.toNat
  { base := bits x 39 0, space := bits x 43 40, fmt := bits x 47 44, stride := bits x 63 48, rows := bits x 75 64 + 1,
    rowLen := 64 * (bits x 87 76 + 1), bslot := BitVec.ofNat 8 (bits x 95 88), tagged := x.testBit 96 }

/-- Bytes between row starts: 0 means packed rows. -/
def Handle.step (h : Handle) : Nat := if h.stride = 0 then h.rowLen else h.stride

/-- Bytes of the tile. -/
def Handle.bytes (h : Handle) : Nat := h.rows * h.rowLen

/-- The offset just above the tile's last byte. -/
def Handle.top (h : Handle) : Nat := h.base + (h.rows - 1) * h.step + h.rowLen

/-- The offset of tile byte `i`. -/
def Handle.at (h : Handle) (i : Nat) : Nat := h.base + i / h.rowLen * h.step + i % h.rowLen

/-- The contiguous pieces (offset, length) of tile bytes `i` to `i + n - 1`. -/
def Handle.spans (h : Handle) : (fuel i n : Nat) → List (Nat × Nat)
  | 0, _, _ => []
  | fuel + 1, i, n =>
    if n = 0 then []
    else if h.step = h.rowLen then [(h.base + i, n)]
    else
      let k := min n (h.rowLen - i % h.rowLen)
      (h.at i, k) :: h.spans fuel (i + k) (n - k)

/-- Size of a space as a core sees it: the scratchpad is its partition's grant, empty without a partition (R72). -/
def State.spaceLen (s : State) (c : CoreId) (space : Nat) : Nat :=
  if space = 1 then
    match s.partOf c with
    | some p => (s.grantedSegs p).length * segBytes
    | none => 0
  else (spaceSize space).getD 0

/-- Whether bytes [a, a + n) lie in a space (R73). -/
def State.inSpace (s : State) (c : CoreId) (space a n : Nat) : Bool := decide (a + n ≤ s.spaceLen c space)

/-- Whether a handle's tile lies in its space, its base and stride being multiples of 64 (R73, R74). -/
def State.handleOk (s : State) (c : CoreId) (h : Handle) : Bool :=
  h.base % 64 == 0 && h.stride % 64 == 0 && s.inSpace c h.space h.base (h.top - h.base)

/-- Read bytes of a core's space: the bytes and whether a word of them is uncorrectable. -/
def State.readSpace (s : State) (c : CoreId) (space a n : Nat) : List Byte × Bool × State :=
  if space = 1 then
    match s.partOf c with
    | none => (List.replicate n 0, false, s)
    | some p =>
      let segs := s.grantedSegs p
      let phys (i : Nat) : Nat := (scratchPhys segs i).getD 0
      let ws := (pieces segBytes 130 a (List.replicate n 0)).flatMap fun q => s.uesIn .xmem (phys q.1) q.2.length
      ((List.range n).map fun i => s.xmem.byte (phys (a + i)), !ws.isEmpty, s.foundUe .xmem ws)
  else if space = 2 then s.readDram a n
  else
    let m := memOfSpace c space
    let ws := s.uesIn m a n
    (s.readMem m a n, !ws.isEmpty, s.foundUe m ws)

/-- Write bytes of a core's space. -/
def State.writeSpace (s : State) (c : CoreId) (space a : Nat) (bs : List Byte) : State :=
  if space = 1 then
    match s.partOf c with
    | none => s
    | some p => s.writeScratch p a bs
  else if space = 2 then s.writeDram a bs
  else s.writeMem (memOfSpace c space) a bs

/-- Read bytes `i` to `i + n - 1` of a handle's tile. -/
def State.readTileAt (s : State) (c : CoreId) (h : Handle) (i n : Nat) : List Byte × Bool × State :=
  (h.spans (h.rows + 1) i n).foldl (fun (r : List Byte × Bool × State) p =>
    let (bs, bad, s) := r.2.2.readSpace c h.space p.1 p.2
    (r.1 ++ bs, r.2.1 || bad, s)) ([], false, s)

/-- Write bytes of a handle's tile from byte `i` on. -/
def State.writeTileAt (s : State) (c : CoreId) (h : Handle) (i : Nat) (bs : List Byte) : State :=
  ((h.spans (h.rows + 1) i bs.length).foldl (fun (r : List Byte × State) p =>
    (r.1.drop p.2, r.2.writeSpace c h.space p.1 (r.1.take p.2))) (bs, s)).2

end Sys2Proof.Machine
end

