-- ==== Sys2Proof/Machine/Crypto.lean ====
section
/-!
DEFINITION. SHA-256 and ECDSA P-256, which the spec names in 08_spin.md R282, 16_reset.md R589 and 18_access.md R641,
R642.
-/
namespace Sys2Proof.Machine

/-! SHA-256. -/

/-- The 64 round constants. -/
def shaK : List Word :=
  [0x428A2F98, 0x71374491, 0xB5C0FBCF, 0xE9B5DBA5, 0x3956C25B, 0x59F111F1, 0x923F82A4, 0xAB1C5ED5, 0xD807AA98,
   0x12835B01, 0x243185BE, 0x550C7DC3, 0x72BE5D74, 0x80DEB1FE, 0x9BDC06A7, 0xC19BF174, 0xE49B69C1, 0xEFBE4786,
   0x0FC19DC6, 0x240CA1CC, 0x2DE92C6F, 0x4A7484AA, 0x5CB0A9DC, 0x76F988DA, 0x983E5152, 0xA831C66D, 0xB00327C8,
   0xBF597FC7, 0xC6E00BF3, 0xD5A79147, 0x06CA6351, 0x14292967] ++
  [0x27B70A85, 0x2E1B2138, 0x4D2C6DFC, 0x53380D13, 0x650A7354, 0x766A0ABB, 0x81C2C92E, 0x92722C85, 0xA2BFE8A1,
   0xA81A664B, 0xC24B8B70, 0xC76C51A3, 0xD192E819, 0xD6990624, 0xF40E3585, 0x106AA070, 0x19A4C116, 0x1E376C08,
   0x2748774C, 0x34B0BCB5, 0x391C0CB3, 0x4ED8AA4A, 0x5B9CCA4F, 0x682E6FF3, 0x748F82EE, 0x78A5636F, 0x84C87814,
   0x8CC70208, 0x90BEFFFA, 0xA4506CEB, 0xBEF9A3F7, 0xC67178F2]

/-- The initial hash value. -/
def shaInit : List Word :=
  [0x6A09E667, 0xBB67AE85, 0x3C6EF372, 0xA54FF53A, 0x510E527F, 0x9B05688C, 0x1F83D9AB, 0x5BE0CD19]

/-- A big-endian number from bytes. -/
def beNat (l : List Byte) : Nat := l.foldl (fun a b => a * 256 + b.toNat) 0

/-- The `n` bytes of a number, big-endian. -/
def beBytes (n x : Nat) : List Byte := (leBytes n x).reverse

/-- The message schedule: `n` further words from the last sixteen, newest first. -/
def shaSchedule : (n : Nat) → List Word → List Word
  | 0, w => w
  | n + 1, w =>
    let w2 := w.getD 1 0
    let w15 := w.getD 14 0
    let s0 := w15.rotateRight 7 ^^^ w15.rotateRight 18 ^^^ (w15 >>> 3)
    let s1 := w2.rotateRight 17 ^^^ w2.rotateRight 19 ^^^ (w2 >>> 10)
    shaSchedule n ((w.getD 15 0 + s0 + w.getD 6 0 + s1) :: w)

/-- One round on the working variables a to h. -/
def shaRound (v : List Word) (kw : Word × Word) : List Word :=
  match v with
  | [a, b, c, d, e, f, g, h] =>
    let s1 := e.rotateRight 6 ^^^ e.rotateRight 11 ^^^ e.rotateRight 25
    let ch := (e &&& f) ^^^ (~~~e &&& g)
    let t1 := h + s1 + ch + kw.1 + kw.2
    let s0 := a.rotateRight 2 ^^^ a.rotateRight 13 ^^^ a.rotateRight 22
    let maj := (a &&& b) ^^^ (a &&& c) ^^^ (b &&& c)
    [t1 + (s0 + maj), a, b, c, d + t1, e, f, g]
  | v => v

/-- One 64-byte block. -/
def shaBlock (h : List Word) (block : List Byte) : List Word :=
  let w := (List.range 16).map fun i => BitVec.ofNat 32 (beNat (slice block (4 * i) 4))
  let ws := (shaSchedule 48 w.reverse).reverse
  (h.zip ((shaK.zip ws).foldl shaRound h)).map fun p => p.1 + p.2

/-- The padded message. -/
def shaPad (l : List Byte) : List Byte :=
  let n := l.length
  l ++ [0x80] ++ List.replicate ((119 - n % 64) % 64) 0 ++ beBytes 8 (8 * n)

def shaBlocks : (n : Nat) → List Word → List Byte → List Word
  | 0, h, _ => h
  | n + 1, h, l => shaBlocks n (shaBlock h (l.take 64)) (l.drop 64)

/-- SHA-256 of bytes. -/
def sha256 (l : List Byte) : List Byte :=
  let m := shaPad l
  (shaBlocks (m.length / 64) shaInit m).flatMap fun w => beBytes 4 w.toNat

/-! ECDSA on P-256. -/

def p256p : Nat := 2 ^ 256 - 2 ^ 224 + 2 ^ 192 + 2 ^ 96 - 1
def p256n : Nat := 0xFFFFFFFF00000000FFFFFFFFFFFFFFFFBCE6FAADA7179E84F3B9CAC2FC632551
def p256gx : Nat := 0x6B17D1F2E12C4247F8BCE6E563A440F277037D812DEB33A0F4A13945D898C296
def p256gy : Nat := 0x4FE342E2FE1A7F9B8EE7EB4A7C0F9E162BCE33576B315ECECBB6406837BF51F5

/-- Power modulo `m`, from the exponent's bit `b - 1` down. -/
def powMod (m x e : Nat) : (b : Nat) → (acc : Nat) → Nat
  | 0, acc => acc
  | b + 1, acc =>
    let a := acc * acc % m
    powMod m x e b (if e.testBit b then a * x % m else a)

/-- Inverse modulo a prime. -/
def invMod (m x : Nat) : Nat := powMod m (x % m) (m - 2) 256 1

/-- A point in Jacobian coordinates; z = 0 is the point at infinity. -/
structure EcPt where
  x : Nat
  y : Nat
  z : Nat
  deriving DecidableEq, Repr

def subP (a b : Nat) : Nat := (a + p256p - b % p256p) % p256p

def ecDouble (a : EcPt) : EcPt :=
  if a.z = 0 ∨ a.y = 0 then ⟨1, 1, 0⟩
  else
    let p := p256p
    let y2 := a.y * a.y % p
    let s := 4 * a.x * y2 % p
    let z2 := a.z * a.z % p
    let m := 3 * (subP a.x z2) * ((a.x + z2) % p) % p
    let x := subP (m * m % p) (2 * s % p)
    ⟨x, subP (m * subP s x % p) (8 * y2 * y2 % p), 2 * a.y * a.z % p⟩

def ecAdd (a b : EcPt) : EcPt :=
  if a.z = 0 then b
  else if b.z = 0 then a
  else
    let p := p256p
    let za := a.z * a.z % p
    let zb := b.z * b.z % p
    let u1 := a.x * zb % p
    let u2 := b.x * za % p
    let s1 := a.y * (zb * b.z % p) % p
    let s2 := b.y * (za * a.z % p) % p
    if u1 = u2 then (if s1 = s2 then ecDouble a else ⟨1, 1, 0⟩)
    else
      let h := subP u2 u1
      let r := subP s2 s1
      let h2 := h * h % p
      let h3 := h2 * h % p
      let v := u1 * h2 % p
      let x := subP (subP (r * r % p) h3) (2 * v % p)
      ⟨x, subP (r * subP v x % p) (s1 * h3 % p), h * a.z % p * b.z % p⟩

/-- `u` times a plus `v` times b, from bit `n - 1` down. -/
def ecTwo (u v : Nat) (a b : EcPt) : (n : Nat) → EcPt → EcPt
  | 0, acc => acc
  | n + 1, acc =>
    let d := ecDouble acc
    let d := if u.testBit n then ecAdd d a else d
    ecTwo u v a b n (if v.testBit n then ecAdd d b else d)

/-- Whether (r, s) signs a SHA-256 digest under the public key (qx, qy). -/
def ecdsaOk (qx qy : Nat) (digest : List Byte) (r s : Nat) : Bool :=
  if r = 0 ∨ p256n ≤ r ∨ s = 0 ∨ p256n ≤ s then false
  else
    let w := invMod p256n s
    let u := beNat digest * w % p256n
    let v := r * w % p256n
    let q := ecTwo u v ⟨p256gx, p256gy, 1⟩ ⟨qx, qy, 1⟩ 256 ⟨1, 1, 0⟩
    if q.z = 0 then false
    else
      let zi := invMod p256p q.z
      q.x * (zi * zi % p256p) % p256p % p256n == r

end Sys2Proof.Machine
end

