-- ==== Sys2Proof/Machine/Reals.lean ====
section
/-!
DEFINITION. Real functions that the spec names without a rounding, evaluated far below the last place of FP32: numbers in units
of 2^-256, each function's error below `slack` units (03_bundles.md R114; 08_spin.md R297; logs 11, 12).
-/
namespace Sys2Proof.Machine

/-- A bound on the error of the functions below, in units of 2^-256. -/
abbrev slack : Int := 2 ^ 48

/-- Terms z^(2i+1) / (2i+1) of the series of artanh z; `power` is z^(2i+1) and `sq` is z^2. -/
def artanhSeries (sq : Nat) : (fuel i power acc : Nat) → Nat
  | 0, _, _, acc => acc
  | fuel + 1, i, power, acc => artanhSeries sq fuel (i + 1) (power * sq / 2 ^ 256) (acc + power / (2 * i + 1))

/-- ln (m × 2^e), for m above 0: with m = f × 2^k and 1 ≤ f < 2, it is (k + e) ln 2 + 2 artanh ((f - 1) / (f + 1)). -/
def lnFixed (m : Nat) (e : Int) : Int :=
  let k := Nat.log2 m
  let f := m * 2 ^ 256 / 2 ^ k
  let z := (f - 2 ^ 256) * 2 ^ 256 / (f + 2 ^ 256)
  ((k : Int) + e) * ln2Fixed + 2 * artanhSeries (z * z / 2 ^ 256) 90 0 z 0

/-- e^x for x of at most 0: with x = k ln 2 + r and 0 ≤ r < ln 2, it is e^r × 2^k. -/
def expFixed (x : Int) : Nat :=
  let k := x / (ln2Fixed : Int)
  expSeries (x - k * ln2Fixed).toNat 60 0 (2 ^ 256) (2 ^ 256) >>> (-k).toNat

/-- pi in units of 2^-256. -/
def piFixed : Nat := 363771576891766324280234942777729862653393377328392429958772151117938894466185

/-- An alternating series whose next term is the last times `sq` over i (i + 1), the divisors growing by 2. -/
def wave (sq : Nat) : (fuel i : Nat) → (term acc : Int) → Int
  | 0, _, _, acc => acc
  | fuel + 1, i, term, acc =>
    let t := -(term * sq / 2 ^ 256 / (i * (i + 1) : Nat))
    wave sq fuel (i + 2) t (acc + t)

/-- cos (2 pi n / 2^b): by quadrant, the cosine or the sine of an angle below pi / 2. -/
def cosTurn (n b : Nat) : Int :=
  let q := 4 * n / 2 ^ b % 4
  let a := 4 * n % 2 ^ b * piFixed / 2 ^ (b + 1)
  let sq := a * a / 2 ^ 256
  let c := wave sq 40 1 (2 ^ 256) (2 ^ 256)
  let s := wave sq 40 2 a a
  match q with
  | 0 => c
  | 1 => -s
  | 2 => -c
  | _ => s

/-- One of the FP32 values within 1 ulp of a number in units of 2^-256; `n` picks. -/
def nearFixed (x : Int) (n : Nat) : Word := nearUlp (decide (x < 0)) x.natAbs (-256) (x != 0) n

/-- One of the FP32 values within 1 ulp of the square root of a number in units of 2^-256. -/
def nearRoot (x : Nat) (n : Nat) : Word :=
  match FV.sqrt (.fin false x (-256)) with
  | .fin _ m e => nearUlp false m e (m != 0) n
  | y => y.word

/-- A finite FP32 value divided by a positive one. -/
def quotFixed : FV → FV → Option Int
  | .fin nx mx ex, .fin _ my ey =>
    if my = 0 then none
    else
      let q : Int := (mx <<< (256 + ex - ey).toNat / my : Nat)
      some (if nx then -q else q)
  | _, _ => none

end Sys2Proof.Machine
end

