-- ==== Sys2Proof/Machine/SpinRom.lean ====
section
/-!
DEFINITION. The ROM of Spin: jump polynomials J_0 to J_22 (08_spin.md R288, R289) and the table of the inverse normal
distribution (R298). Both follow from their definitions there.
-/
namespace Sys2Proof.Machine

/-- J_0 to J_22: the words J[0] to J[3] of a polynomial are bits 63:0 to 255:192. -/
def jumpRom : List Nat :=
  [0x39ABDC4529B1661CA9582618E03FC9AAD5A61266F0C9392C180EC6D33CFD0ABA,
   0xA23E49EE6F1A7A8DA5A28CCCB37DBA5BCCFC8CA2814DE79E8CFE9BD9AB71D992,
   0xD4E9921BCCB8090BCA8A45310219DC675E38F4FBB6FCDA721B2A94A672A48C05,
   0xEE658F69DEB5DF26FA0587A90F71743834CD4CC8228D74ACF30974A2B1DBBB71,
   0xD7AAAF48AA459C582573E3218D8BB7DAD2C0D8E0C8A2FB9BB42BD4670583B289,
   0x8FD437C01ABEAB24D82BE75B83DBC2D0CC7EFDCFED1AC303F6A5AB84EFB67883,
   0x7D16742ECEB4D5ABB0B87A330B854C8AEDC8B8D02A22310BC85EE5171484F5A4,
   0x6533981804B420EA13C97C0891CAB48A4157DC48443E35654298BA0E862A6007,
   0xA1EE335D14807AE0613B2ED9F0ACC107EDC28C89CB341660EE5F5A6F02DFE47C,
   0x799D469B2145A8A30531513E8E0AC7064B26F71C1FB1B47B5EC3050C6B43565A,
   0x6007BB31EC5A2964B6ACD7BE4906B73D7123F2290A1F413B34F0A6799020283E,
   0xEC907801890A47AB7E42D6F54484049954FE6DF4CFF0DB73AA0711C54877FEBD] ++
  [0x964E9D188C16508ED8C4367E574AB1603EC263F5C999196E03833E601D82A673,
   0x24D9BA21277DD8D815AC212F3B861B5AF524FD4408357A5CD64F3F2AAF8F2171,
   0xF89354CFE1E6B5FB17A7AF3E97D8C402BBE0E2C0C44B2E1CFE9B778D7D1CA2DE,
   0xB89526857566CD94AAD8C318BC459CCEF4873D277CD1AB72695CF225704E767D,
   0xB81875D0F4F6F253962C90A866EA6719C51212C8B1AA27873DCD32F39276A95F,
   0x11495A1B200D4EB8A5A140826C351D071C554E97B2277F47B43CF8E4EAF8E068,
   0x3E53BFA0DB28E11005AF69BF1FB82891FF957B6F55288048417B73B324735D32,
   0x48F6214560239B46D3DA65E82BDD39E2FDB3F4EA18F0A56BB6C7A6004612889C,
   0xDE364EF64A484F59EC60B640D685171DD9DC0929A54FEA75F1267BA0EC3C645E,
   0x2B29C7D3EF18D3B3CB6286958A9AF01AD7F1C5ADE3DE404A2761CBAB38E0F580,
   0x6A3B6A431109E3D199455C744595C01F547DB3576511EDC25A5CE93F67A3CDD6]

/-- T[2049] to T[2112]. -/
def phiRom0 : List Word :=
  [0x3A206C9A, 0x3AA06C9C, 0x3AF0A2EE, 0x3B206CA3, 0x3B4887D4, 0x3B70A309, 0x3B8C5F22, 0x3BA06CC3, 0x3BB47A68,
   0x3BC88811, 0x3BDC95C0, 0x3BF0A373, 0x3C025896, 0x3C0C5F76, 0x3C16665A, 0x3C206D41, 0x3C2A742C, 0x3C347B1B,
   0x3C3E820F, 0x3C488907, 0x3C529005, 0x3C5C9707, 0x3C669E0F, 0x3C70A51D, 0x3C7AAC30, 0x3C8259A5, 0x3C875D35,
   0x3C8C60C8, 0x3C91645F, 0x3C9667F9, 0x3C9B6B97, 0x3CA06F39, 0x3CA572DF, 0x3CAA7689, 0x3CAF7A37, 0x3CB47DE9,
   0x3CB981A0, 0x3CBE855B, 0x3CC3891B, 0x3CC88CE0, 0x3CCD90AA, 0x3CD29479, 0x3CD7984C, 0x3CDC9C26, 0x3CE1A004,
   0x3CE6A3E9, 0x3CEBA7D2, 0x3CF0ABC2, 0x3CF5AFB8, 0x3CFAB3B3, 0x3CFFB7B5, 0x3D025DDF, 0x3D04DFE6, 0x3D0761F0,
   0x3D09E3FE, 0x3D0C660F, 0x3D0EE824, 0x3D116A3C, 0x3D13EC58, 0x3D166E77, 0x3D18F09A, 0x3D1B72C1, 0x3D1DF4EC,
   0x3D20771A]
/-- T[2113] to T[2176]. -/
def phiRom1 : List Word :=
  [0x3D22F94D, 0x3D257B83, 0x3D27FDBE, 0x3D2A7FFD, 0x3D2D023F, 0x3D2F8487, 0x3D3206D2, 0x3D348922, 0x3D370B76,
   0x3D398DCF, 0x3D3C102C, 0x3D3E928E, 0x3D4114F5, 0x3D439760, 0x3D4619D0, 0x3D489C46, 0x3D4B1EC0, 0x3D4DA13F,
   0x3D5023C3, 0x3D52A64C, 0x3D5528DA, 0x3D57AB6E, 0x3D5A2E07, 0x3D5CB0A5, 0x3D5F3349, 0x3D61B5F2, 0x3D6438A1,
   0x3D66BB55, 0x3D693E0F, 0x3D6BC0CF, 0x3D6E4395, 0x3D70C660, 0x3D734932, 0x3D75CC09, 0x3D784EE7, 0x3D7AD1CA,
   0x3D7D54B4, 0x3D7FD7A4, 0x3D812D4D, 0x3D826ECB, 0x3D83B04D, 0x3D84F1D2, 0x3D86335A, 0x3D8774E5, 0x3D88B674,
   0x3D89F806, 0x3D8B399C, 0x3D8C7B35, 0x3D8DBCD1, 0x3D8EFE71, 0x3D904014, 0x3D9181BB, 0x3D92C366, 0x3D940514,
   0x3D9546C6, 0x3D96887B, 0x3D97CA35, 0x3D990BF2, 0x3D9A4DB2, 0x3D9B8F77, 0x3D9CD13F, 0x3D9E130C, 0x3D9F54DC,
   0x3DA096B0]
/-- T[2177] to T[2240]. -/
def phiRom2 : List Word :=
  [0x3DA1D888, 0x3DA31A64, 0x3DA45C44, 0x3DA59E28, 0x3DA6E011, 0x3DA821FD, 0x3DA963EE, 0x3DAAA5E2, 0x3DABE7DB,
   0x3DAD29D8, 0x3DAE6BDA, 0x3DAFADE0, 0x3DB0EFEA, 0x3DB231F8, 0x3DB3740B, 0x3DB4B622, 0x3DB5F83E, 0x3DB73A5F,
   0x3DB87C83, 0x3DB9BEAD, 0x3DBB00DB, 0x3DBC430E, 0x3DBD8545, 0x3DBEC781, 0x3DC009C2, 0x3DC14C07, 0x3DC28E51,
   0x3DC3D0A0, 0x3DC512F4, 0x3DC6554D, 0x3DC797AB, 0x3DC8DA0D, 0x3DCA1C75, 0x3DCB5EE2, 0x3DCCA153, 0x3DCDE3CA,
   0x3DCF2646, 0x3DD068C7, 0x3DD1AB4D, 0x3DD2EDD9, 0x3DD43069, 0x3DD572FF, 0x3DD6B59A, 0x3DD7F83B, 0x3DD93AE1,
   0x3DDA7D8C, 0x3DDBC03D, 0x3DDD02F3, 0x3DDE45AE, 0x3DDF886F, 0x3DE0CB36, 0x3DE20E02, 0x3DE350D4, 0x3DE493AC,
   0x3DE5D689, 0x3DE7196C, 0x3DE85C55, 0x3DE99F43, 0x3DEAE237, 0x3DEC2532, 0x3DED6832, 0x3DEEAB37, 0x3DEFEE43,
   0x3DF13155]
/-- T[2241] to T[2304]. -/
def phiRom3 : List Word :=
  [0x3DF2746D, 0x3DF3B78B, 0x3DF4FAAF, 0x3DF63DD9, 0x3DF78109, 0x3DF8C43F, 0x3DFA077B, 0x3DFB4ABE, 0x3DFC8E07,
   0x3DFDD156, 0x3DFF14AC, 0x3E002C04, 0x3E00CDB5, 0x3E016F6A, 0x3E021121, 0x3E02B2DC, 0x3E03549A, 0x3E03F65B,
   0x3E049820, 0x3E0539E8, 0x3E05DBB3, 0x3E067D82, 0x3E071F54, 0x3E07C12A, 0x3E086302, 0x3E0904DF, 0x3E09A6BE,
   0x3E0A48A1, 0x3E0AEA88, 0x3E0B8C72, 0x3E0C2E5F, 0x3E0CD050, 0x3E0D7245, 0x3E0E143D, 0x3E0EB638, 0x3E0F5838,
   0x3E0FFA3A, 0x3E109C41, 0x3E113E4B, 0x3E11E058, 0x3E12826A, 0x3E13247E, 0x3E13C697, 0x3E1468B3, 0x3E150AD3,
   0x3E15ACF7, 0x3E164F1F, 0x3E16F14A, 0x3E179379, 0x3E1835AC, 0x3E18D7E3, 0x3E197A1D, 0x3E1A1C5C, 0x3E1ABE9E,
   0x3E1B60E4, 0x3E1C032E, 0x3E1CA57C, 0x3E1D47CE, 0x3E1DEA24, 0x3E1E8C7E, 0x3E1F2EDC, 0x3E1FD13E, 0x3E2073A3,
   0x3E21160D]
/-- T[2305] to T[2368]. -/
def phiRom4 : List Word :=
  [0x3E21B87B, 0x3E225AED, 0x3E22FD63, 0x3E239FDE, 0x3E24425C, 0x3E24E4DE, 0x3E258765, 0x3E2629F0, 0x3E26CC7F,
   0x3E276F12, 0x3E2811A9, 0x3E28B445, 0x3E2956E5, 0x3E29F989, 0x3E2A9C31, 0x3E2B3EDE, 0x3E2BE18F, 0x3E2C8445,
   0x3E2D26FE, 0x3E2DC9BC, 0x3E2E6C7F, 0x3E2F0F46, 0x3E2FB211, 0x3E3054E1, 0x3E30F7B5, 0x3E319A8E, 0x3E323D6B,
   0x3E32E04D, 0x3E338333, 0x3E34261E, 0x3E34C90D, 0x3E356C01, 0x3E360EFA, 0x3E36B1F7, 0x3E3754F9, 0x3E37F7FF,
   0x3E389B0A, 0x3E393E1A, 0x3E39E12F, 0x3E3A8448, 0x3E3B2766, 0x3E3BCA88, 0x3E3C6DB0, 0x3E3D10DC, 0x3E3DB40D,
   0x3E3E5743, 0x3E3EFA7E, 0x3E3F9DBD, 0x3E404101, 0x3E40E44B, 0x3E418799, 0x3E422AEC, 0x3E42CE44, 0x3E4371A1,
   0x3E441503, 0x3E44B86A, 0x3E455BD6, 0x3E45FF47, 0x3E46A2BD, 0x3E474638, 0x3E47E9B8, 0x3E488D3E, 0x3E4930C8,
   0x3E49D458]
/-- T[2369] to T[2432]. -/
def phiRom5 : List Word :=
  [0x3E4A77EC, 0x3E4B1B86, 0x3E4BBF25, 0x3E4C62C9, 0x3E4D0673, 0x3E4DAA22, 0x3E4E4DD6, 0x3E4EF18F, 0x3E4F954D,
   0x3E503911, 0x3E50DCDA, 0x3E5180A9, 0x3E52247D, 0x3E52C856, 0x3E536C35, 0x3E541019, 0x3E54B402, 0x3E5557F1,
   0x3E55FBE6, 0x3E569FDF, 0x3E5743DF, 0x3E57E7E4, 0x3E588BEE, 0x3E592FFE, 0x3E59D414, 0x3E5A782F, 0x3E5B1C50,
   0x3E5BC076, 0x3E5C64A2, 0x3E5D08D4, 0x3E5DAD0B, 0x3E5E5149, 0x3E5EF58B, 0x3E5F99D4, 0x3E603E22, 0x3E60E276,
   0x3E6186D0, 0x3E622B30, 0x3E62CF96, 0x3E637401, 0x3E641872, 0x3E64BCE9, 0x3E656167, 0x3E6605E9, 0x3E66AA72,
   0x3E674F01, 0x3E67F396, 0x3E689831, 0x3E693CD2, 0x3E69E179, 0x3E6A8626, 0x3E6B2AD8, 0x3E6BCF92, 0x3E6C7451,
   0x3E6D1916, 0x3E6DBDE1, 0x3E6E62B3, 0x3E6F078B, 0x3E6FAC69, 0x3E70514D, 0x3E70F637, 0x3E719B28, 0x3E72401F,
   0x3E72E51C]
/-- T[2433] to T[2496]. -/
def phiRom6 : List Word :=
  [0x3E738A20, 0x3E742F29, 0x3E74D43A, 0x3E757950, 0x3E761E6D, 0x3E76C390, 0x3E7768BA, 0x3E780DEA, 0x3E78B321,
   0x3E79585E, 0x3E79FDA2, 0x3E7AA2EC, 0x3E7B483D, 0x3E7BED94, 0x3E7C92F2, 0x3E7D3856, 0x3E7DDDC1, 0x3E7E8332,
   0x3E7F28AB, 0x3E7FCE2A, 0x3E8039D8, 0x3E808C9E, 0x3E80DF67, 0x3E813234, 0x3E818504, 0x3E81D7D8, 0x3E822AAF,
   0x3E827D89, 0x3E82D067, 0x3E832349, 0x3E83762D, 0x3E83C916, 0x3E841C01, 0x3E846EF0, 0x3E84C1E3, 0x3E8514D9,
   0x3E8567D2, 0x3E85BAD0, 0x3E860DD0, 0x3E8660D4, 0x3E86B3DC, 0x3E8706E7, 0x3E8759F6, 0x3E87AD08, 0x3E88001E,
   0x3E885337, 0x3E88A654, 0x3E88F975, 0x3E894C99, 0x3E899FC1, 0x3E89F2ED, 0x3E8A461C, 0x3E8A994F, 0x3E8AEC85,
   0x3E8B3FBF, 0x3E8B92FD, 0x3E8BE63E, 0x3E8C3984, 0x3E8C8CCC, 0x3E8CE019, 0x3E8D3369, 0x3E8D86BE, 0x3E8DDA15,
   0x3E8E2D71]
/-- T[2497] to T[2560]. -/
def phiRom7 : List Word :=
  [0x3E8E80D0, 0x3E8ED433, 0x3E8F279A, 0x3E8F7B05, 0x3E8FCE74, 0x3E9021E6, 0x3E90755C, 0x3E90C8D6, 0x3E911C54,
   0x3E916FD6, 0x3E91C35C, 0x3E9216E5, 0x3E926A72, 0x3E92BE04, 0x3E931199, 0x3E936532, 0x3E93B8CF, 0x3E940C70,
   0x3E946015, 0x3E94B3BE, 0x3E95076B, 0x3E955B1C, 0x3E95AED0, 0x3E960289, 0x3E965646, 0x3E96AA07, 0x3E96FDCC,
   0x3E975195, 0x3E97A562, 0x3E97F933, 0x3E984D08, 0x3E98A0E1, 0x3E98F4BE, 0x3E9948A0, 0x3E999C85, 0x3E99F06F,
   0x3E9A445D, 0x3E9A984F, 0x3E9AEC45, 0x3E9B403F, 0x3E9B943E, 0x3E9BE840, 0x3E9C3C47, 0x3E9C9052, 0x3E9CE461,
   0x3E9D3875, 0x3E9D8C8D, 0x3E9DE0A9, 0x3E9E34C9, 0x3E9E88ED, 0x3E9EDD16, 0x3E9F3143, 0x3E9F8575, 0x3E9FD9AA,
   0x3EA02DE4, 0x3EA08223, 0x3EA0D665, 0x3EA12AAC, 0x3EA17EF8, 0x3EA1D348, 0x3EA2279C, 0x3EA27BF4, 0x3EA2D051,
   0x3EA324B3]
/-- T[2561] to T[2624]. -/
def phiRom8 : List Word :=
  [0x3EA37919, 0x3EA3CD83, 0x3EA421F2, 0x3EA47665, 0x3EA4CADD, 0x3EA51F59, 0x3EA573DA, 0x3EA5C85F, 0x3EA61CE9,
   0x3EA67177, 0x3EA6C60A, 0x3EA71AA1, 0x3EA76F3D, 0x3EA7C3DD, 0x3EA81882, 0x3EA86D2C, 0x3EA8C1DA, 0x3EA9168D,
   0x3EA96B45, 0x3EA9C001, 0x3EAA14C1, 0x3EAA6987, 0x3EAABE51, 0x3EAB1320, 0x3EAB67F3, 0x3EABBCCC, 0x3EAC11A8,
   0x3EAC668A, 0x3EACBB71, 0x3EAD105C, 0x3EAD654C, 0x3EADBA40, 0x3EAE0F3A, 0x3EAE6438, 0x3EAEB93B, 0x3EAF0E43,
   0x3EAF6350, 0x3EAFB861, 0x3EB00D78, 0x3EB06293, 0x3EB0B7B3, 0x3EB10CD8, 0x3EB16202, 0x3EB1B731, 0x3EB20C64,
   0x3EB2619D, 0x3EB2B6DB, 0x3EB30C1D, 0x3EB36165, 0x3EB3B6B1, 0x3EB40C03, 0x3EB46159, 0x3EB4B6B5, 0x3EB50C16,
   0x3EB5617B, 0x3EB5B6E6, 0x3EB60C55, 0x3EB661CA, 0x3EB6B744, 0x3EB70CC3, 0x3EB76247, 0x3EB7B7D0, 0x3EB80D5F,
   0x3EB862F2]
/-- T[2625] to T[2688]. -/
def phiRom9 : List Word :=
  [0x3EB8B88B, 0x3EB90E28, 0x3EB963CB, 0x3EB9B973, 0x3EBA0F21, 0x3EBA64D3, 0x3EBABA8B, 0x3EBB1048, 0x3EBB660A,
   0x3EBBBBD2, 0x3EBC119E, 0x3EBC6770, 0x3EBCBD48, 0x3EBD1324, 0x3EBD6906, 0x3EBDBEEE, 0x3EBE14DA, 0x3EBE6ACC,
   0x3EBEC0C4, 0x3EBF16C0, 0x3EBF6CC2, 0x3EBFC2CA, 0x3EC018D7, 0x3EC06EE9, 0x3EC0C501, 0x3EC11B1E, 0x3EC17141,
   0x3EC1C769, 0x3EC21D97, 0x3EC273CA, 0x3EC2CA03, 0x3EC32041, 0x3EC37685, 0x3EC3CCCE, 0x3EC4231D, 0x3EC47971,
   0x3EC4CFCC, 0x3EC5262B, 0x3EC57C90, 0x3EC5D2FB, 0x3EC6296C, 0x3EC67FE2, 0x3EC6D65E, 0x3EC72CDF, 0x3EC78366,
   0x3EC7D9F3, 0x3EC83086, 0x3EC8871E, 0x3EC8DDBC, 0x3EC93460, 0x3EC98B0A, 0x3EC9E1B9, 0x3ECA386E, 0x3ECA8F29,
   0x3ECAE5EA, 0x3ECB3CB1, 0x3ECB937D, 0x3ECBEA4F, 0x3ECC4127, 0x3ECC9805, 0x3ECCEEE9, 0x3ECD45D3, 0x3ECD9CC3,
   0x3ECDF3B8]
/-- T[2689] to T[2752]. -/
def phiRom10 : List Word :=
  [0x3ECE4AB4, 0x3ECEA1B6, 0x3ECEF8BD, 0x3ECF4FCB, 0x3ECFA6DE, 0x3ECFFDF8, 0x3ED05517, 0x3ED0AC3D, 0x3ED10368,
   0x3ED15A9A, 0x3ED1B1D2, 0x3ED20910, 0x3ED26054, 0x3ED2B79E, 0x3ED30EEE, 0x3ED36644, 0x3ED3BDA1, 0x3ED41503,
   0x3ED46C6C, 0x3ED4C3DB, 0x3ED51B50, 0x3ED572CC, 0x3ED5CA4D, 0x3ED621D5, 0x3ED67963, 0x3ED6D0F8, 0x3ED72892,
   0x3ED78034, 0x3ED7D7DB, 0x3ED82F89, 0x3ED8873D, 0x3ED8DEF7, 0x3ED936B8, 0x3ED98E7F, 0x3ED9E64C, 0x3EDA3E20,
   0x3EDA95FB, 0x3EDAEDDB, 0x3EDB45C3, 0x3EDB9DB0, 0x3EDBF5A4, 0x3EDC4D9F, 0x3EDCA5A0, 0x3EDCFDA8, 0x3EDD55B6,
   0x3EDDADCB, 0x3EDE05E6, 0x3EDE5E08, 0x3EDEB631, 0x3EDF0E60, 0x3EDF6696, 0x3EDFBED2, 0x3EE01715, 0x3EE06F5F,
   0x3EE0C7AF, 0x3EE12006, 0x3EE17864, 0x3EE1D0C8, 0x3EE22934, 0x3EE281A6, 0x3EE2DA1E, 0x3EE3329E, 0x3EE38B24,
   0x3EE3E3B1]
/-- T[2753] to T[2816]. -/
def phiRom11 : List Word :=
  [0x3EE43C45, 0x3EE494E0, 0x3EE4ED81, 0x3EE5462A, 0x3EE59ED9, 0x3EE5F78F, 0x3EE6504C, 0x3EE6A910, 0x3EE701DB,
   0x3EE75AAD, 0x3EE7B386, 0x3EE80C66, 0x3EE8654D, 0x3EE8BE3B, 0x3EE91730, 0x3EE9702C, 0x3EE9C92F, 0x3EEA2239,
   0x3EEA7B4A, 0x3EEAD462, 0x3EEB2D81, 0x3EEB86A8, 0x3EEBDFD5, 0x3EEC390A, 0x3EEC9246, 0x3EECEB89, 0x3EED44D4,
   0x3EED9E25, 0x3EEDF77E, 0x3EEE50DE, 0x3EEEAA45, 0x3EEF03B4, 0x3EEF5D2A, 0x3EEFB6A7, 0x3EF0102B, 0x3EF069B7,
   0x3EF0C34A, 0x3EF11CE5, 0x3EF17687, 0x3EF1D030, 0x3EF229E1, 0x3EF28399, 0x3EF2DD59, 0x3EF33720, 0x3EF390EF,
   0x3EF3EAC5, 0x3EF444A3, 0x3EF49E88, 0x3EF4F874, 0x3EF55269, 0x3EF5AC64, 0x3EF60668, 0x3EF66073, 0x3EF6BA86,
   0x3EF714A0, 0x3EF76EC2, 0x3EF7C8EB, 0x3EF8231D, 0x3EF87D56, 0x3EF8D796, 0x3EF931DF, 0x3EF98C2F, 0x3EF9E687,
   0x3EFA40E7]
/-- T[2817] to T[2880]. -/
def phiRom12 : List Word :=
  [0x3EFA9B4E, 0x3EFAF5BE, 0x3EFB5035, 0x3EFBAAB4, 0x3EFC053B, 0x3EFC5FCA, 0x3EFCBA60, 0x3EFD14FF, 0x3EFD6FA6,
   0x3EFDCA54, 0x3EFE250B, 0x3EFE7FC9, 0x3EFEDA8F, 0x3EFF355E, 0x3EFF9034, 0x3EFFEB13, 0x3F0022FD, 0x3F005074,
   0x3F007DEF, 0x3F00AB6F, 0x3F00D8F2, 0x3F01067A, 0x3F013406, 0x3F016195, 0x3F018F29, 0x3F01BCC1, 0x3F01EA5D,
   0x3F0217FD, 0x3F0245A2, 0x3F02734A, 0x3F02A0F7, 0x3F02CEA8, 0x3F02FC5D, 0x3F032A16, 0x3F0357D3, 0x3F038595,
   0x3F03B35A, 0x3F03E124, 0x3F040EF2, 0x3F043CC5, 0x3F046A9B, 0x3F049876, 0x3F04C655, 0x3F04F439, 0x3F052220,
   0x3F05500C, 0x3F057DFD, 0x3F05ABF1, 0x3F05D9EA, 0x3F0607E7, 0x3F0635E9, 0x3F0663EE, 0x3F0691F9, 0x3F06C007,
   0x3F06EE1A, 0x3F071C31, 0x3F074A4D, 0x3F07786D, 0x3F07A691, 0x3F07D4BA, 0x3F0802E7, 0x3F083119, 0x3F085F4F,
   0x3F088D8A]
/-- T[2881] to T[2944]. -/
def phiRom13 : List Word :=
  [0x3F08BBC9, 0x3F08EA0C, 0x3F091854, 0x3F0946A1, 0x3F0974F2, 0x3F09A347, 0x3F09D1A1, 0x3F0A0000, 0x3F0A2E62,
   0x3F0A5CCA, 0x3F0A8B36, 0x3F0AB9A7, 0x3F0AE81C, 0x3F0B1696, 0x3F0B4514, 0x3F0B7397, 0x3F0BA21F, 0x3F0BD0AB,
   0x3F0BFF3C, 0x3F0C2DD1, 0x3F0C5C6B, 0x3F0C8B0A, 0x3F0CB9AD, 0x3F0CE855, 0x3F0D1702, 0x3F0D45B3, 0x3F0D746A,
   0x3F0DA324, 0x3F0DD1E4, 0x3F0E00A8, 0x3F0E2F71, 0x3F0E5E3F, 0x3F0E8D12, 0x3F0EBBE9, 0x3F0EEAC5, 0x3F0F19A6,
   0x3F0F488C, 0x3F0F7776, 0x3F0FA666, 0x3F0FD55A, 0x3F100453, 0x3F103351, 0x3F106253, 0x3F10915B, 0x3F10C067,
   0x3F10EF79, 0x3F111E8F, 0x3F114DAA, 0x3F117CCA, 0x3F11ABEF, 0x3F11DB19, 0x3F120A48, 0x3F12397C, 0x3F1268B5,
   0x3F1297F3, 0x3F12C736, 0x3F12F67D, 0x3F1325CA, 0x3F13551C, 0x3F138473, 0x3F13B3CF, 0x3F13E330, 0x3F141296,
   0x3F144201]
/-- T[2945] to T[3008]. -/
def phiRom14 : List Word :=
  [0x3F147172, 0x3F14A0E7, 0x3F14D061, 0x3F14FFE1, 0x3F152F66, 0x3F155EF0, 0x3F158E7F, 0x3F15BE13, 0x3F15EDAC,
   0x3F161D4B, 0x3F164CEE, 0x3F167C97, 0x3F16AC46, 0x3F16DBF9, 0x3F170BB2, 0x3F173B6F, 0x3F176B33, 0x3F179AFB,
   0x3F17CAC9, 0x3F17FA9C, 0x3F182A74, 0x3F185A52, 0x3F188A34, 0x3F18BA1D, 0x3F18EA0A, 0x3F1919FD, 0x3F1949F6,
   0x3F1979F4, 0x3F19A9F7, 0x3F19D9FF, 0x3F1A0A0D, 0x3F1A3A21, 0x3F1A6A39, 0x3F1A9A58, 0x3F1ACA7C, 0x3F1AFAA5,
   0x3F1B2AD3, 0x3F1B5B08, 0x3F1B8B41, 0x3F1BBB81, 0x3F1BEBC6, 0x3F1C1C10, 0x3F1C4C60, 0x3F1C7CB5, 0x3F1CAD10,
   0x3F1CDD71, 0x3F1D0DD7, 0x3F1D3E43, 0x3F1D6EB4, 0x3F1D9F2C, 0x3F1DCFA8, 0x3F1E002B, 0x3F1E30B3, 0x3F1E6141,
   0x3F1E91D4, 0x3F1EC26E, 0x3F1EF30C, 0x3F1F23B1, 0x3F1F545C, 0x3F1F850C, 0x3F1FB5C2, 0x3F1FE67D, 0x3F20173F,
   0x3F204806]
/-- T[3009] to T[3072]. -/
def phiRom15 : List Word :=
  [0x3F2078D4, 0x3F20A9A7, 0x3F20DA7F, 0x3F210B5E, 0x3F213C43, 0x3F216D2D, 0x3F219E1E, 0x3F21CF14, 0x3F220010,
   0x3F223112, 0x3F22621A, 0x3F229328, 0x3F22C43C, 0x3F22F556, 0x3F232676, 0x3F23579C, 0x3F2388C8, 0x3F23B9FA,
   0x3F23EB33, 0x3F241C71, 0x3F244DB5, 0x3F247EFF, 0x3F24B050, 0x3F24E1A6, 0x3F251303, 0x3F254466, 0x3F2575CF,
   0x3F25A73E, 0x3F25D8B3, 0x3F260A2F, 0x3F263BB0, 0x3F266D38, 0x3F269EC7, 0x3F26D05B, 0x3F2701F6, 0x3F273397,
   0x3F27653E, 0x3F2796EB, 0x3F27C89F, 0x3F27FA59, 0x3F282C1A, 0x3F285DE1, 0x3F288FAE, 0x3F28C182, 0x3F28F35C,
   0x3F29253C, 0x3F295723, 0x3F298910, 0x3F29BB04, 0x3F29ECFE, 0x3F2A1EFF, 0x3F2A5106, 0x3F2A8314, 0x3F2AB528,
   0x3F2AE743, 0x3F2B1964, 0x3F2B4B8C, 0x3F2B7DBB, 0x3F2BAFF0, 0x3F2BE22B, 0x3F2C146E, 0x3F2C46B6, 0x3F2C7906,
   0x3F2CAB5C]
/-- T[3073] to T[3136]. -/
def phiRom16 : List Word :=
  [0x3F2CDDB9, 0x3F2D101D, 0x3F2D4287, 0x3F2D74F8, 0x3F2DA770, 0x3F2DD9EE, 0x3F2E0C74, 0x3F2E3F00, 0x3F2E7193,
   0x3F2EA42C, 0x3F2ED6CD, 0x3F2F0974, 0x3F2F3C22, 0x3F2F6ED7, 0x3F2FA193, 0x3F2FD456, 0x3F300720, 0x3F3039F1,
   0x3F306CC8, 0x3F309FA7, 0x3F30D28D, 0x3F310579, 0x3F31386D, 0x3F316B67, 0x3F319E69, 0x3F31D172, 0x3F320481,
   0x3F323798, 0x3F326AB6, 0x3F329DDB, 0x3F32D108, 0x3F33043B, 0x3F333776, 0x3F336AB7, 0x3F339E00, 0x3F33D150,
   0x3F3404A8, 0x3F343806, 0x3F346B6C, 0x3F349ED9, 0x3F34D24E, 0x3F3505C9, 0x3F35394D, 0x3F356CD7, 0x3F35A069,
   0x3F35D402, 0x3F3607A2, 0x3F363B4A, 0x3F366EFA, 0x3F36A2B0, 0x3F36D66F, 0x3F370A34, 0x3F373E02, 0x3F3771D6,
   0x3F37A5B3, 0x3F37D996, 0x3F380D82, 0x3F384175, 0x3F38756F, 0x3F38A971, 0x3F38DD7B, 0x3F39118D, 0x3F3945A6,
   0x3F3979C6]
/-- T[3137] to T[3200]. -/
def phiRom17 : List Word :=
  [0x3F39ADEF, 0x3F39E21F, 0x3F3A1657, 0x3F3A4A96, 0x3F3A7EDE, 0x3F3AB32D, 0x3F3AE784, 0x3F3B1BE3, 0x3F3B5049,
   0x3F3B84B8, 0x3F3BB92E, 0x3F3BEDAC, 0x3F3C2232, 0x3F3C56C1, 0x3F3C8B57, 0x3F3CBFF4, 0x3F3CF49A, 0x3F3D2948,
   0x3F3D5DFE, 0x3F3D92BC, 0x3F3DC782, 0x3F3DFC50, 0x3F3E3127, 0x3F3E6605, 0x3F3E9AEB, 0x3F3ECFDA, 0x3F3F04D1,
   0x3F3F39D0, 0x3F3F6ED7, 0x3F3FA3E6, 0x3F3FD8FE, 0x3F400E1D, 0x3F404346, 0x3F407876, 0x3F40ADAF, 0x3F40E2F0,
   0x3F411839, 0x3F414D8B, 0x3F4182E5, 0x3F41B848, 0x3F41EDB3, 0x3F422326, 0x3F4258A2, 0x3F428E26, 0x3F42C3B3,
   0x3F42F949, 0x3F432EE7, 0x3F43648D, 0x3F439A3C, 0x3F43CFF4, 0x3F4405B4, 0x3F443B7D, 0x3F44714F, 0x3F44A72A,
   0x3F44DD0D, 0x3F4512F8, 0x3F4548ED, 0x3F457EEA, 0x3F45B4F0, 0x3F45EAFF, 0x3F462117, 0x3F465738, 0x3F468D61,
   0x3F46C394]
/-- T[3201] to T[3264]. -/
def phiRom18 : List Word :=
  [0x3F46F9CF, 0x3F473013, 0x3F476660, 0x3F479CB6, 0x3F47D316, 0x3F48097E, 0x3F483FEF, 0x3F487669, 0x3F48ACED,
   0x3F48E379, 0x3F491A0F, 0x3F4950AD, 0x3F498755, 0x3F49BE07, 0x3F49F4C1, 0x3F4A2B84, 0x3F4A6251, 0x3F4A9927,
   0x3F4AD007, 0x3F4B06EF, 0x3F4B3DE2, 0x3F4B74DD, 0x3F4BABE2, 0x3F4BE2F0, 0x3F4C1A08, 0x3F4C5129, 0x3F4C8853,
   0x3F4CBF88, 0x3F4CF6C5, 0x3F4D2E0C, 0x3F4D655D, 0x3F4D9CB8, 0x3F4DD41C, 0x3F4E0B89, 0x3F4E4301, 0x3F4E7A82,
   0x3F4EB20C, 0x3F4EE9A1, 0x3F4F213F, 0x3F4F58E7, 0x3F4F9099, 0x3F4FC854, 0x3F50001A, 0x3F5037E9, 0x3F506FC2,
   0x3F50A7A6, 0x3F50DF93, 0x3F51178A, 0x3F514F8B, 0x3F518796, 0x3F51BFAB, 0x3F51F7CA, 0x3F522FF4, 0x3F526827,
   0x3F52A065, 0x3F52D8AD, 0x3F5310FF, 0x3F53495B, 0x3F5381C1, 0x3F53BA32, 0x3F53F2AD, 0x3F542B33, 0x3F5463C2,
   0x3F549C5C]
/-- T[3265] to T[3328]. -/
def phiRom19 : List Word :=
  [0x3F54D501, 0x3F550DB0, 0x3F554669, 0x3F557F2D, 0x3F55B7FB, 0x3F55F0D4, 0x3F5629B8, 0x3F5662A6, 0x3F569B9E,
   0x3F56D4A2, 0x3F570DB0, 0x3F5746C8, 0x3F577FEC, 0x3F57B91A, 0x3F57F252, 0x3F582B96, 0x3F5864E5, 0x3F589E3E,
   0x3F58D7A2, 0x3F591111, 0x3F594A8B, 0x3F598410, 0x3F59BDA0, 0x3F59F73B, 0x3F5A30E1, 0x3F5A6A93, 0x3F5AA44F,
   0x3F5ADE16, 0x3F5B17E9, 0x3F5B51C6, 0x3F5B8BAF, 0x3F5BC5A3, 0x3F5BFFA3, 0x3F5C39AE, 0x3F5C73C4, 0x3F5CADE5,
   0x3F5CE812, 0x3F5D224A, 0x3F5D5C8E, 0x3F5D96DD, 0x3F5DD138, 0x3F5E0B9E, 0x3F5E4610, 0x3F5E808D, 0x3F5EBB16,
   0x3F5EF5AB, 0x3F5F304B, 0x3F5F6AF7, 0x3F5FA5AF, 0x3F5FE072, 0x3F601B41, 0x3F60561D, 0x3F609104, 0x3F60CBF7,
   0x3F6106F6, 0x3F614200, 0x3F617D17, 0x3F61B83A, 0x3F61F369, 0x3F622EA4, 0x3F6269EB, 0x3F62A53E, 0x3F62E09E,
   0x3F631C09]
/-- T[3329] to T[3392]. -/
def phiRom20 : List Word :=
  [0x3F635781, 0x3F639306, 0x3F63CE96, 0x3F640A33, 0x3F6445DC, 0x3F648192, 0x3F64BD54, 0x3F64F922, 0x3F6534FD,
   0x3F6570E5, 0x3F65ACD9, 0x3F65E8DA, 0x3F6624E7, 0x3F666101, 0x3F669D28, 0x3F66D95C, 0x3F67159C, 0x3F6751E9,
   0x3F678E43, 0x3F67CAAA, 0x3F68071E, 0x3F68439E, 0x3F68802C, 0x3F68BCC7, 0x3F68F96E, 0x3F693623, 0x3F6972E5,
   0x3F69AFB4, 0x3F69EC91, 0x3F6A297A, 0x3F6A6671, 0x3F6AA375, 0x3F6AE087, 0x3F6B1DA6, 0x3F6B5AD2, 0x3F6B980C,
   0x3F6BD553, 0x3F6C12A7, 0x3F6C500A, 0x3F6C8D7A, 0x3F6CCAF7, 0x3F6D0882, 0x3F6D461B, 0x3F6D83C2, 0x3F6DC176,
   0x3F6DFF39, 0x3F6E3D09, 0x3F6E7AE7, 0x3F6EB8D3, 0x3F6EF6CD, 0x3F6F34D5, 0x3F6F72EB, 0x3F6FB10F, 0x3F6FEF41,
   0x3F702D82, 0x3F706BD0, 0x3F70AA2D, 0x3F70E898, 0x3F712712, 0x3F71659A, 0x3F71A430, 0x3F71E2D5, 0x3F722188,
   0x3F72604A]
/-- T[3393] to T[3456]. -/
def phiRom21 : List Word :=
  [0x3F729F1A, 0x3F72DDF9, 0x3F731CE7, 0x3F735BE4, 0x3F739AEF, 0x3F73DA09, 0x3F741931, 0x3F745869, 0x3F7497AF,
   0x3F74D705, 0x3F751669, 0x3F7555DD, 0x3F759560, 0x3F75D4F1, 0x3F761492, 0x3F765442, 0x3F769402, 0x3F76D3D0,
   0x3F7713AF, 0x3F77539C, 0x3F779399, 0x3F77D3A5, 0x3F7813C1, 0x3F7853ED, 0x3F789428, 0x3F78D472, 0x3F7914CD,
   0x3F795537, 0x3F7995B1, 0x3F79D63B, 0x3F7A16D5, 0x3F7A577E, 0x3F7A9838, 0x3F7AD902, 0x3F7B19DB, 0x3F7B5AC5,
   0x3F7B9BC0, 0x3F7BDCCA, 0x3F7C1DE4, 0x3F7C5F0F, 0x3F7CA04B, 0x3F7CE196, 0x3F7D22F3, 0x3F7D645F, 0x3F7DA5DC,
   0x3F7DE76A, 0x3F7E2909, 0x3F7E6AB8, 0x3F7EAC78, 0x3F7EEE49, 0x3F7F302B, 0x3F7F721D, 0x3F7FB421, 0x3F7FF636,
   0x3F801C2E, 0x3F803D49, 0x3F805E6D, 0x3F807F9A, 0x3F80A0CF, 0x3F80C20D, 0x3F80E353, 0x3F8104A3, 0x3F8125FB,
   0x3F81475C]
/-- T[3457] to T[3520]. -/
def phiRom22 : List Word :=
  [0x3F8168C5, 0x3F818A38, 0x3F81ABB3, 0x3F81CD37, 0x3F81EEC4, 0x3F82105A, 0x3F8231F9, 0x3F8253A1, 0x3F827552,
   0x3F82970D, 0x3F82B8D0, 0x3F82DA9C, 0x3F82FC71, 0x3F831E50, 0x3F834038, 0x3F836229, 0x3F838423, 0x3F83A626,
   0x3F83C833, 0x3F83EA49, 0x3F840C69, 0x3F842E92, 0x3F8450C4, 0x3F847300, 0x3F849545, 0x3F84B794, 0x3F84D9EC,
   0x3F84FC4E, 0x3F851EB9, 0x3F85412E, 0x3F8563AD, 0x3F858636, 0x3F85A8C8, 0x3F85CB64, 0x3F85EE0A, 0x3F8610B9,
   0x3F863373, 0x3F865636, 0x3F867903, 0x3F869BDB, 0x3F86BEBC, 0x3F86E1A7, 0x3F87049C, 0x3F87279C, 0x3F874AA5,
   0x3F876DB9, 0x3F8790D6, 0x3F87B3FE, 0x3F87D731, 0x3F87FA6D, 0x3F881DB4, 0x3F884105, 0x3F886461, 0x3F8887C7,
   0x3F88AB37, 0x3F88CEB2, 0x3F88F238, 0x3F8915C8, 0x3F893962, 0x3F895D08, 0x3F8980B8, 0x3F89A472, 0x3F89C838,
   0x3F89EC08]
/-- T[3521] to T[3584]. -/
def phiRom23 : List Word :=
  [0x3F8A0FE3, 0x3F8A33C8, 0x3F8A57B9, 0x3F8A7BB5, 0x3F8A9FBB, 0x3F8AC3CD, 0x3F8AE7E9, 0x3F8B0C11, 0x3F8B3044,
   0x3F8B5482, 0x3F8B78CB, 0x3F8B9D1F, 0x3F8BC17F, 0x3F8BE5E9, 0x3F8C0A60, 0x3F8C2EE1, 0x3F8C536E, 0x3F8C7807,
   0x3F8C9CAB, 0x3F8CC15A, 0x3F8CE615, 0x3F8D0ADC, 0x3F8D2FAE, 0x3F8D548C, 0x3F8D7976, 0x3F8D9E6B, 0x3F8DC36D,
   0x3F8DE87A, 0x3F8E0D93, 0x3F8E32B8, 0x3F8E57E9, 0x3F8E7D26, 0x3F8EA270, 0x3F8EC7C5, 0x3F8EED26, 0x3F8F1294,
   0x3F8F380E, 0x3F8F5D94, 0x3F8F8327, 0x3F8FA8C6, 0x3F8FCE71, 0x3F8FF429, 0x3F9019ED, 0x3F903FBE, 0x3F90659C,
   0x3F908B86, 0x3F90B17D, 0x3F90D780, 0x3F90FD91, 0x3F9123AE, 0x3F9149D8, 0x3F91700F, 0x3F919653, 0x3F91BCA4,
   0x3F91E302, 0x3F92096D, 0x3F922FE6, 0x3F92566C, 0x3F927CFF, 0x3F92A39F, 0x3F92CA4C, 0x3F92F107, 0x3F9317D0,
   0x3F933EA6]
/-- T[3585] to T[3648]. -/
def phiRom24 : List Word :=
  [0x3F93658A, 0x3F938C7B, 0x3F93B37A, 0x3F93DA86, 0x3F9401A1, 0x3F9428C9, 0x3F944FFF, 0x3F947743, 0x3F949E95,
   0x3F94C5F6, 0x3F94ED64, 0x3F9514E0, 0x3F953C6B, 0x3F956403, 0x3F958BAB, 0x3F95B360, 0x3F95DB24, 0x3F9602F7,
   0x3F962AD8, 0x3F9652C7, 0x3F967AC5, 0x3F96A2D2, 0x3F96CAEE, 0x3F96F318, 0x3F971B52, 0x3F97439A, 0x3F976BF2,
   0x3F979458, 0x3F97BCCE, 0x3F97E552, 0x3F980DE6, 0x3F98368A, 0x3F985F3C, 0x3F9887FE, 0x3F98B0D0, 0x3F98D9B1,
   0x3F9902A2, 0x3F992BA2, 0x3F9954B2, 0x3F997DD2, 0x3F99A702, 0x3F99D042, 0x3F99F991, 0x3F9A22F1, 0x3F9A4C61,
   0x3F9A75E1, 0x3F9A9F72, 0x3F9AC912, 0x3F9AF2C4, 0x3F9B1C85, 0x3F9B4657, 0x3F9B703A, 0x3F9B9A2D, 0x3F9BC431,
   0x3F9BEE46, 0x3F9C186C, 0x3F9C42A3, 0x3F9C6CEB, 0x3F9C9744, 0x3F9CC1AE, 0x3F9CEC29, 0x3F9D16B6, 0x3F9D4154,
   0x3F9D6C03]
/-- T[3649] to T[3712]. -/
def phiRom25 : List Word :=
  [0x3F9D96C4, 0x3F9DC197, 0x3F9DEC7B, 0x3F9E1771, 0x3F9E4279, 0x3F9E6D93, 0x3F9E98BE, 0x3F9EC3FC, 0x3F9EEF4C,
   0x3F9F1AAE, 0x3F9F4623, 0x3F9F71AA, 0x3F9F9D43, 0x3F9FC8EF, 0x3F9FF4AE, 0x3FA0207F, 0x3FA04C63, 0x3FA0785A,
   0x3FA0A464, 0x3FA0D081, 0x3FA0FCB1, 0x3FA128F4, 0x3FA1554B, 0x3FA181B5, 0x3FA1AE33, 0x3FA1DAC4, 0x3FA20768,
   0x3FA23421, 0x3FA260ED, 0x3FA28DCD, 0x3FA2BAC2, 0x3FA2E7CA, 0x3FA314E7, 0x3FA34217, 0x3FA36F5D, 0x3FA39CB6,
   0x3FA3CA25, 0x3FA3F7A8, 0x3FA4253F, 0x3FA452EC, 0x3FA480AD, 0x3FA4AE84, 0x3FA4DC70, 0x3FA50A71, 0x3FA53887,
   0x3FA566B3, 0x3FA594F4, 0x3FA5C34B, 0x3FA5F1B8, 0x3FA6203B, 0x3FA64ED3, 0x3FA67D82, 0x3FA6AC47, 0x3FA6DB22,
   0x3FA70A14, 0x3FA7391C, 0x3FA7683B, 0x3FA79770, 0x3FA7C6BD, 0x3FA7F620, 0x3FA8259A, 0x3FA8552C, 0x3FA884D5,
   0x3FA8B495]
/-- T[3713] to T[3776]. -/
def phiRom26 : List Word :=
  [0x3FA8E46C, 0x3FA9145C, 0x3FA94463, 0x3FA97482, 0x3FA9A4B9, 0x3FA9D508, 0x3FAA0570, 0x3FAA35EF, 0x3FAA6687,
   0x3FAA9738, 0x3FAAC802, 0x3FAAF8E4, 0x3FAB29E0, 0x3FAB5AF4, 0x3FAB8C22, 0x3FABBD69, 0x3FABEECA, 0x3FAC2044,
   0x3FAC51D8, 0x3FAC8386, 0x3FACB54E, 0x3FACE730, 0x3FAD192D, 0x3FAD4B43, 0x3FAD7D75, 0x3FADAFC1, 0x3FADE228,
   0x3FAE14AB, 0x3FAE4748, 0x3FAE7A01, 0x3FAEACD5, 0x3FAEDFC4, 0x3FAF12D0, 0x3FAF45F7, 0x3FAF793A, 0x3FAFAC9A,
   0x3FAFE016, 0x3FB013AE, 0x3FB04764, 0x3FB07B36, 0x3FB0AF24, 0x3FB0E331, 0x3FB1175A, 0x3FB14BA1, 0x3FB18005,
   0x3FB1B488, 0x3FB1E928, 0x3FB21DE7, 0x3FB252C3, 0x3FB287BF, 0x3FB2BCD8, 0x3FB2F211, 0x3FB32769, 0x3FB35CE0,
   0x3FB39276, 0x3FB3C82C, 0x3FB3FE01, 0x3FB433F7, 0x3FB46A0C, 0x3FB4A042, 0x3FB4D699, 0x3FB50D10, 0x3FB543A8,
   0x3FB57A60]
/-- T[3777] to T[3840]. -/
def phiRom27 : List Word :=
  [0x3FB5B13B, 0x3FB5E836, 0x3FB61F53, 0x3FB65692, 0x3FB68DF4, 0x3FB6C577, 0x3FB6FD1D, 0x3FB734E5, 0x3FB76CD1,
   0x3FB7A4DF, 0x3FB7DD11, 0x3FB81566, 0x3FB84DDF, 0x3FB8867D, 0x3FB8BF3E, 0x3FB8F823, 0x3FB9312E, 0x3FB96A5D,
   0x3FB9A3B1, 0x3FB9DD2B, 0x3FBA16CA, 0x3FBA508F, 0x3FBA8A7A, 0x3FBAC48B, 0x3FBAFEC3, 0x3FBB3922, 0x3FBB73A7,
   0x3FBBAE54, 0x3FBBE929, 0x3FBC2425, 0x3FBC5F49, 0x3FBC9A96, 0x3FBCD60B, 0x3FBD11A9, 0x3FBD4D71, 0x3FBD8961,
   0x3FBDC57B, 0x3FBE01C0, 0x3FBE3E2E, 0x3FBE7AC7, 0x3FBEB78B, 0x3FBEF47A, 0x3FBF3194, 0x3FBF6EDA, 0x3FBFAC4C,
   0x3FBFE9EB, 0x3FC027B6, 0x3FC065AD, 0x3FC0A3D2, 0x3FC0E225, 0x3FC120A5, 0x3FC15F54, 0x3FC19E31, 0x3FC1DD3D,
   0x3FC21C78, 0x3FC25BE3, 0x3FC29B7D, 0x3FC2DB48, 0x3FC31B43, 0x3FC35B6F, 0x3FC39BCD, 0x3FC3DC5C, 0x3FC41D1D,
   0x3FC45E10]
/-- T[3841] to T[3904]. -/
def phiRom28 : List Word :=
  [0x3FC49F36, 0x3FC4E08F, 0x3FC5221C, 0x3FC563DC, 0x3FC5A5D1, 0x3FC5E7FA, 0x3FC62A58, 0x3FC66CEC, 0x3FC6AFB6,
   0x3FC6F2B6, 0x3FC735EC, 0x3FC7795A, 0x3FC7BCFF, 0x3FC800DC, 0x3FC844F2, 0x3FC88940, 0x3FC8CDC8, 0x3FC9128A,
   0x3FC95785, 0x3FC99CBC, 0x3FC9E22D, 0x3FCA27DA, 0x3FCA6DC4, 0x3FCAB3E9, 0x3FCAFA4C, 0x3FCB40ED, 0x3FCB87CB,
   0x3FCBCEE9, 0x3FCC1645, 0x3FCC5DE1, 0x3FCCA5BD, 0x3FCCEDDA, 0x3FCD3638, 0x3FCD7ED8, 0x3FCDC7BB, 0x3FCE10E0,
   0x3FCE5A49, 0x3FCEA3F6, 0x3FCEEDE8, 0x3FCF381F, 0x3FCF829C, 0x3FCFCD5F, 0x3FD0186A, 0x3FD063BC, 0x3FD0AF57,
   0x3FD0FB3B, 0x3FD14769, 0x3FD193E1, 0x3FD1E0A4, 0x3FD22DB3, 0x3FD27B0E, 0x3FD2C8B7, 0x3FD316AD, 0x3FD364F3,
   0x3FD3B387, 0x3FD4026C, 0x3FD451A1, 0x3FD4A128, 0x3FD4F102, 0x3FD5412E, 0x3FD591AF, 0x3FD5E285, 0x3FD633B0,
   0x3FD68531]
/-- T[3905] to T[3968]. -/
def phiRom29 : List Word :=
  [0x3FD6D70A, 0x3FD7293C, 0x3FD77BC6, 0x3FD7CEAA, 0x3FD821E9, 0x3FD87584, 0x3FD8C97C, 0x3FD91DD2, 0x3FD97286,
   0x3FD9C79A, 0x3FDA1D0E, 0x3FDA72E4, 0x3FDAC91D, 0x3FDB1FB9, 0x3FDB76BA, 0x3FDBCE22, 0x3FDC25F0, 0x3FDC7E26,
   0x3FDCD6C5, 0x3FDD2FCF, 0x3FDD8944, 0x3FDDE326, 0x3FDE3D76, 0x3FDE9835, 0x3FDEF364, 0x3FDF4F05, 0x3FDFAB1A,
   0x3FE007A2, 0x3FE064A0, 0x3FE0C215, 0x3FE12003, 0x3FE17E6A, 0x3FE1DD4D, 0x3FE23CAD, 0x3FE29C8A, 0x3FE2FCE8,
   0x3FE35DC7, 0x3FE3BF29, 0x3FE4210F, 0x3FE4837B, 0x3FE4E66F, 0x3FE549ED, 0x3FE5ADF6, 0x3FE6128D, 0x3FE677B2,
   0x3FE6DD67, 0x3FE743B0, 0x3FE7AA8D, 0x3FE81200, 0x3FE87A0C, 0x3FE8E2B2, 0x3FE94BF5, 0x3FE9B5D6, 0x3FEA2059,
   0x3FEA8B7E, 0x3FEAF749, 0x3FEB63BB, 0x3FEBD0D8, 0x3FEC3EA1, 0x3FECAD19, 0x3FED1C42, 0x3FED8C1F, 0x3FEDFCB2,
   0x3FEE6DFF]
/-- T[3969] to T[4032]. -/
def phiRom30 : List Word :=
  [0x3FEEE008, 0x3FEF52D0, 0x3FEFC65A, 0x3FF03AA8, 0x3FF0AFBE, 0x3FF1259F, 0x3FF19C4D, 0x3FF213CD, 0x3FF28C21,
   0x3FF3054D, 0x3FF37F54, 0x3FF3FA3A, 0x3FF47603, 0x3FF4F2B2, 0x3FF5704B, 0x3FF5EED2, 0x3FF66E4C, 0x3FF6EEBB,
   0x3FF77025, 0x3FF7F28E, 0x3FF875FB, 0x3FF8FA6F, 0x3FF97FF0, 0x3FFA0683, 0x3FFA8E2C, 0x3FFB16F1, 0x3FFBA0D7,
   0x3FFC2BE4, 0x3FFCB81C, 0x3FFD4587, 0x3FFDD429, 0x3FFE6409, 0x3FFEF52E, 0x3FFF879D, 0x40000DAF, 0x4000583B,
   0x4000A378, 0x4000EF67, 0x40013C0E, 0x40018970, 0x4001D792, 0x40022676, 0x40027623, 0x4002C69B, 0x400317E5,
   0x40036A04, 0x4003BCFE, 0x400410D7, 0x40046596, 0x4004BB3F, 0x400511D9, 0x40056969, 0x4005C1F6, 0x40061B85,
   0x4006761E, 0x4006D1C8, 0x40072E8A, 0x40078C6B, 0x4007EB73, 0x40084BAB, 0x4008AD1B, 0x40090FCC, 0x400973C7,
   0x4009D915]
/-- T[4033] to T[4095]. -/
def phiRom31 : List Word :=
  [0x400A3FC2, 0x400AA7D8, 0x400B1161, 0x400B7C6A, 0x400BE8FF, 0x400C572C, 0x400CC6FF, 0x400D3887, 0x400DABD2,
   0x400E20F1, 0x400E97F3, 0x400F10EA, 0x400F8BE8, 0x40100902, 0x4010884C, 0x401109DC, 0x40118DC9, 0x4012142D,
   0x40129D20, 0x401328C0, 0x4013B72B, 0x40144880, 0x4014DCE2, 0x40157475, 0x40160F61, 0x4016ADD1, 0x40174FF1,
   0x4017F5F4, 0x4018A00F, 0x40194E7B, 0x401A0178, 0x401AB949, 0x401B763B, 0x401C38A0, 0x401D00D0, 0x401DCF31,
   0x401EA42F, 0x401F8045, 0x402063FB, 0x40214FE9, 0x402244B9, 0x4023432F, 0x40244C24, 0x40256094, 0x4026819E,
   0x4027B091, 0x4028EEF2, 0x402A3E8C, 0x402BA17E, 0x402D1A57, 0x402EAC34, 0x40305AEA, 0x40322B49, 0x40342378,
   0x40364B84, 0x4038AE3E, 0x403B5AB4, 0x403E66BD, 0x4041F3E3, 0x404639A8, 0x404B9EAC, 0x40530537, 0x405F2CB7]

/-- T[2,049] to T[4,095]. -/
def phiRom : List Word :=
  phiRom0 ++ phiRom1 ++ phiRom2 ++ phiRom3 ++ phiRom4 ++ phiRom5 ++ phiRom6 ++ phiRom7 ++ phiRom8 ++ phiRom9 ++
  phiRom10 ++ phiRom11 ++ phiRom12 ++ phiRom13 ++ phiRom14 ++ phiRom15 ++ phiRom16 ++ phiRom17 ++ phiRom18 ++
  phiRom19 ++ phiRom20 ++ phiRom21 ++ phiRom22 ++ phiRom23 ++ phiRom24 ++ phiRom25 ++ phiRom26 ++ phiRom27 ++
  phiRom28 ++ phiRom29 ++ phiRom30 ++ phiRom31

/-- T[k]: the table is odd about T[2,048] = +0.0, and ends at -5.0 and +5.0 (R298). -/
def phiTable (k : Nat) : Word :=
  if k = 0 then 0xC0A00000
  else if 4096 ≤ k then 0x40A00000
  else if k = 2048 then 0
  else if 2048 < k then phiRom.getD (k - 2049) 0
  else phiRom.getD (2047 - k) 0 ^^^ 0x80000000#32

end Sys2Proof.Machine
end

