-- ==== Sys2Proof/Machine/Tier.lean ====
section
/-!
DEFINITION. The tier controller and the Shelf (06_tiers.md): tiles and side records, descriptors and their checks, the
operations over whole descriptors, remote tiles on VC2, shadow regions, namespaces and the flash translation layer.
-/
namespace Sys2Proof.Machine

open Reg

/-! Tiles and side records, 06_tiers.md R197-R200. -/

/-- A side record with a fresh CRC over the data and its first 28 bytes (R198). -/
def sealSide (data side : List Byte) : List Byte :=
  let h := slice side 0 28
  h ++ leBytes 4 (crc32c (data ++ h))

/-- Whether a side record's CRC checks over the data (R200). -/
def sideOk (data side : List Byte) : Bool := crc32c (data ++ slice side 0 28) == field side 28 4

/-- The tile that an unmapped logical block reads as (R229). -/
def zeroTile : List Byte := List.replicate 4096 0
def unmappedSide : List Byte := sealSide zeroTile (leBytes 28 256)

/-- Replace bytes of a list from index `i`. -/
def patchBytes (l : List Byte) (i : Nat) (bs : List Byte) : List Byte := l.take i ++ bs ++ l.drop (i + bs.length)

/-! Namespaces, 06_tiers.md R226, R227. -/

/-- A namespace's range and owner. -/
structure NsInfo where
  base  : Nat
  len   : Nat
  part  : Nat
  valid : Bool
  deriving DecidableEq, Repr

/-- The live entry of a namespace; namespace 0 is fixed at manufacture (R227). -/
def State.nsInfo (s : State) (ns : Nat) : NsInfo :=
  if ns = 0 then ⟨0, 1048576, 0, true⟩
  else ⟨s.getI Page.shelf ns SHELF_NS_BASE_LBA, s.getI Page.shelf ns SHELF_NS_LEN_BLOCKS,
    s.getI Page.shelf ns SHELF_NS_OWNER_PART, s.getI Page.shelf ns SHELF_NS_OWNER_VALID != 0⟩

def State.nsClearing (s : State) (ns : Nat) : Bool := s.getI Page.shelf ns SHELF_NS_STATE_CLEARING != 0

/-- Exported logical blocks, 06_tiers.md R225. -/
abbrev shelfBlocks : Nat := 781250000

/-- Whether the Shelf is in READ_ONLY_PRESERVE. -/
def State.shelfRo (s : State) : Bool := s.flag Page.shelf SHELF_STATE_RO_PRESERVE

/-! The flash translation layer, 06_tiers.md R230-R238; its geometry and the placement of pages are the model's (log 16). -/

/-- 4 KiB pages of a NAND block; raw blocks: 4 TB (02_chip.md R66), of which 80% hold the exported capacity, 5% are the
garbage-collection reserve and the rest are spare (R225, R235; log 16). -/
abbrev blkPages : Nat := 3125
abbrev rawBlks : Nat := 312500
abbrev spareBlks : Nat := 46875
abbrev reserveBlks : Nat := 15625

/-- A number for a NAND block not used so far. -/
def freshBlk (l : List NandBlk) : Nat := l.foldl (fun m b => max m (b.id + 1)) 0

/-- Program pages: the open block takes them, then an erased one, then one never used. -/
def placePages : (fuel : Nat) → List NandBlk → List Nat → List NandBlk
  | 0, l, _ => l
  | fuel + 1, l, ps =>
    if ps.isEmpty then l
    else
      let open? := l.find? fun b => decide (0 < b.used) && decide (b.used < blkPages)
      match open?.or (l.find? fun b => b.used == 0) with
      | some b =>
        let n := min (blkPages - b.used) ps.length
        placePages fuel (l.map fun x => if x.id = b.id then { x with used := x.used + n, lbas := x.lbas ++ ps.take n } else x)
          (ps.drop n)
      | none =>
        let n := min blkPages ps.length
        placePages fuel (l ++ [⟨freshBlk l, 0, 0, n, ps.take n⟩]) (ps.drop n)

/-- Commit the write buffer: its logical blocks leave the NAND blocks that held them and are programmed; the buffer keeps them
until the program is verified, by the next commit at the latest (R230, R234; log 16). -/
def State.commitBuffer (s : State) : State :=
  if s.tier.wbuf.isEmpty then s
  else s.updTier fun t =>
    let old := t.nand.map fun b => { b with lbas := b.lbas.filter fun l => !t.wbuf.contains l }
    { t with nand := placePages 3 old t.wbuf, prog := t.wbuf, wbuf := [] }

/-- Commit the write buffer and verify what it programmed, before a reset or at the end of the power-fail sequence (R230, R577). -/
def State.flushBuffer (s : State) : State := s.commitBuffer.updTier fun t => { t with prog := [] }

/-- Whether the write buffer holds a logical block. -/
def Tier.buffered (t : Tier) (lba : Nat) : Bool := t.wbuf.contains lba || t.prog.contains lba

/-- Write a logical block: it enters the 6 MiB write buffer (R230), of which a half may wait and a half be in programming, and
which maps it (R229). -/
def State.shelfWrite (s : State) (lba : Nat) (data side : List Byte) : State :=
  let s := if s.tier.wbuf.length < 768 then s else s.commitBuffer
  s.updTier fun t =>
    { t with shelf := assocSet t.shelf lba ⟨data, side, false⟩, wbuf := insertNat t.wbuf lba, prog := t.prog.filter (· != lba) }

/-- Unmap a logical block. -/
def State.shelfUnmap (s : State) (lba : Nat) : State :=
  s.updTier fun t =>
    { t with shelf := assocDel t.shelf lba, wbuf := t.wbuf.filter (· != lba), prog := t.prog.filter (· != lba),
             nand := t.nand.map fun b => { b with lbas := b.lbas.filter (· != lba) } }

/-- The valid pages of NAND block `id`. -/
def validPages (l : List NandBlk) (id : Nat) : List Nat := ((l.find? fun b => b.id == id).map (·.lbas)).getD []

/-- NAND block `id` gives up its pages and takes no programs. -/
def closeBlk (l : List NandBlk) (id : Nat) : List NandBlk :=
  l.map fun x => if x.id = id then { x with lbas := [], used := blkPages } else x

/-- Erase NAND block `id`, then program the pages `ps` into it. -/
def eraseBlk (l : List NandBlk) (id : Nat) (ps : List Nat) : List NandBlk :=
  l.map fun x => if x.id = id then { x with lbas := ps, used := ps.length, erases := x.erases + 1, reads := 0 } else x

/-- Move the valid pages of NAND block `id` elsewhere and erase it; it takes the pages `ps`. -/
def moveBlk (l : List NandBlk) (id : Nat) (ps : List Nat) : List NandBlk :=
  eraseBlk (placePages 3 (closeBlk l id) (validPages l id)) id ps

/-- Move the data of a cold block into a worn one, whose own data leaves it first (R231). -/
def swapCold (l : List NandBlk) (cold hot : Nat) : List NandBlk :=
  eraseBlk (moveBlk (closeBlk l cold) hot (validPages l cold)) cold []

/-- WEAR_PCT from the mean erase count of the good blocks, and WEAR_OUT once at 100 (R235, R236). -/
def State.updateWear (s : State) : State :=
  let n := rawBlks - s.get Page.shelf SHELF_RETIRED_BLOCKS
  let sum := s.tier.nand.foldl (fun a b => a + b.erases) 0
  let pct := min 255 (100 * sum / (n * 3000))
  let s := s.set Page.shelf SHELF_WEAR_WEAR_PCT pct
  if 100 ≤ pct ∧ s.tier.wearSeen = false then
    (s.updTier fun t => { t with wearSeen := true }).raise Page.shelf Ev.WEAR_OUT
  else s

/-- The blocks after erases, whose wear shows. -/
def State.setNand (s : State) (l : List NandBlk) : State := (s.updTier fun t => { t with nand := l }).updateWear

/-- Relocate a NAND block under R232. In READ_ONLY_PRESERVE it comes from the reserve, one block each time; once that is
spent, relocation stops and READ_DISTURB_RISK is logged, once (R238). -/
def State.relocate (s : State) (id : Nat) : State :=
  if s.shelfRo then
    if s.tier.reserve = 0 then
      if s.tier.riskSeen then s
      else (s.updTier fun t => { t with riskSeen := true }).raise Page.shelf Ev.READ_DISTURB_RISK
    else (s.updTier fun t => { t with reserve := t.reserve - 1 }).setNand (moveBlk s.tier.nand id [])
  else s.setNand (moveBlk s.tier.nand id [])

/-- A block that has been read 100,000 times since its erase is relocated (R232). -/
def State.disturbed (s : State) : State :=
  eachOf (s.tier.nand.filter fun b => decide (100000 ≤ b.reads)) (fun b s => s.relocate b.id) s

/-- A logical block is found uncorrectable after the retries: it stays so until it is written (R233). -/
def State.mediaUe (s : State) (lba : Nat) : State :=
  let s := s.updTier fun t =>
    { t with shelf := match assocGet t.shelf lba with
        | some b => assocSet t.shelf lba { b with ue := true }
        | none => t.shelf }
  (s.add Page.shelf SHELF_MEDIA_UE_COUNT 1).raise Page.shelf Ev.MEDIA_UE

/-- Read a logical block: data, side record, and whether it is uncorrectable; `fails` says that the media read failed after
its retries (R229, R233). A block that the write buffer holds is read from there. -/
def State.shelfRead (s : State) (lba : Nat) (fails : Bool) : Option (List Byte × List Byte) × State :=
  match assocGet s.tier.shelf lba with
  | none => (some (zeroTile, unmappedSide), s)
  | some b =>
    if s.tier.buffered lba then (some (b.data, b.side), s)
    else
      let s := s.updTier fun t =>
        { t with nand := t.nand.map fun n => if n.lbas.contains lba then { n with reads := n.reads + 1 } else n }
      let s := s.disturbed
      if b.ue || fails then (none, s.mediaUe lba) else (some (b.data, b.side), s)

/-- A program's time, as the rows that carry one report it; those of the last hour make SHELF_PROG_TIME (R236, R241). -/
def State.progTime (s : State) (us : Nat) : State :=
  let now := s.weave.wt.toNat
  s.updTier fun t => { t with progUs := (t.progUs.filter fun x => decide (now < x.1 + ticksPerHour)) ++ [(now, us)] }

/-- SHELF_PROG_TIME: the mean over the last hour, 0 without a program. -/
def State.meanProgUs (s : State) : Nat :=
  let l := (s.tier.progUs.filter fun x => decide (s.weave.wt.toNat < x.1 + ticksPerHour)).map (·.2)
  l.sum / l.length

/-- Enter READ_ONLY_PRESERVE: accepted writes are committed first, and Lint's mirroring stops (R236, R238). -/
def State.enterRo (s : State) : State :=
  if s.shelfRo then s
  else
    (((s.commitBuffer.set Page.shelf SHELF_STATE_RO_PRESERVE 1).latch Page.shelf 8).raise Page.shelf Ev.SHELF_RO).raise
      Page.shelf Ev.MIRROR_STOPPED

/-- One raw block fewer is good: SPARE_PCT follows; SPARE_LOW below 2%, READ_ONLY_PRESERVE at 0, in that order (R235-R237);
with no spare left the reserve shrinks (R238). -/
def State.loseSpare (s : State) : State :=
  if s.tier.spares = 0 then s.updTier fun t => { t with reserve := t.reserve - 1 }
  else
    let s := s.updTier fun t => { t with spares := t.spares - 1 }
    let sp := 10000 * s.tier.spares / rawBlks
    let s := s.set Page.shelf SHELF_WEAR_SPARE_PCT sp
    let s := if sp < 200 ∧ s.tier.lowSeen = false then
        (s.updTier fun t => { t with lowSeen := true }).raise Page.shelf Ev.SPARE_LOW else s
    if sp = 0 then s.enterRo else s

/-! DRAM windows, 13_partitions.md R476. -/

/-- The windows of a context: (base, length) in bytes; none when the binding is not VALID. -/
def State.windows (s : State) (n : CtxId) : List (Nat × Nat) :=
  let pg := Page.ctx n.1
  if s.flag pg CTX_BIND_VALID then
    (List.range 4).filterMap fun i =>
      let len := s.get pg (CTX_WIN_LEN.nth i)
      if len = 0 then none else some (s.get pg (CTX_WIN_BASE.nth i) * 2 ^ 21, len * 2 ^ 21)
  else []

/-- Every context. -/
def allCtxs : List CtxId := List.finRange 64

/-- The windows of a partition: those of every context bound to it. -/
def State.partWindows (s : State) (part : Nat) : List (Nat × Nat) :=
  (allCtxs.filter fun n => s.flag (Page.ctx n.1) CTX_BIND_VALID && s.get (Page.ctx n.1) CTX_BIND_PART == part).flatMap
    s.windows

/-- Whether every byte of a range lies in some window: checked per 2 MiB unit, the unit of windows. -/
def inWindows (ws : List (Nat × Nat)) (a n : Nat) : Bool :=
  let u0 := a / 2 ^ 21
  let u1 := (a + n - 1) / 2 ^ 21
  n == 0 || (List.range (u1 + 1 - u0)).all fun i =>
    ws.any fun w => decide (w.1 ≤ (u0 + i) * 2 ^ 21) && decide ((u0 + i) * 2 ^ 21 < w.1 + w.2)

/-! Descriptors, 06_tiers.md R201. -/

def Desc.op (d : Desc) : Nat := field d.raw 0 1
def Desc.flags (d : Desc) : Nat := field d.raw 1 1
def Desc.stamp (d : Desc) : Bool := d.flags.testBit 0
def Desc.build (d : Desc) : Bool := d.flags.testBit 1
def Desc.postFlag (d : Desc) : Bool := d.flags.testBit 2
def Desc.srct (d : Desc) : Nat := field d.raw 2 1 % 16
def Desc.dstt (d : Desc) : Nat := field d.raw 2 1 / 16
def Desc.nsid (d : Desc) : Nat := field d.raw 3 1 % 64
def Desc.ntiles (d : Desc) : Nat := field d.raw 4 4
def Desc.src (d : Desc) : Nat := field d.raw 8 8
def Desc.dst (d : Desc) : Nat := field d.raw 16 8
def Desc.side (d : Desc) : Nat := field d.raw 24 8
def Desc.noSide (d : Desc) : Bool := d.side == 2 ^ 64 - 1
def Desc.template (d : Desc) : List Byte := slice d.raw 32 24
def Desc.cookie (d : Desc) : Nat := field d.raw 56 4
def Desc.peer (d : Desc) : Nat := field d.raw 60 2 % 4096

/-- Tier codes. -/
abbrev tXmem : Nat := 0
abbrev tDram : Nat := 1
abbrev tShelf : Nat := 2

/-- Whether a descriptor touches the Shelf. -/
def Desc.onShelf (d : Desc) : Bool :=
  match d.op with
  | 1 => d.srct == tShelf || d.dstt == tShelf
  | 2 => d.dstt == tDram
  | 3 | 4 | 5 => true
  | _ => false

/-- Whether one end of a descriptor is XMEM, where a SIDE array may lie (R199, R201). -/
def Desc.xmemEnd (d : Desc) : Bool :=
  match d.op with
  | 1 => d.srct == tXmem || d.dstt == tXmem
  | 2 | 6 => d.dstt == tXmem
  | 7 => d.srct == tXmem
  | _ => false

/-- A descriptor of the physical function: no core's and no context's. -/
def Desc.ofPf (d : Desc) : Bool := d.core.isNone && d.ctx.isNone

/-- Legal tiers of each operation (R202). -/
def Desc.tiersLegal (d : Desc) : Bool :=
  match d.op with
  | 1 => d.srct ≤ 2 && d.dstt ≤ 2 && d.srct != d.dstt
  | 2 => d.srct == tDram && (d.dstt == tDram || d.dstt == tXmem)
  | 3 | 4 => d.srct == tDram
  | 5 => d.srct == tShelf
  | 6 => d.srct == tDram && (d.dstt == tXmem || d.dstt == tDram)
  | 7 => (d.srct == tXmem || d.srct == tDram) && d.dstt == tDram
  | _ => false

/-- The model and bank (0 or 1) of a partition's segment, when a hanger bank holds it (11_press.md R391). -/
def State.bankOf (s : State) (part seg : Nat) : Option (Fin 16 × Nat) :=
  (List.finRange 16).findSome? fun m =>
    let r (f : Fld) : Nat := s.getI Page.hanger m.1 f
    if r HANGER_CFG_VALID = 1 ∧ r HANGER_CFG_PART = part then
      if r HANGER_SEGS_BANK0 ≤ seg ∧ seg < r HANGER_SEGS_BANK0 + r HANGER_SEGS_NSEG then some (m, 0)
      else if r HANGER_SEGS_BANK1 ≤ seg ∧ seg < r HANGER_SEGS_BANK1 + r HANGER_SEGS_NSEG then some (m, 1)
      else none
    else none

/-- Whether scratchpad bytes [o, o + n) of a partition touch a hanger bank (11_press.md R393). -/
def State.namesBank (s : State) (part o n : Nat) : Bool :=
  let segs := s.grantedSegs part
  (List.range segs.length).any fun i =>
    decide (i * segBytes < o + n) && decide (o < (i + 1) * segBytes) && (s.bankOf part (segs.getD i 0)).isSome

/-- A range check of one local end (R204 item 1). -/
def State.endOk (s : State) (part tier a n : Nat) : Bool :=
  if tier = tXmem then decide (a + n ≤ (s.grantedSegs part).length * segBytes) && !s.namesBank part a n
  else if tier = tDram then decide (a + n ≤ dramGeneral) && inWindows (s.partWindows part) a n
  else true

/-- Whether the local source and destination ends exist for an operation. -/
def Desc.usesSrc (d : Desc) : Bool := d.op != 6
def Desc.usesDst (d : Desc) : Bool := d.op == 1 || d.op == 6

/-- Blocks of the mirror area, at the start of namespace 0: a ring of 64 images of 65 tiles (17_lint.md R615; log 31). -/
abbrev mirrorBlks : Nat := 65 * 64

/-- A range check of a descriptor's local end: the physical function, which no partition binds, has the whole general area
(R204 item 1; 17_lint.md R619; log 106). -/
def State.descEndOk (s : State) (d : Desc) (tier a n : Nat) : Bool :=
  if d.ofPf then (if tier = tXmem then false else if tier = tDram then decide (a + n ≤ dramGeneral) else true)
  else s.endOk d.part.toNat tier a n

/-- The checks made before any tile moves (R204). A partition may not name namespace 0; the physical function may, and a write to
the mirror area completes READ_ONLY (17_lint.md R619). -/
def State.tierCheck (s : State) (d : Desc) : Status :=
  let part := d.part.toNat
  let n := d.ntiles * 4096
  let remote := d.op == 6 || d.op == 7
  let shelfOff := if d.op == 1 && d.dstt == tShelf then d.dst else d.src
  let namesNs := d.op == 5 || (d.op == 1 && (d.srct == tShelf || d.dstt == tShelf))
  let ns := s.nsInfo d.nsid
  let shelfWrites := d.op == 5 || (d.op == 1 && d.dstt == tShelf)
  if d.op < 1 ∨ 7 < d.op ∨ d.tiersLegal = false ∨ d.ntiles = 0 ∨ 262144 < d.ntiles then .param
  else if (d.usesSrc ∨ remote) ∧ d.src % 4096 ≠ 0 then .param
  else if (d.usesDst ∨ remote) ∧ d.dst % 4096 ≠ 0 then .param
  else if d.noSide = false ∧ (d.xmemEnd = false ∨ d.side % 32 ≠ 0 ∨ s.descEndOk d tXmem d.side (32 * d.ntiles) = false) then .param
  else if d.usesSrc ∧ s.descEndOk d d.srct d.src n = false then .param
  else if d.usesDst ∧ s.descEndOk d d.dstt d.dst n = false then .param
  else if d.noSide ∧ d.srct = tXmem ∧ d.build = false ∧ (d.op == 1 || d.op == 7) then .param
  else if remote = false ∧ field d.raw 60 2 ≠ 0 then .param
  else if remote ∧ d.peer = s.pcn.toNat then .param
  else if namesNs ∧ ((d.nsid = 0 ∧ d.ofPf = false) ∨ ns.valid = false ∨ ns.part ≠ part) then .authFail
  else if namesNs ∧ ns.len * 4096 < shelfOff + n then .param
  else if namesNs ∧ s.nsClearing d.nsid then .busy
  else if shelfWrites ∧ (s.shelfRo ∨ ns.base + shelfOff / 4096 < mirrorBlks) then .readOnly
  else if remote ∧ (s.route d.peer false).isNone then .notReady
  else .ok

/-! Tiles at each tier. -/

/-- Read the tile at `a` of a tier as an engine: data, side record when one exists and the descriptor does not BUILD its own,
or the failing status (R195, R196, R199, R203). -/
def State.readTile (s : State) (d : Desc) (tier a i : Nat) (env : MediaEnv) :
    Except Status (List Byte × List Byte) × State :=
  let part := d.part.toNat
  if tier = tXmem then
    let segs := s.grantedSegs part
    let phys := (scratchPhys segs a).getD 0
    let ws := s.uesIn .xmem phys 4096
    let sp := (scratchPhys segs (d.side + 32 * i)).getD 0
    let bare := d.noSide || d.build
    let ws := if bare then ws else ws ++ s.uesIn .xmem sp 32
    let s := s.foundUe .xmem ws
    if ws.isEmpty then (.ok (s.xmem.read phys 4096, if bare then [] else s.xmem.read sp 32), s) else (.error .eccFatal, s)
  else if tier = tDram then
    let (data, bad, s) := s.readDramOver (env.link i) a 4096
    let (side, bad2, s) := if d.build then ([], false, s) else s.readDram (sideStore + 32 * (a / 4096)) 32
    if bad || bad2 then (.error .eccFatal, s) else (.ok (data, side), s)
  else
    match s.shelfRead ((s.nsInfo d.nsid).base + a / 4096) (env.mediaUe.contains i) with
    | (some t, s) => (.ok t, s)
    | (none, s) => (.error .eccFatal, s)

/-- Write a tile and its side record at a tier. -/
def State.writeTile (s : State) (d : Desc) (tier a i : Nat) (data side : List Byte) : State :=
  let part := d.part.toNat
  if tier = tXmem then
    let s := s.writeScratch part a data
    if d.noSide then s else s.writeScratch part (d.side + 32 * i) side
  else if tier = tDram then (s.writeDram a data).writeDram (sideStore + 32 * (a / 4096)) side
  else s.shelfWrite ((s.nsInfo d.nsid).base + a / 4096) data side

/-- The side record that a tile gets (R203); none when the source's CRC does not check (R200). -/
def Desc.newSide (d : Desc) (i : Nat) (data side : List Byte) : Option (List Byte) :=
  if d.build then
    some (sealSide data (patchBytes (slice d.template 0 28) 20 (leBytes 4 (field d.template 20 4 + i))))
  else if sideOk data side then
    if d.stamp then some (sealSide data (patchBytes side 16 (slice d.template 16 4))) else some side
  else none

/-- ORIGIN of an event that a descriptor's work raises: its core, or the block itself for a host's (17_lint.md R605). -/
def Desc.origin (d : Desc) : BitVec 16 :=
  match d.core with
  | some c => byCore c
  | none => byBlock

/-- A tile's CRC does not check over its side record (R200). -/
def State.crcFail (s : State) (d : Desc) : State := (s.add Page.tier TIER_CRC_ERR_COUNT 1).raise Page.tier Ev.CRC_FAIL d.origin

/-- Copy tiles from `i` on: the first failure ends the descriptor, naming its tile (R200, R210). -/
def State.moveTiles (env : MediaEnv) : (fuel i : Nat) → Desc → State → (Option (Status × Nat)) × State
  | 0, _, _, s => (none, s)
  | fuel + 1, i, d, s =>
    match s.readTile d d.srct (d.src + 4096 * i) i env with
    | (.error e, s) => (some (e, i), s)
    | (.ok (data, side), s) =>
      match d.newSide i data side with
      | none => (some (.eccFatal, i), s.crcFail d)
      | some ns => State.moveTiles env fuel (i + 1) d (s.writeTile d d.dstt (d.dst + 4096 * i) i data ns)

/-! CLEAN, FLUSH, PREFETCH, DISCARD. -/

/-- The 64 KiB pages that a range touches. -/
def pagesOf (a n : Nat) : List Nat := (List.range ((a + n + 65535) / 65536 - a / 65536)).map fun i => a / 65536 + i

/-- Look up every cache line of a page, and act on the way that holds it. -/
def State.eachLine (s : State) (page : Nat) (f : Nat → Nat → Place → Nat → State → State) : State :=
  let (steps, base) := s.cacheRegion
  if s.cacheState < 2 ∨ steps = 0 then s
  else eachOf (List.range 256) (fun i s =>
    let p := placeOf steps base (page * 256 + i)
    let s := s.checkTags p (setOf steps (page * 256 + i))
    match s.cacheHit p with
    | some w => f steps base p w s
    | none => s) s

/-- Write back every dirty cache line of a page (R218). -/
def State.cleanLines (s : State) (page : Nat) : State := s.eachLine page fun steps base p w s => s.writeBack steps base p w

/-- Invalidate every cache line of a page. -/
def State.invalidateLines (s : State) (page : Nat) : State := s.eachLine page fun _ _ p w s => s.dropWay p w

/-- Whether a shadow entry in a state holds a page. -/
def State.inShadow (s : State) (e page : Nat) (st : Nat → Bool) : Bool :=
  st (s.getI Page.tier e TIER_SH_STATE_STATE) &&
  decide (s.getI Page.tier e TIER_SH_DRAM_BASE ≤ page) &&
  decide (page < s.getI Page.tier e TIER_SH_DRAM_BASE + s.getI Page.tier e TIER_SH_PAGES_PAGES)

/-- The shadow entry that is ACTIVE and holds a page; no two ACTIVE ones overlap (R216). -/
def State.shadowOf (s : State) (page : Nat) : Option Nat := (List.range 16).find? fun e => s.inShadow e page (· == 1)

/-- The shadow entries, ACTIVE or RELEASING, that hold a page. -/
def State.shadowsOf (s : State) (page : Nat) : List Nat := (List.range 16).filter fun e => s.inShadow e page (· != 0)

/-- The first Shelf block of a shadow page. -/
def State.shadowLba (s : State) (e page : Nat) : Nat :=
  (s.nsInfo (s.getI Page.tier e TIER_SH_NS_NSID)).base + s.getI Page.tier e TIER_SH_LBA_LBA +
    16 * (page - s.getI Page.tier e TIER_SH_DRAM_BASE)

/-- Write tile `i` of a shadow page, which is tile `k` of its range, to the page's Shelf blocks: its read may fail on the link, on
a poisoned line or on its CRC (R195, R196, R200, R218). -/
def State.cleanTile (s : State) (es : List Nat) (page i k : Nat) (env : MediaEnv) : Option Status × State :=
  let a := page * 65536 + i * 4096
  let (data, bad, s) := s.readDramOver (env.link k) a 4096
  let (side, bad2, s) := s.readDram (sideStore + 32 * (a / 4096)) 32
  if bad || bad2 then (some .eccFatal, s)
  else if sideOk data side = false then
    (some .eccFatal, (s.add Page.tier TIER_CRC_ERR_COUNT 1).raise Page.tier Ev.CRC_FAIL)
  else (none, eachOf es (fun e s => s.shelfWrite (s.shadowLba e page + i) data side) s)

/-- The tiles of a page from `i` on, up to the first that fails. -/
def State.cleanTiles (es : List Nat) (page first : Nat) (env : MediaEnv) : (fuel i : Nat) → State → Option (Status × Nat) × State
  | 0, _, s => (none, s)
  | fuel + 1, i, s =>
    match s.cleanTile es page i (page * 16 + i - first) env with
    | (some st, s) => (some (st, page * 16 + i - first), s)
    | (none, s) => State.cleanTiles es page first env fuel (i + 1) s

/-- Write one dirty shadow page to the Shelf, for every entry that holds it: its bit is cleared first. A page with a poisoned line
stays dirty and fails (R218, R220), one with a tile that fails stays dirty too (log 107), and so does one whose blocks may not be
written (R238; 17_lint.md R619). -/
def State.cleanPage (s : State) (es : List Nat) (page first : Nat) (env : MediaEnv) : Option (Status × Nat) × State :=
  let at0 := page * 16 - first
  if !s.tier.dirty.contains page then (none, s)
  else if s.tier.poison.any (fun a => a / 65536 == page) then (some (.eccFatal, at0), s)
  else if s.shelfRo || es.any (fun e => decide (s.shadowLba e page < mirrorBlks)) then (some (.readOnly, at0), s)
  else
    let s := s.updTier fun t => { t with dirty := t.dirty.filter (· != page) }
    match State.cleanTiles es page first env 16 0 s with
    | (none, s) => (none, s)
    | (some x, s) => (some x, s.updTier fun t => { t with dirty := insertNat t.dirty page })

/-- CLEAN over pages: cache lines first, then dirty shadow pages (R218). -/
def State.cleanPages (s : State) (pages : List Nat) (first : Nat) (env : MediaEnv) : Option (Status × Nat) × State :=
  let s := eachOf pages (fun p s => s.cleanLines p) s
  pages.foldl (fun (r : Option (Status × Nat) × State) page =>
    match r.2.shadowsOf page with
    | [] => r
    | es =>
      let (x, s) := r.2.cleanPage es page first env
      (r.1.or x, s)) (none, s)

/-- Fill one 64 KiB shadow page from the Shelf as one step, through the cache controller; a dirty page is skipped, and a fill sets no
dirty bit (R162, R217, R222). -/
def State.fillPage (s : State) (e page : Nat) (env : MediaEnv) (first : Nat) : Option Status × State :=
  if s.tier.dirty.contains page then (none, s)
  else
    let tiles := (List.range 16).foldl (fun (r : List (Option (List Byte × List Byte)) × State) i =>
      let k := page * 16 + i - first
      let (t, s) := r.2.shelfRead (s.shadowLba e page + i) (env.mediaUe.contains k)
      (r.1 ++ [t], s)) ([], s)
    let s := tiles.2
    if tiles.1.all (fun t => match t with | some (d, sd) => sideOk d sd | none => false) then
      let s := eachOf ((List.range 16).zip tiles.1) (fun t s =>
        match t.2 with
        | some (data, side) =>
          let a := page * 65536 + t.1 * 4096
          (s.writeDram a data).writeDram (sideStore + 32 * (a / 4096)) side
        | none => s) s
      (none, s.updTier fun t => { t with dirty := t.dirty.filter (· != page) })
    else if tiles.1.contains none then (some .eccFatal, s)
    else (some .eccFatal, (s.add Page.tier TIER_CRC_ERR_COUNT 1).raise Page.tier Ev.CRC_FAIL)

/-- PREFETCH into DRAM: pages of ACTIVE shadow regions are filled, others skipped. -/
def State.prefetchPages (s : State) (d : Desc) (env : MediaEnv) : Option (Status × Nat) × State :=
  (pagesOf d.src (d.ntiles * 4096)).foldl (fun (r : Option (Status × Nat) × State) page =>
    if r.1.isSome then r
    else
      match r.2.shadowOf page with
      | some e =>
        match r.2.fillPage e page env (d.src / 4096) with
        | (none, s) => (none, s)
        | (some st, s) => (some (st, page * 16 - d.src / 4096), s)
      | none => r) (none, s)

/-- PREFETCH into XMEM: the range's lines are read through the cache, tile by tile, and allocate (R224; R195, R196). -/
def State.warmTiles (env : MediaEnv) : (fuel i : Nat) → (a : Nat) → State → Option (Status × Nat) × State
  | 0, _, _, s => (none, s)
  | fuel + 1, i, a, s =>
    let (_, bad, s) := s.readDramOver (env.link i) (a + 4096 * i) 4096
    if bad then (some (.eccFatal, i), s) else State.warmTiles env fuel (i + 1) a s

/-! Queues, 06_tiers.md R205-R211. -/

/-- Whether a descriptor's completion would find room: no completion goes to a context, or its share has some (13_partitions.md
R488). -/
def State.postsFree (s : State) (d : Desc) (post : Bool) : Bool :=
  match d.core, d.ctx with
  | some c, _ =>
    match post, (s.core c).owner with
    | true, some n => s.shareFree n
    | _, _ => true
  | none, some n => s.shareFree n
  | none, none => true

/-- The descriptor of a queue that is first to run with an operation: one of the four started ones without a result, not one that a
full share holds back. -/
def State.pick (s : State) (q : List Desc) (op : Nat → Bool) : Option Nat :=
  (q.take 4).findIdx? fun d => d.result.isNone && op d.op && s.postsFree d d.postFlag

/-- Replace a descriptor of a tier queue. -/
def State.setTierDesc (s : State) (q : Fin 5) (i : Nat) (d : Desc) : State :=
  s.updTier fun t => { t with queues := t.queues.set q (t.queues[q].set i d) }

/-- A descriptor ends with a status; a failed tile is named (R210). -/
def Desc.finish (d : Desc) (st : Status) (tile : Nat) : Desc := { d with result := some st, fail := tile }

/-- Whether the tier controller may work on a descriptor now: not in reset, started before work stopped, its context's share
free, and not paused by a firmware swap (16_reset.md R594; 13_partitions.md R488). -/
def State.tierMay (s : State) (d : Desc) : Bool :=
  !s.inReset Page.tier && !s.powerStopped && (d.begun || s.mayStart) && !(s.tier.swapping && d.onShelf) && s.postsFree d d.postFlag

/-- While the controller's firmware is swapped, descriptors that touch the Shelf and come to the head of a queue move into the
hold queue of 4,096 entries; with it full they complete BUSY (16_reset.md R594). -/
def State.holdHeads : (fuel : Nat) → State → (q : Fin 5) → State
  | 0, s, _ => s
  | fuel + 1, s, q =>
    match s.tier.queues[q] with
    | [] => s
    | d :: r =>
      if s.tier.swapping && d.onShelf && !d.begun && d.result.isNone then
        if s.tier.hold.length < 4096 then
          let s := s.updTier fun t =>
            { t with queues := t.queues.set q r, hold := t.hold ++ [d],
                     remote := t.remote.map fun x => if x.q = q then { x with pos := x.pos - 1 } else x }
          State.holdHeads fuel s q
        else s.setTierDesc q 0 (d.finish .busy 0)
      else s

/-- The queue of a descriptor: its core's, else the host's. -/
def Desc.queue (d : Desc) : Fin 5 :=
  match d.core with
  | some c => ⟨c.1, by omega⟩
  | none => 4

/-- A swap ends: paused descriptors resume first, in queue order, and held ones follow in hold-queue order (16_reset.md
R594, R595). -/
def State.endSwap (s : State) : State :=
  let s := s.updTier fun t => { t with swapping := false }
  let held := s.tier.hold
  s.updTier fun t =>
    { t with hold := []
             queues := Vector.ofFn fun q =>
               let l := t.queues[q]
               let i := l.length - (l.reverse.takeWhile fun d => !d.begun).length
               l.take i ++ (held.filter fun d => d.queue == q) ++ l.drop i }

/-- Descriptors with an unassigned OP fail their check among the four that a queue has started (R204, R208). -/
def State.refuseBad (s : State) (q : Fin 5) : State :=
  eachOf (List.range 4) (fun i s =>
    match s.tier.queues[q][i]? with
    | some d => if d.result.isNone ∧ (d.op < 1 ∨ 7 < d.op) ∧ s.tierMay d then s.setTierDesc q i (d.finish .param 0) else s
    | none => s) s

/-- Run `f` on the first runnable descriptor of a queue whose operation is `op`: it is checked first (R204), and `f` answers
its failing tile, if any. -/
def State.runTier (s : State) (q : Fin 5) (op : Nat)
    (f : Desc → State → Option (Status × Nat) × State) : State :=
  let s := (s.holdHeads 64 q).refuseBad q
  match s.pick s.tier.queues[q] (· == op) with
  | none => s
  | some i =>
    match s.tier.queues[q][i]? with
    | none => s
    | some d =>
      if s.tierMay d then
        match s.tierCheck d with
        | .ok =>
          match f d s with
          | (none, s) => s.setTierDesc q i (d.finish .ok 0)
          | (some (st, t), s) => s.setTierDesc q i (d.finish st t)
        | st => s.setTierDesc q i (d.finish st 0)
      else s

/-- The address space of remote requests, 06_tiers.md R213. -/
def remoteEng (kind : Nat) : BitVec 16 := engWord .remote kind 0

/-- A tag that no outstanding request has: the next in order (R215). -/
def Tier.freeTag (t : Tier) : BitVec 16 :=
  match (List.range 65).find? (fun i => !t.remote.any fun r => r.tag == t.nextTag + BitVec.ofNat 16 i) with
  | some i => t.nextTag + BitVec.ofNat 16 i
  | none => t.nextTag

/-- A remote request ends: it is no longer outstanding. -/
def State.dropRemote (s : State) (tag : BitVec 16) : State :=
  s.updTier fun t => { t with remote := t.remote.filter fun r => r.tag != tag }

/-- A tile of a remote descriptor fails: the lowest one counts, and no further request is sent (R210, R215). -/
def Desc.failAt (d : Desc) (st : Status) (tile : Nat) : Desc :=
  if d.err.isSome ∧ d.fail ≤ tile then d else { d with err := some st, fail := tile }

/-- A remote descriptor ends once none of its requests is outstanding and no more are to be sent: every tile below a failed one
has then been written (R210). -/
def State.settleRemote (s : State) (q : Fin 5) (i : Nat) : State :=
  match s.tier.queues[q][i]? with
  | none => s
  | some d =>
    if d.result.isSome ∨ (d.err.isNone ∧ d.n < d.ntiles) ∨ s.tier.remote.any (fun x => x.q == q && x.pos == i) then s
    else s.setTierDesc q i (d.finish (d.err.getD .ok) (if d.err.isSome then d.fail else 0))

/-- A tile of a remote descriptor fails. -/
def State.failTile (s : State) (q : Fin 5) (i : Nat) (st : Status) (tile : Nat) : State :=
  match s.tier.queues[q][i]? with
  | none => s
  | some d => if d.result.isSome then s else (s.setTierDesc q i (d.failAt st tile)).settleRemote q i

/-- The messages of a tile's request and their KIND, or the status with which the tile fails here (R213, R215). -/
def State.remoteMsgs (s : State) (d : Desc) (tile : Nat) (tag : BitVec 16) : Except Status (List (List Byte) × Nat) × State :=
  if d.op = 6 then
    (.ok ([leBytes 8 (d.src + 4096 * tile) ++ leBytes 2 tag.toNat ++ leBytes 1 (if d.build then 0 else 1)], 1), s)
  else
    match s.readTile d d.srct (d.src + 4096 * tile) tile d.env with
    | (.error e, s) => (.error e, s)
    | (.ok t, s) =>
      match d.newSide tile t.1 t.2 with
      | none => (.error .eccFatal, s.crcFail d)
      | some ns =>
        (.ok ((ns ++ leBytes 2 tag.toNat ++ leBytes 6 0 ++ leBytes 8 (d.dst + 4096 * tile)) ::
          (List.range 16).map fun j => slice t.1 (256 * j) 256, 3), s)

/-- Send as many remote tile requests of a descriptor as may be outstanding (R215). -/
def State.sendRemote : (fuel : Nat) → State → (q : Fin 5) → (i : Nat) → State
  | 0, s, _, _ => s
  | fuel + 1, s, q, i =>
    match s.tier.queues[q][i]? with
    | none => s
    | some d =>
      if d.result.isSome ∨ d.err.isSome ∨ d.ntiles ≤ d.n ∨ 64 ≤ s.tier.remote.length then s
      else
        let tile := d.n
        let tag := s.tier.freeTag
        match s.remoteMsgs d tile tag with
        | (.error e, s) => s.failTile q i e tile
        | (.ok (msgs, kind), s) =>
          match s.sendEng vc2 false d.peer d.part.toNat (remoteEng kind) msgs with
          | none => s.failTile q i .notReady tile
          | some s =>
            let s := s.setTierDesc q i { d with begun := true, n := tile + 1 }
            let s := s.updTier fun t => { t with remote := t.remote ++ [⟨tag, q, i, d.part, tile, d.op == 7⟩], nextTag := tag + 1 }
            State.sendRemote fuel s q i

/-- A remote tile fails: its descriptor fails with the tile's status (R215). -/
def State.failRemote (s : State) (r : Remote) (st : Status) : State := (s.dropRemote r.tag).failTile r.q r.pos st r.tile

/-- A remote tile succeeds: further requests follow, or the descriptor ends. -/
def State.doneRemote (s : State) (r : Remote) : State := (((s.dropRemote r.tag).sendRemote 64) r.q r.pos).settleRemote r.q r.pos

/-- The outstanding request that an answer names (R215). -/
def State.remoteOf (s : State) (part : BitVec 12) (tag : BitVec 16) (write : Bool) : Option Remote :=
  s.tier.remote.find? fun r => r.tag == tag && r.part == part && r.write == write

/-- The target's checks of a remote request (R214). -/
def State.remoteCheck (s : State) (part addr : Nat) (write : Bool) : Status :=
  if s.inReset Page.tier then .resetNack
  else if (s.coresOfPart part).isEmpty then .authFail
  else if write ∧ dramGeneral ≤ addr ∧ addr < dramBytes then .readOnly
  else if addr % 4096 ≠ 0 ∨ dramGeneral < addr + 4096 ∨ inWindows (s.partWindows part) addr 4096 = false then .param
  else .ok

/-! Completion of engine descriptors, shared by the engines. -/

/-- Whether a core descriptor's core is still in the life that issued it (16_reset.md R585). -/
def State.sameLife (s : State) (d : Desc) : Bool :=
  match d.core with
  | some c => (s.core c).life == d.life
  | none => true

/-- An engine descriptor's completion: the slot of a core's descriptor, the completion entry of a POST or of a host
descriptor (R209; 13_partitions.md R486); with the context's share full the engine keeps both (13_partitions.md R488). A completion for
an earlier life of the core is discarded and logged (16_reset.md R585). -/
def State.completeDesc (s : State) (d : Desc) (st : Status) (post : Bool) (cookie : Nat) : State :=
  match d.core with
  | some c =>
    if s.sameLife d then
      let tag (s : State) : State := match d.slot with
        | some b => s.tagEnd c b st
        | none => s
      match post, (s.core c).owner with
      | true, some n =>
        let e := cplEntry st 1 0 cookie c.1 0 0 0
        if s.takesPost n then (tag s).post n e
        else s.updCtx n fun x => { x with kept := x.kept ++ [⟨e, d.slot.map fun b => (c, b, st, d.life)⟩] }
      | _, _ => tag s
    else s.raise Page.chip Ev.REPLY_DISCARDED (byCore c)
  | none =>
    match d.ctx with
    | some n =>
      let s := s.updCtx n fun x => { x with cmds := x.cmds.filter fun k => k.idx != d.sqIdx }
      s.post n (cplEntry st 1 d.sqIdx.toNat cookie 0 0 0 0)
    | none => s

/-- The slot of a completion that was kept: it ends in the same life of its core (13_partitions.md R488). -/
def State.endKept (s : State) (k : Kept) : State :=
  match k.tag with
  | some (c, b, st, life) => if (s.core c).life = life then s.tagEnd c b st else s
  | none => s

/-- The CQ of a context has room: held completions are posted in order, and kept ones move up (13_partitions.md R487, R488). -/
def State.drainCq : (fuel : Nat) → State → CtxId → State
  | 0, s, _ => s
  | fuel + 1, s, n =>
    let s := s.drainHeld (shareSize + 1) n
    match (s.ctx n).kept with
    | [] => s
    | k :: r =>
      if s.shareFree n then
        let s := s.updCtx n fun x => { x with held := x.held ++ [k.entry], kept := r }
        State.drainCq fuel (s.endKept k) n
      else s

/-- A tier descriptor completes: a failure is named in TIER_LAST_FAIL and logged (R209, R210). -/
def State.tierComplete (s : State) (q : Fin 5) (d : Desc) (st : Status) : State :=
  let s := if st = .ok then s
    else
      let s := (s.setStatus Page.tier TIER_LAST_FAIL_STATUS st).set Page.tier TIER_LAST_FAIL_QUEUE q.1
      (s.set Page.tier TIER_LAST_FAIL_TILE_TILE d.fail).raise Page.tier Ev.DESC_FAIL d.origin
  s.completeDesc d st d.postFlag d.cookie

/-- Push a descriptor onto a tier queue: its capacity is 48 for a core, 64 for the host (R205-R207). -/
def State.pushTier (s : State) (q : Fin 5) (d : Desc) : State :=
  s.updTier fun t => { t with queues := t.queues.set q (t.queues[q] ++ [d]) }

/-- Whether the descriptor at a place of a queue stays when those that meet `p` go. -/
def keptAt (l : List Desc) (p : Desc → Bool) (i : Nat) : Bool :=
  match l[i]? with
  | some d => !p d
  | none => false

/-- Every descriptor of a tier queue that meets `p` ends at once with a status. -/
def State.abortTier (s : State) (q : Fin 5) (p : Desc → Bool) (st : Status) : State :=
  let heldIn (d : Desc) : Bool := d.queue == q && p d
  let gone := s.tier.queues[q].filter p ++ s.tier.hold.filter heldIn
  let kept := keptAt s.tier.queues[q] p
  let s := s.updTier fun t =>
    { t with queues := t.queues.set q (t.queues[q].filter fun d => !p d),
             hold := t.hold.filter (fun d => !heldIn d),
             remote := t.remote.filterMap fun (r : Remote) =>
               if r.q ≠ q then some r
               else if kept r.pos = true then some { r with pos := ((List.range r.pos).filter kept).length } else none }
  eachOf gone (fun d s => s.tierComplete q (if d.result.isSome then d else { d with fail := d.n }) st) s

/-- A request of a core that meets an engine in reset is logged (02_chip.md R70; log 92). -/
def State.metReset (s : State) (c : CoreId) : State := s.raise Page.chip Ev.RESET_ACCESS (byCore c)

/-- A core's descriptor for an engine in reset (16_reset.md R582). -/
def State.nackDesc (s : State) (c : CoreId) (d : Desc) : State :=
  (s.metReset c).completeDesc d .resetNack d.postFlag d.cookie

/-! The rows of the tier controller. -/

/-- A descriptor of the physical function enters its host queue, Q4, unless it is full (R205, R207; 17_lint.md R619; log 106). -/
def State.pfSubmit (s : State) (raw : List Byte) : State :=
  if s.inReset Page.tier ∨ 64 ≤ s.tier.queues[4].length then s
  else s.pushTier 4 (Desc.new (slice raw 0 64) none none 0 none 0 0 s.weave.wt)

/-- MOVE, 06_tiers.md R202, R203; `pf` is a descriptor that the physical function submits first. -/
def execMove (q : Fin 5) (env : MediaEnv) (pf : Option (List Byte)) (s : State) : Host.Outcome State Fault Refusal :=
  let s := match pf with
    | some raw => if q = 4 then s.pfSubmit raw else s
    | none => s
  .next (s.runTier q 1 fun d s => State.moveTiles env d.ntiles 0 d s)

/-- PREFETCH, R222-R224: into XMEM it only allocates cache lines, and nothing is done unless the cache is ON. -/
def execPrefetch (q : Fin 5) (env : MediaEnv) (s : State) : Host.Outcome State Fault Refusal :=
  .next (s.runTier q 2 fun d s =>
    if d.dstt = tXmem then
      if s.cacheState = 2 then State.warmTiles env d.ntiles 0 d.src s else (none, s)
    else s.prefetchPages d env)

/-- CLEAN, R218-R220. -/
def execClean (q : Fin 5) (env : MediaEnv) (s : State) : Host.Outcome State Fault Refusal :=
  .next (s.runTier q 3 fun d s => s.cleanPages (pagesOf d.src (d.ntiles * 4096)) (d.src / 4096) env)

/-- FLUSH, R218: CLEAN, then the range's cache lines are invalidated. -/
def execFlush (q : Fin 5) (env : MediaEnv) (s : State) : Host.Outcome State Fault Refusal :=
  .next (s.runTier q 4 fun d s =>
    let pages := pagesOf d.src (d.ntiles * 4096)
    let r := s.cleanPages pages (d.src / 4096) env
    (r.1, eachOf pages (fun p s => s.invalidateLines p) r.2))

/-- DISCARD, R202, R229. -/
def execDiscard (q : Fin 5) (s : State) : Host.Outcome State Fault Refusal :=
  .next (s.runTier q 5 fun d s =>
    (none, eachOf (List.range d.ntiles) (fun i s => s.shelfUnmap ((s.nsInfo d.nsid).base + d.src / 4096 + i)) s))

/-- Start or continue a queue's first remote descriptor of an operation that has tiles to send (R212, R215); `env` is what the
DRAM reads of its tiles meet. -/
def State.runRemote (s : State) (q : Fin 5) (op : Nat) (env : MediaEnv) : State :=
  let s := (s.holdHeads 64 q).refuseBad q
  match (s.tier.queues[q].take 4).findIdx? (fun d =>
      d.result.isNone && d.err.isNone && d.op == op && (!d.begun || decide (d.n < d.ntiles))) with
  | none => s
  | some i =>
    match s.tier.queues[q][i]? with
    | none => s
    | some d =>
      if s.tierMay d then
        match if d.begun then .ok else s.tierCheck d with
        | .ok => (s.setTierDesc q i { d with env := env }).sendRemote 64 q i
        | st => s.setTierDesc q i (d.finish st 0)
      else s

/-- RGET, R212-R215. -/
def execRget (q : Fin 5) (s : State) : Host.Outcome State Fault Refusal := .next (s.runRemote q 6 ⟨[], [], []⟩)

/-- RPUT, R212-R215. -/
def execRput (q : Fin 5) (env : MediaEnv) (s : State) : Host.Outcome State Fault Refusal := .next (s.runRemote q 7 env)

/-- Take the head off a tier queue: answers to its requests are discarded from now on. -/
def State.popTier (s : State) (q : Fin 5) : State :=
  s.updTier fun t =>
    { t with queues := t.queues.set q (t.queues[q].drop 1),
             remote := t.remote.filterMap fun r =>
               if r.q ≠ q then some r else if r.pos = 0 then none else some { r with pos := r.pos - 1 } }

/-- TIER_DESC_COMPLETE: the oldest descriptor of a queue that has ended completes, in queue order (R208, R209). -/
def execTierDescComplete (q : Fin 5) (s : State) : Host.Outcome State Fault Refusal :=
  let s := s.refuseBad q
  .next (match s.tier.queues[q] with
    | [] => s
    | d :: _ =>
      match d.result with
      | none => s
      | some st => (s.popTier q).tierComplete q d st)

/-- The reply to a remote request: nothing is sent when there is no path (R350). -/
def State.replyRemote (s : State) (dst : Pcn) (part : BitVec 12) (kind : Nat) (msgs : List (List Byte)) : State :=
  (s.sendEng vc2 false dst.toNat part.toNat (remoteEng kind) msgs).getD s

/-- READ_REQ at the target, R213, R214. -/
def execReadReq (src : Pcn) (part : BitVec 12) (addr : Dword) (tag : BitVec 16) (side : Bool) (link : LinkRead) (s : State) :
    Host.Outcome State Fault Refusal :=
  let a := addr.toNat
  let no (st : Status) (s : State) : State :=
    s.replyRemote src part 2 [List.replicate 32 0 ++ leBytes 2 tag.toNat ++ leBytes 1 st.code]
  .next (match s.remoteCheck part.toNat a false with
    | .ok =>
      let (data, bad, s) := s.readDramOver link a 4096
      let (rec, bad2, s) := if side then s.readDram (sideStore + 32 * (a / 4096)) 32 else (List.replicate 32 0, false, s)
      if bad || bad2 then no .eccFatal s
      else s.replyRemote src part 2 ((rec ++ leBytes 2 tag.toNat ++ leBytes 1 0) ::
        (List.range 16).map fun j => slice data (256 * j) 256)
    | st => no st s)

/-- READ_DATA at the requester, R215: a tile is written after its check (R200). -/
def execReadData (part : BitVec 12) (tag : BitVec 16) (status : Status) (side data : List Byte) (s : State) :
    Host.Outcome State Fault Refusal :=
  .next (match s.remoteOf part tag false with
    | none => s
    | some r =>
      if status ≠ .ok then s.failRemote r status
      else
        match s.tier.queues[r.q][r.pos]? with
        | none => s.dropRemote tag
        | some d =>
          if d.result.isSome then s.dropRemote tag
          else
            let bs := slice data 0 4096
            match d.newSide r.tile bs (slice side 0 32) with
            | none => (s.crcFail d).failRemote r .eccFatal
            | some ns => (s.writeTile d d.dstt (d.dst + 4096 * r.tile) r.tile bs ns).doneRemote r)

/-- WRITE_DATA at the target, R213, R214. -/
def execWriteData (src : Pcn) (part : BitVec 12) (addr : Dword) (tag : BitVec 16) (side data : List Byte) (s : State) :
    Host.Outcome State Fault Refusal :=
  let a := addr.toNat
  let bs := slice data 0 4096
  let rec32 := slice side 0 32
  let ack (st : Status) (s : State) : State :=
    s.replyRemote src part 4 [List.replicate 32 0 ++ leBytes 2 tag.toNat ++ leBytes 1 st.code]
  .next (match s.remoteCheck part.toNat a true with
    | .ok =>
      if sideOk bs rec32 then ack .ok ((s.writeDram a bs).writeDram (sideStore + 32 * (a / 4096)) rec32)
      else ack .eccFatal ((s.add Page.tier TIER_CRC_ERR_COUNT 1).raise Page.tier Ev.CRC_FAIL)
    | st => ack st s)

/-- WRITE_ACK at the requester, R215. -/
def execWriteAck (part : BitVec 12) (tag : BitVec 16) (status : Status) (s : State) : Host.Outcome State Fault Refusal :=
  .next (match s.remoteOf part tag true with
    | none => s
    | some r => if status = .ok then s.doneRemote r else s.failRemote r status)

/-- REMOTE_TIMEOUT, R215: no answer within 100 µs. -/
def execRemoteTimeout (tag : BitVec 16) (s : State) : Host.Outcome State Fault Refusal :=
  .next (match s.tier.remote.find? (fun r => r.tag == tag) with
    | none => s
    | some r => s.failRemote r .timeout)

/-! Shadow entries and namespaces. -/

/-- The pages of a shadow entry. -/
def State.shadowPages (s : State) (e : Nat) : List Nat :=
  (List.range (s.getI Page.tier e TIER_SH_PAGES_PAGES)).map fun i => s.getI Page.tier e TIER_SH_DRAM_BASE + i

/-- Dirty pages of a shadow entry (TIER_SH_STATE.DIRTY). -/
def State.shadowDirty (s : State) (e : Nat) : Nat :=
  if s.getI Page.tier e TIER_SH_STATE_STATE = 0 then 0
  else (s.tier.dirty.filter fun p => decide (s.getI Page.tier e TIER_SH_DRAM_BASE ≤ p) &&
    decide (p < s.getI Page.tier e TIER_SH_DRAM_BASE + s.getI Page.tier e TIER_SH_PAGES_PAGES)).length

/-- The checks of a shadow COMMIT (R216; R238 for a release in READ_ONLY_PRESERVE). -/
def State.shadowCheck (s : State) (e base pages ns lba : Nat) : Status :=
  let st := s.getI Page.tier e TIER_SH_STATE_STATE
  if dramGeneral < (base + pages) * 65536 ∨ lba % 16 ≠ 0 ∨ (s.nsInfo ns).len < lba + 16 * pages ∨
      (List.range 16).any (fun x => x != e && s.getI Page.tier x TIER_SH_STATE_STATE == 1 &&
        decide (base < s.getI Page.tier x TIER_SH_DRAM_BASE + s.getI Page.tier x TIER_SH_PAGES_PAGES) &&
        decide (s.getI Page.tier x TIER_SH_DRAM_BASE < base + pages)) then .mismatch
  else if st = 2 ∨ (st = 1 ∧ pages ≠ 0) then .busy
  else if st = 1 ∧ s.shelfRo then .readOnly
  else .ok

/-- An accepted shadow COMMIT: a page count of 0 releases an ACTIVE entry, which keeps its range until it is FREE (R216,
R221); the dirty bits stay as they are. -/
def State.shadowApply (s : State) (e base pages ns lba : Nat) : State :=
  if s.getI Page.tier e TIER_SH_STATE_STATE = 1 then s.setI Page.tier e TIER_SH_STATE_STATE 2
  else
    let s := (s.setI Page.tier e TIER_SH_DRAM_BASE base).setI Page.tier e TIER_SH_PAGES_PAGES pages
    let s := (s.setI Page.tier e TIER_SH_NS_NSID ns).setI Page.tier e TIER_SH_LBA_LBA lba
    if pages = 0 then s else s.setI Page.tier e TIER_SH_STATE_STATE 1

/-- SHADOW_RELEASED: the pages of a RELEASING entry are written back; with no bit left set the entry is FREE (R221). -/
def execShadowReleased (entry : Fin 16) (s : State) : Host.Outcome State Fault Refusal :=
  let e := entry.1
  .next (if s.getI Page.tier e TIER_SH_STATE_STATE = 2 ∧ s.inReset Page.tier = false then
      let s := eachOf (s.shadowPages e) (fun p s => (s.cleanPage (s.shadowsOf p) p (16 * p) ⟨[], [], []⟩).2) s
      if s.shadowDirty e = 0 then (s.setI Page.tier e TIER_SH_STATE_STATE 0).setI Page.tier e TIER_SH_PAGES_PAGES 0 else s
    else s)

/-- NS_UNMAP_DONE: CLEARING clears (R228). The blocks read as unmapped from the COMMIT on. -/
def execNsUnmapDone (ns : Fin 64) (s : State) : Host.Outcome State Fault Refusal :=
  .next (s.setI Page.shelf ns.1 SHELF_NS_STATE_CLEARING 0)

/-! The flash translation layer at work. -/

/-- The block of a list that is best by a key, the first of equals. -/
def bestBlk (better : NandBlk → NandBlk → Bool) : List NandBlk → Option NandBlk
  | [] => none
  | b :: r => some (r.foldl (fun m x => if better x m then x else m) b)

/-- Level the wear: when erase counts spread by more than 200, the data of the least-erased block that holds any moves into the
most-erased one (R231). A block never used counts with none. -/
def State.levelWear (s : State) : State :=
  let l := s.tier.nand
  let hot := bestBlk (fun x m => decide (m.erases < x.erases)) l
  let cold := bestBlk (fun x m => decide (x.erases < m.erases)) (l.filter fun b => !b.lbas.isEmpty)
  let least := if l.length + s.get Page.shelf SHELF_RETIRED_BLOCKS < rawBlks then 0 else l.foldl (fun m b => min m b.erases) (2 ^ 32)
  match hot, cold with
  | some h, some c => if 200 < h.erases - least ∧ c.id ≠ h.id then s.setNand (swapCold l c.id h.id) else s
  | _, _ => s

/-- GARBAGE_COLLECT: of the blocks programmed since their erase, the one with the fewest valid pages is reclaimed, and wear is
levelled (R231). -/
def execGarbageCollect (s : State) : Host.Outcome State Fault Refusal :=
  .next (if s.shelfRo || s.inReset Page.shelf then s
    else
      let s := s.commitBuffer
      match bestBlk (fun x m => decide (x.lbas.length < m.lbas.length)) (s.tier.nand.filter fun b => decide (0 < b.used)) with
      | some b => (s.setNand (moveBlk s.tier.nand b.id [])).levelWear
      | none => s.levelWear)

/-- PATROL_READ: a block whose worst codeword uses more than 75% of the correction capability, or that has been read 100,000
times, is relocated; the logical blocks of `bad` stayed uncorrectable after their retries (R232, R233). -/
def execPatrolRead (blk ldpcPercent : Nat) (bad : List Nat) (s : State) : Host.Outcome State Fault Refusal :=
  .next (if s.inReset Page.shelf then s
    else
      let s := s.updTier fun t =>
        { t with nand := t.nand.map fun b => if b.id = blk then { b with reads := b.reads + 1 } else b }
      let s := eachOf ((validPages s.tier.nand blk).filter fun p => bad.contains p) (fun p s => s.mediaUe p) s
      let s := if (75 < ldpcPercent ∨ !bad.isEmpty) ∧ s.tier.nand.any (fun b => b.id == blk) then s.relocate blk else s
      s.disturbed)

/-- BLOCK_RETIRED: pages of the block that the write buffer still keeps go back to it, to be programmed elsewhere; the others are
moved, and a spare is used (R234-R237). -/
def State.retire (s : State) (blk progUs : Nat) : State :=
  let s := s.updTier fun t =>
    let back := (validPages t.nand blk).filter t.prog.contains
    let nand := t.nand.map fun b => if b.id = blk then { b with lbas := b.lbas.filter fun p => !back.contains p } else b
    { t with nand := (moveBlk nand blk []).filter (fun b => b.id != blk), prog := t.prog.filter (fun p => !back.contains p),
             wbuf := back.foldl insertNat t.wbuf }
  let s := (s.add Page.shelf SHELF_RETIRED_BLOCKS 1).progTime progUs
  (s.raise Page.shelf Ev.BLOCK_RETIRED).loseSpare.updateWear

end Sys2Proof.Machine
end

