-- ==== Sys2Proof/Machine/Spin.lean ====
section
/-!
DEFINITION. Spin (08_spin.md): entropy sources, lanes of xoshiro256** with jump-ahead, seeding, saving and restoring, and
the distributions of RAND.
-/
namespace Sys2Proof.Machine

open Reg

/-- The output of a lane's next step (R284). -/
def Lane.out (l : Lane) : Dword := (l.s1 * 5).rotateLeft 7 * 9

/-- One step of a lane (R284). -/
def Lane.step (l : Lane) : Lane :=
  let t := l.s1 <<< 17
  let s2 := l.s2 ^^^ l.s0
  let s3 := l.s3 ^^^ l.s1
  ⟨l.s0 ^^^ s3, l.s1 ^^^ s2, s2 ^^^ t, s3.rotateLeft 45⟩

def Lane.xor (a b : Lane) : Lane := ⟨a.s0 ^^^ b.s0, a.s1 ^^^ b.s1, a.s2 ^^^ b.s2, a.s3 ^^^ b.s3⟩

def Lane.zero : Lane := ⟨0, 0, 0, 0⟩

/-- Apply a jump polynomial, bit `b` onward (R289). -/
def jumpFrom (j : Nat) : (fuel b : Nat) → (s acc : Lane) → Lane
  | 0, _, _, acc => acc
  | fuel + 1, b, s, acc => jumpFrom j fuel (b + 1) s.step (if j.testBit b then acc.xor s else acc)

/-- Apply a jump polynomial to a lane state (R289). -/
def Lane.jump (s : Lane) (j : Nat) : Lane := jumpFrom j 256 0 s Lane.zero

/-- The state of logical lane g from a base state (R288). -/
def laneState (base : Lane) (g : Nat) : Lane :=
  (List.range 23).foldl (fun s j => if g.testBit j then s.jump (jumpRom.getD j 0) else s) base

/-- One output of SplitMix64 for its advanced counter (R291). -/
def splitMix (x : Dword) : Dword :=
  let z := (x ^^^ (x >>> 30)) * 0xBF58476D1CE4E5B9#64
  let z := (z ^^^ (z >>> 27)) * 0x94D049BB133111EB#64
  z ^^^ (z >>> 31)

/-- The base state of a seed (R291). -/
def baseState (seed : Dword) : Lane :=
  let k := 0x9E3779B97F4A7C15#64
  ⟨splitMix (seed + k), splitMix (seed + 2 * k), splitMix (seed + 3 * k), splitMix (seed + 4 * k)⟩

/-- The lanes of a core of partition rank r (R287). -/
def seededLanes (seed : Dword) (rank : Nat) : List (Nat × Lane) :=
  let b := baseState seed
  (List.range 512).map fun i => (i, laneState b (512 * rank + i))

/-- Whether a core has a seeded lane. -/
def Core.seeded (k : Core) : Bool := !k.lanes.isEmpty
/-- Whether every lane of a core is seeded. -/
def Core.allSeeded (k : Core) : Bool := k.lanes.length == 512

/-- Draw from lane i: the output and the lanes after the step; none from an UNSEEDED lane (R285, R286). -/
def drawLane (l : List (Nat × Lane)) (i : Nat) : Option (Dword × List (Nat × Lane)) :=
  (assocGet l i).map fun x => (x.out, assocSet l i x.step)

/-! Distributions, R296-R298. -/

/-- n × 2^-k in FP32; exact in every use. -/
def fraction (n k : Nat) : Word := FV.word (.fin false n (-(k : Int)))

/-- FP32 in [0,1) and in (0,1] (R296 modes 1 and 2). -/
def uniform01 (o : Dword) : Word := fraction (bits o.toNat 63 40) 24
def uniform10 (o : Dword) : Word := fraction (bits o.toNat 63 40 + 1) 24

/-- a = sqrt (-2 ln u1) and c = cos (2 pi u2) for u1 = n × 2^-24 and u2 = n × 2^-24, each within 1 ulp (R297; log 11). -/
def spinRadius (n : Nat) : Word := nearRoot (2 * -lnFixed n (-24)).toNat (Config.spinRadiusPick (fraction n 24))
def spinCos (n : Nat) : Word := nearFixed (cosTurn n 24) (Config.spinCosPick (fraction n 24))

/-- A normal value by TRANSFORM (R297). -/
def normalTransform (o : Dword) : Word := fmul (spinRadius (bits o.toNat 63 40 + 1)) (spinCos (bits o.toNat 31 8))

/-- A normal value by TABLE (R298). -/
def normalTable (o : Dword) : Word :=
  let u := bits o.toNat 63 40
  let k := u / 4096
  ffma (fraction (u % 4096) 12) (fsub (phiTable (k + 1)) (phiTable k)) (phiTable k)

/-- The value of a RAND mode from a draw (R296); none for an unassigned mode. -/
def randValue (mode : Nat) (o : Dword) : Option Word :=
  match mode with
  | 0 => some (BitVec.ofNat 32 (bits o.toNat 63 32))
  | 1 => some (uniform01 o)
  | 2 => some (uniform10 o)
  | 3 =>
    let h (n : Nat) : Nat := FV.half (.fin false n (-8))
    some (BitVec.ofNat 32 (h (bits o.toNat 63 56) + 65536 * h (bits o.toNat 55 48)))
  | 4 => some (normalTransform o)
  | 5 => some (normalTable o)
  | _ => none

/-! Images, R295. -/

def Lane.bytes (l : Lane) : List Byte := leBytes 8 l.s0.toNat ++ leBytes 8 l.s1.toNat ++ leBytes 8 l.s2.toNat ++ leBytes 8 l.s3.toNat

/-- The 16 KiB image of a core's lanes; an UNSEEDED lane is zeros. -/
def laneImage (lanes : List (Nat × Lane)) : List Byte :=
  (List.range 512).flatMap fun i => ((assocGet lanes i).getD Lane.zero).bytes

/-- The lanes that an image holds; an all-zero lane is UNSEEDED. -/
def lanesOfImage (l : List Byte) : List (Nat × Lane) :=
  (List.range 512).filterMap fun i =>
    let w (j : Nat) : Dword := BitVec.ofNat 64 (field l (32 * i + 8 * j) 8)
    let x : Lane := ⟨w 0, w 1, w 2, w 3⟩
    if x = Lane.zero then none else some (i, x)

/-- Load a core's lanes, as RESTORE and the return from an eviction do: SPIN_ISSUEn is cleared (R295). -/
def State.loadLanes (s : State) (c : CoreId) (lanes : List (Nat × Lane)) : State :=
  (s.updCore c fun k => { k with lanes := lanes }).set Page.spin (SPIN_ISSUE_COUNT.nth c.1) 0

/-! Sources, R279-R283. -/

/-- Whether some source is healthy. -/
def State.entropy (s : State) : Bool := s.spin.sources.toList.any (·.healthy)

/-- A raw bit goes through the tests: 26 identical bits in a row fail the repetition count, 665 of the window's first bit fail the
adaptive proportion (R280; log 112). -/
def Health.take (h : Health) (b : Bool) : Health × Option HealthTest :=
  let run := if h.last = some b then h.run + 1 else 1
  let first := if h.seen = 0 then b else h.first
  let hits := if h.seen = 0 then 1 else h.hits + (b == h.first).toNat
  let h' : Health := ⟨some b, run, first, (h.seen + 1) % 1024, hits, h.total + 1⟩
  (h', if 26 ≤ run then some .repetition else if 665 ≤ hits then some .proportion else none)

/-- Spin once a source has failed a test: its bits in the conditioner's block are discarded, a second failure turns it off, and
`lost` says whether the last healthy source has been lost (R281-R283). -/
def Spin.failed (p : Spin) (src : Fin 8) : Spin :=
  let x := p.sources[src]
  let sources := p.sources.set src ⟨false, false, decide (1 ≤ x.fails), x.fails + 1, Health.fresh⟩
  { p with
    sources := sources
    block := p.block.filter fun b => b.1 != src
    lost := p.lost || (x.healthy && !sources.toList.any (·.healthy)) }

/-- An event of Spin, when there is one. -/
def State.spinEvent (s : State) (on : Bool) (e : Ev) : State := if on then s.raise Page.spin e else s

/-- A source fails a test, which is counted and logged; the loss of the last healthy source is logged once (R281-R283). -/
def State.sourceFails (s : State) (src : Fin 8) (test : HealthTest) : State :=
  let was := s.spin
  let counter := match test with
    | .repetition => SPIN_RCT_FAIL_COUNT
    | .proportion => SPIN_APT_FAIL_COUNT
  let s := ((s.add Page.spin counter 1).updSpin (·.failed src)).spinEvent true Ev.SOURCE_FAIL
  (s.spinEvent s.spin.sources[src].off Ev.SOURCE_OFF).spinEvent (s.spin.lost && !was.lost) Ev.ENTROPY_LOST

/-- The start-up test of a source passes, and it is healthy; a loss of entropy may be logged again (R280, R283). -/
def State.sourcePasses (s : State) (src : Fin 8) : State :=
  s.updSpin fun p => { p with sources := p.sources.set src { p.sources[src] with healthy := true, testing := false }, lost := false }

/-- A raw bit of a source that runs or starts up is tested; the start-up test passes with 1,024 bits (R280, R281). -/
def State.rawBit (s : State) (src : Fin 8) (b : Bool) : State :=
  let x := s.spin.sources[src]
  if !x.healthy && !x.testing then s
  else
    match x.health.take b with
    | (_, some test) => s.sourceFails src test
    | (h, none) =>
      let s := s.updSpin fun p => { p with sources := p.sources.set src { x with health := h } }
      if x.testing && decide (1024 ≤ h.total) then s.sourcePasses src else s

/-- Raw bits of a source, the first first. -/
def State.rawBits (s : State) (src : Fin 8) (l : List Bool) : State := eachOf l (fun b s => s.rawBit src b) s

/-- The raw bits of one PCLK, bit e that of source Ee: each is tested, and one of a source still healthy goes into the conditioner's
block, from the lowest-numbered source upward, until it has 640 (R279, R282; log 112). -/
def State.rawRow (s : State) (row : Byte) : State :=
  eachOf (List.finRange 8) (fun e s =>
    let b := row.getLsbD e.1
    let was := s.spin.sources[e].healthy
    let s := s.rawBit e b
    if was && s.spin.sources[e].healthy && decide (s.spin.block.length < 640) then
      s.updSpin fun p => { p with block := p.block ++ [(e, b)] }
    else s) s

/-- The conditioner's block takes the raw bits of successive PCLK until it is complete (R282). -/
def State.fillBlock : List Byte → State → State
  | [], s => s
  | row :: rest, s => if 640 ≤ s.spin.block.length then s else State.fillBlock rest (s.rawRow row)

/-- The 80-byte message of a block: the k-th bit taken is bit 7 - (k mod 8) of byte k div 8 (R282). -/
def blockBytes (l : List Bool) : List Byte :=
  (List.range 80).map fun i => BitVec.ofNat 8 (((List.range 8).map fun j => (l.getD (8 * i + j) false).toNat * 2 ^ (7 - j)).sum)

/-- The conditioner's output of a complete block (R282). -/
def State.conditioned (s : State) : Option (List Byte) :=
  if s.spin.block.length = 640 then some (sha256 (blockBytes (s.spin.block.map (·.2)))) else none

/-- The next block begins empty. -/
def State.emptyBlock (s : State) : State := s.updSpin fun p => { p with block := [] }

/-- SOURCE_FAIL: the raw bits of a source up to those that fail a health test (R281, R283). -/
def execSourceFail (src : Fin 8) (raw : List Bool) (s : State) : Host.Outcome State Fault Refusal := .next (s.rawBits src raw)

/-- SOURCE_RESTART: 1 s after its failure a source that is not off begins its start-up test (R281). -/
def execSourceRestart (src : Fin 8) (s : State) : Host.Outcome State Fault Refusal :=
  let x := s.spin.sources[src]
  .next (if x.off || x.healthy then s
    else s.updSpin fun p => { p with sources := p.sources.set src { x with testing := true, health := Health.fresh } })

/-- SOURCE_STARTUP_PASS: the raw bits with which a source that starts up passes its test (R280, R283). -/
def execSourceStartupPass (src : Fin 8) (raw : List Bool) (s : State) : Host.Outcome State Fault Refusal :=
  .next (if s.spin.sources[src].testing then s.rawBits src raw else s)

/-- Every source that is not off starts its start-up test: at a warm reset, and at a cold reset with its failures forgotten
(R281). -/
def State.restartSources (s : State) (cold : Bool) : State :=
  s.updSpin fun p =>
    { p with block := [], sources := p.sources.map fun x =>
        if cold then ⟨false, true, false, 0, Health.fresh⟩ else ⟨false, !x.off, x.off, x.fails, Health.fresh⟩ }

/-! The SPIN page, R302. -/

/-- A SPIN COMMIT's operands, as the staged group has them. -/
structure SpinReq where
  part   : Nat
  action : Nat
  source : Nat
  core   : CoreId
  addr   : Nat
  deriving DecidableEq, Repr

/-- The cores that a SPIN request acts on. -/
def State.spinTargets (s : State) (r : SpinReq) : List CoreId := if r.action = 1 then s.coresOfPart r.part else [r.core]

/-- The checks of a SPIN COMMIT (R302). -/
def State.spinCheck (s : State) (r : SpinReq) : Status :=
  if r.action = 0 ∨ (r.source = 1 ∧ r.action ≠ 1) then .mismatch
  else if r.action = 1 ∧ (s.coresOfPart r.part).isEmpty then .param
  else if r.action ≠ 1 ∧ (r.addr % 4096 ≠ 0 ∨ dramGeneral < r.addr + 16384) then .param
  else if (s.spinTargets r).any (fun c => (s.core c).st == .running || (s.core c).st == .waiting) ∨
      s.spin.action.isSome then .busy
  else if r.action = 1 ∧ r.source = 1 ∧ s.entropy = false then .notReady
  else if r.action = 2 ∧ (s.core r.core).seeded = false then .notReady
  else .ok

/-- An accepted SPIN COMMIT starts its action, with each target's rank at the request (R292). -/
def State.spinStart (s : State) (r : SpinReq) : State :=
  (s.emptyBlock.updSpin fun p => { p with action := some (BitVec.ofNat 2 r.action, (s.spinTargets r).map fun c => (c, s.rankOf c)) }).set
    Page.spin SPIN_STATUS_BUSY 1

/-- Seed cores from a seed: lanes, SPIN_ISSUEn, SPIN_SEED_USED and SEEDED (R292-R294). -/
def State.seedCores (s : State) (targets : List (CoreId × Nat)) (seed : Dword) : State :=
  let s := eachOf targets (fun t s => s.loadLanes t.1 (seededLanes seed t.2)) s
  let s := (s.set Page.spin SPIN_SEED_USED_LO_SEED seed.toNat).set Page.spin SPIN_SEED_USED_HI_SEED (seed.toNat / 2 ^ 32)
  s.raise Page.spin Ev.SEEDED byBlock (arg (s.get Page.spin SPIN_PART_PART) ++ arg64 seed.toNat)

/-- Where the address of a SAVE or RESTORE stands. -/
def State.spinAddr (s : State) : Nat := s.pair Page.spin 0 SPIN_ADDR_LO_ADDR SPIN_ADDR_HI_ADDR

/-- The action in progress ends with a status. -/
def State.spinDone (s : State) (st : Status) : State :=
  ((s.emptyBlock.updSpin fun p => { p with action := none }).set Page.spin SPIN_STATUS_BUSY 0).setStatus Page.spin SPIN_STATUS_STATUS st

/-- An entropy SEED takes raw bits until its block is complete; with no healthy source left it ends NOT_READY, and it goes on when
the bits do not suffice (R282, R283, R292). -/
def State.seedEntropy (s : State) (targets : List (CoreId × Nat)) (raw : List Byte) : State :=
  let s := if s.entropy then State.fillBlock raw s else s
  match s.conditioned with
  | some d => (s.seedCores targets (BitVec.ofNat 64 (field d 0 8))).spinDone .ok
  | none => if s.entropy then s else s.spinDone .notReady

/-- SPIN_ACTION_DONE: the action in progress takes place and reports its status; `raw` are the sources' bits of successive PCLK, and
`link` is how a RESTORE's read crossed the DRAM link (R283, R292-R295). -/
def execSpinActionDone (raw : List Byte) (link : LinkRead) (s : State) : Host.Outcome State Fault Refusal :=
  .next (match s.spin.action with
    | none => s
    | some (act, targets) =>
      if act = 1 then
        if s.flag Page.spin SPIN_CTRL_SOURCE then s.seedEntropy targets raw
        else (s.seedCores targets (BitVec.ofNat 64 (s.pair Page.spin 0 SPIN_SEED_LO_SEED SPIN_SEED_HI_SEED))).spinDone .ok
      else
        match targets with
        | (c, _) :: _ =>
          if act = 2 then (s.writeDram s.spinAddr (laneImage (s.core c).lanes)).spinDone .ok
          else
            let (bs, bad, s) := s.readDramOver link s.spinAddr 16384
            if bad then s.spinDone .eccFatal else (s.loadLanes c (lanesOfImage bs)).spinDone .ok
        | [] => s.spinDone .ok)

end Sys2Proof.Machine
end

