-- ==== Sys2Proof/Machine/Scale.lean ====
section
/-!
DEFINITION. The scale unit and the optimizer engine (07_numerics.md R258-R278).
-/
namespace Sys2Proof.Machine

open Reg

/-! The scale unit. -/

def State.scaleValid (s : State) (c : CoreId) (slot : Nat) : Bool := s.getI Page.scale (scaleIdx c slot) SCALE_CFG_VALID != 0

/-- History length of a LEN code, R275. -/
def histLen (code : Nat) : Nat :=
  match code with
  | 0 => 1 | 1 => 4 | 2 => 16 | 3 => 64 | _ => 256

/-- The history of a slot, newest entry first; an entry never written is 0 (R263). -/
def State.history (s : State) (c : CoreId) (slot : Nat) : List Word :=
  match s.scale.find? (fun h => h.core == c && h.slot == slot) with
  | some h => h.hist
  | none => []

/-- History entries in use on a core (R259; SCALE_HIST_USED). -/
def State.histUsed (s : State) (c : CoreId) : Nat :=
  ((List.range 256).map fun i =>
    if s.scaleValid c i then histLen (s.getI Page.scale (scaleIdx c i) SCALE_CFG_LEN) else 0).sum

/-- The largest finite magnitude of FP32 values, and how many are not finite (R260). -/
def amaxOf (l : List Word) : Word × Nat :=
  l.foldl (fun r x => if isFin x then (if flt r.1 (fabs x) then fabs x else r.1, r.2) else (r.1, r.2 + 1)) (0, 0)

/-- The largest finite value of a slot's format, R261. -/
def EFmtMax (code : Nat) : Word :=
  match EFmt.ofCode code with
  | some f =>
    match f.float with
    | some g => (g.decode g.maxCode).word
    | none => (FV.ofInt 127).word
  | none => 0

/-- A value rounded up to a power of two. -/
def ceilPow2 (x : Word) : Word :=
  match FV.of x with
  | .fin false m e =>
    if m = 0 then x
    else if m = 2 ^ Nat.log2 m then x else (FV.fin false 1 (e + Nat.log2 m + 1)).word
  | _ => x

/-- SCUPD: the pending amax enters the history; the new scale, when M is above 0 (R261). -/
def State.scaleUpdate (s : State) (c : CoreId) (slot : Nat) : Option Word × State :=
  let i := scaleIdx c slot
  let len := histLen (s.getI Page.scale i SCALE_CFG_LEN)
  let h := (BitVec.ofNat 32 (s.getI Page.scale i SCALE_PENDING_AMAX) :: s.history c slot).take len
  let s := { s with scale := s.scale.filter (fun (x : ScaleHist) => !(x.core == c && x.slot == slot)) ++ [ScaleHist.mk c slot h] }
  let s := s.setI Page.scale i SCALE_PENDING_AMAX 0
  let M := h.foldl (fun m x => if flt m x then x else m) 0
  if flt 0 M then
    let margin : Int := (BitVec.ofNat 4 (s.getI Page.scale i SCALE_CFG_MARGIN)).toInt
    let x := fmul (fdiv M (EFmtMax (s.getI Page.scale i SCALE_CFG_FMT))) (FV.fin false 1 (-margin)).word
    (some (if s.getI Page.scale i SCALE_CFG_POW2 = 1 then ceilPow2 x else x), s)
  else (none, s)

/-- The scale of a slot. -/
def State.scaleOf (s : State) (c : CoreId) (slot : Nat) : Word := BitVec.ofNat 32 (s.getI Page.scale (scaleIdx c slot) SCALE_VALUE_SCALE)

/-- Saturated conversions of one operation: counted, and logged once (R249, R278). -/
def State.saturated (s : State) (c : CoreId) (n : Nat) : State :=
  if n = 0 then s else (s.add Page.scale (SCALE_SAT_COUNT.nth c.1) n).raise Page.scale Ev.SATURATED (byCore c)

/-- The checks of a SCALE COMMIT for the selected slot (R275). -/
def State.scaleCheck (s : State) (c : CoreId) (slot len fmt pow2 valid : Nat) : Status :=
  let used := s.histUsed c
  let own := if s.scaleValid c slot then histLen (s.getI Page.scale (scaleIdx c slot) SCALE_CFG_LEN) else 0
  if 4 < len ∨ 8 < fmt ∨ (fmt = 8 ∧ pow2 = 0) then .mismatch
  else if (s.core c).st = .running ∨ (s.core c).st = .waiting then .busy
  else if 16384 < used - own + (if valid = 1 then histLen len else 0) then .noSpace
  else .ok

/-- An accepted SCALE COMMIT: history and pending amax 0, scale 1.0, non-finite count 0 (R263). -/
def State.scaleApply (s : State) (c : CoreId) (slot : Nat) (cfg : Word) : State :=
  let i := scaleIdx c slot
  let s := s.setWord Page.scale i SCALE_CFG_LEN.off cfg
  let s := ((s.setI Page.scale i SCALE_PENDING_AMAX 0).setI Page.scale i SCALE_VALUE_SCALE 0x3F800000).setI Page.scale i
    SCALE_NONFINITE_COUNT 0
  { s with scale := s.scale.filter fun (x : ScaleHist) => !(x.core == c && x.slot == slot) }

/-! The optimizer engine. -/

/-- A hyperparameter set, R276. -/
structure Hyper where
  lr     : Word
  beta1  : Word
  beta2  : Word
  eps    : Word
  wd     : Word
  gmul   : Word
  pair   : Bool
  out    : Nat
  sr     : Bool
  slot   : Nat
  valid  : Bool
  deriving DecidableEq, Repr

def State.hyper (s : State) (set : Nat) : Hyper :=
  let g (f : Fld) : Word := BitVec.ofNat 32 (s.getI Page.optim set f)
  { lr := g OPTIM_LR_LR, beta1 := g OPTIM_BETA1_BETA1, beta2 := g OPTIM_BETA2_BETA2, eps := g OPTIM_EPS_EPS,
    wd := g OPTIM_WD_WD, gmul := g OPTIM_GRAD_MUL_GRAD_MUL, pair := s.getI Page.optim set OPTIM_MODE_MASTER == 1,
    out := s.getI Page.optim set OPTIM_MODE_OUT, sr := s.getI Page.optim set OPTIM_MODE_SR == 1,
    slot := s.getI Page.optim set OPTIM_MODE_SCALE_SLOT, valid := s.getI Page.optim set OPTIM_MODE_VALID == 1 }

/-- The checks of an OPTIM COMMIT (R276). -/
def optimCheck (h : Hyper) : Status :=
  let one : Word := 0x3F800000
  let beta (b : Word) : Bool := isFin b && !(flt b 0) && flt b one
  let nonneg (x : Word) : Bool := isFin x && !(flt x 0)
  if !(beta h.beta1 && beta h.beta2 && nonneg h.lr && nonneg h.wd && nonneg h.gmul && isFin h.eps && flt 0 h.eps) ∨
      h.out = 3 ∨ (h.sr ∧ h.out = 0) then .mismatch
  else .ok

/-- The element `j` of 4-byte words of a row from offset `o`. -/
def rowWord (row : List Byte) (o j : Nat) : Word := BitVec.ofNat 32 (field row (o + 4 * j) 4)

/-- The gradients g of a row: grad × grad_mul (R268). -/
def rowGrads (h : Hyper) (row : List Byte) : List Word := (List.range 128).map fun j => fmul (rowWord row 0 j) h.gmul

/-- The master weight of an element (R264, R265). -/
def rowMaster (h : Hyper) (row : List Byte) (j : Nat) : Word :=
  if h.pair then BitVec.ofNat 32 (field row (512 + 2 * j) 2 * 65536 + field row (768 + 2 * j) 2) else rowWord row 512 j

/-- A first-moment code (R266); code -128 reads as -127. -/
def decodeM (s : Word) (code : Byte) : Word :=
  let i := max code.toInt (-127)
  let q := fdiv (FV.ofInt i.natAbs).word (FV.ofInt 127).word
  let x := fmul (fmul q q) s
  if i < 0 then fneg x else x

/-- A second-moment code: r = s × u / 255, v = r^2 (R266). -/
def decodeV (s : Word) (code : Byte) : Word :=
  let r := fdiv (fmul s (FV.ofInt code.toNat).word) (FV.ofInt 255).word
  fmul r r

/-- The block scale of moments: the largest magnitude (R267); with a NaN among them it is the value of log 21. -/
def momentScaleOf (l : List Word) : Word :=
  if l.any isNan then Config.momentScale l
  else l.foldl (fun m x => if flt m (fabs x) then fabs x else m) 0

/-- round(x) of a code's magnitude, at most `top`. -/
def codeMag (x : Word) (top : Nat) : Option Nat :=
  match FV.of x with
  | .fin _ m e => some (min top (rne m e))
  | _ => none

/-- The code of a first moment (R267); with a ratio that is not finite it is the value of log 21, never -128. -/
def encodeM (s m : Word) : Byte :=
  if fabs s = 0 then 0
  else
    match codeMag (fmul (FV.ofInt 127).word (fsqrt (fdiv (fabs m) s))) 127 with
    | some n => if m.getLsbD 31 then BitVec.ofInt 8 (-(n : Int)) else BitVec.ofNat 8 n
    | none => let c := Config.momentCode m s; if c = 0x80 then 0x81 else c

/-- The code of a second moment's root (R267). -/
def encodeV (s r : Word) : Byte :=
  if fabs s = 0 then 0
  else
    match codeMag (fdiv (fmul (FV.ofInt 255).word r) s) 255 with
    | some n => BitVec.ofNat 8 n
    | none => Config.momentCode r s

/-- One row after the update, without its output weights, and the new master weights (R268). -/
def optimRow (h : Hyper) (t : Nat) (row : List Byte) : List Byte × List Word :=
  let one : Word := 0x3F800000
  let c1 := fsub one (fpow h.beta1 t)
  let c2 := fsub one (fpow h.beta2 t)
  let sm := rowWord row 1280 0
  let sv := rowWord row 1284 0
  let upd := ((List.range 128).zip (rowGrads h row)).map fun p =>
    let j := p.1
    let g := p.2
    let m := ffma h.beta1 (decodeM sm (row.getD (1024 + j) 0)) (fmul (fsub one h.beta1) g)
    let v := ffma h.beta2 (decodeV sv (row.getD (1152 + j) 0)) (fmul (fsub one h.beta2) (fmul g g))
    let d := fdiv (fdiv m c1) (fadd (fsqrt (fdiv v c2)) h.eps)
    let w := rowMaster h row j
    (m, fsqrt v, ffma (fneg h.lr) (ffma h.wd w d) w)
  let ms := upd.map (·.1)
  let rs := upd.map (·.2.1)
  let ws := upd.map (·.2.2)
  let nm := momentScaleOf ms
  let nv := momentScaleOf rs
  let master := if h.pair then
      ws.flatMap (fun w => leBytes 2 (w.toNat / 65536)) ++ ws.flatMap (fun w => leBytes 2 (w.toNat % 65536))
    else wordBytes ws
  (row.take 512 ++ master ++ ms.map (encodeM nm) ++ rs.map (encodeV nv) ++ leBytes 4 nm.toNat ++ leBytes 4 nv.toNat ++
    row.drop 1288, ws)

/-- The output weights of a record in ascending element order, with the lanes after the draws of SR (R269): codes, counted
saturations, lanes. -/
def outWeights (h : Hyper) (scale : Word) : (ws : List Word) → (i : Nat) → List (Nat × Lane) → List Byte × Nat × List (Nat × Lane)
  | [], _, l => ([], 0, l)
  | w :: ws, i, l =>
    let f : EFmt := if h.out = 1 then .e4m3 else .e5m2
    let x := FV.of (fdiv w scale)
    let (c, l) : (Nat × Bool) × List (Nat × Lane) :=
      if h.sr then
        match drawLane l (i % 512) with
        | some (o, l) => (convertSr f x (BitVec.ofNat 32 (bits o.toNat 63 32)), l)
        | none => (convert f x, l)
      else (convert f x, l)
    let r := outWeights h scale ws (i + 1) l
    (BitVec.ofNat 8 c.1 :: r.1, r.2.1 + c.2.toNat, r.2.2)

/-- The result of an OPTIM (R268-R271). -/
inductive OptimRes where
  | rejected (nonfinite : Nat)
  | unseeded
  | done (rows : List (List Byte)) (saturated : Nat) (lanes : List (Nat × Lane)) (amax : Word × Nat)
  deriving DecidableEq, Repr

/-- OPTIM over a record's rows: non-finite gradients reject it (R270), an UNSEEDED lane stops it (R286). -/
def optimRecord (h : Hyper) (t : Nat) (scale : Word) (lanes : List (Nat × Lane)) (rows : List (List Byte)) : OptimRes :=
  let nf := (rows.map fun r => ((rowGrads h r).filter fun g => !isFin g).length).sum
  if nf ≠ 0 then .rejected nf
  else if h.sr ∧ (List.range (min 512 (128 * rows.length))).any (fun i => (assocGet lanes i).isNone) then .unseeded
  else
    let up := rows.map (optimRow h t)
    if h.out = 0 then .done (up.map (·.1)) 0 lanes (0, 0)
    else
      let ws := up.flatMap (·.2)
      let (codes, sat, lanes) := outWeights h scale ws 0 lanes
      let rows := ((List.range up.length).zip up).map fun p => patchBytes p.2.1 1344 (slice codes (128 * p.1) 128)
      .done rows sat lanes (amaxOf ws)

/-- A core saw non-finite gradients (R270). -/
def State.gradNonfinite (s : State) (c : CoreId) (n : Nat) : State :=
  let old := (s.get Page.optim OPTIM_NF_COUNT >>> (8 * c.1)) % 256
  let new := min 255 (old + n)
  let s := s.set Page.optim OPTIM_NF_COUNT (s.get Page.optim OPTIM_NF_COUNT + (new - old) * 2 ^ (8 * c.1))
  (s.set Page.optim OPTIM_STICKY_NF (s.get Page.optim OPTIM_STICKY_NF ||| 2 ^ c.1)).raise Page.optim Ev.NONFINITE_GRAD
    (byCore c)

end Sys2Proof.Machine
end

