-- ==== Sys2Proof/Machine/Mangle.lean ====
section
/-!
DEFINITION. Mangle (10_mangle.md): groups, chunks and their trees, messages between members, completion, deadlines and ABORT.
-/
namespace Sys2Proof.Machine

open Reg

/-! Groups and descriptors. -/

/-- A group, R357. -/
structure Grp where
  base   : Nat
  count  : Nat
  stride : Nat
  part   : Nat
  valid  : Bool
  deriving DecidableEq, Repr

/-- Group entries share the page with descriptors: group g has register index 256 + g. -/
def grpIdx (g : Nat) : Nat := 256 + g % 64

def State.grp (s : State) (g : Nat) : Grp :=
  let r (f : Fld) : Nat := s.getI Page.mangle (grpIdx g) f
  ⟨r MANGLE_G_BASE_BASE, r MANGLE_G_COUNT_COUNT, r MANGLE_G_STRIDE_STRIDE, r MANGLE_G_PART_PART,
    r MANGLE_G_PART_VALID != 0⟩

/-- The group rank of a core, when it is a member. -/
def State.grpRank (s : State) (g : Grp) (c : CoreId) : Option Nat :=
  let r := s.rankOf c
  if s.partOf c = some g.part ∧ g.base ≤ r ∧ (r - g.base) % g.stride = 0 ∧ (r - g.base) / g.stride < g.count then
    some ((r - g.base) / g.stride)
  else none

/-- The core of this chip that a group rank names. -/
def State.grpCore (s : State) (g : Grp) (rank : Nat) : Option CoreId :=
  allCores.find? fun c => s.grpRank g c == some rank

/-- A collective descriptor, R356, R387. -/
structure CollDesc where
  op       : Nat
  red      : Nat
  wide     : Bool
  ifmt     : Nat
  ofmt     : Nat
  grp      : Nat
  valid    : Bool
  count    : Nat
  root     : Nat
  deadline : Nat
  part     : Nat
  deriving DecidableEq, Repr

/-- A descriptor from its five words. -/
def CollDesc.of (opw countw rootw deadw partw : Word) : CollDesc :=
  { op := MANGLE_D_OP_OP.of opw, red := MANGLE_D_OP_RED.of opw, wide := MANGLE_D_OP_WIDE.of opw == 1,
    ifmt := MANGLE_D_OP_IFMT.of opw, ofmt := MANGLE_D_OP_OFMT.of opw, grp := MANGLE_D_OP_GROUP.of opw,
    valid := MANGLE_D_OP_VALID.of opw == 1, count := MANGLE_D_COUNT_COUNT.of countw, root := MANGLE_D_ROOT_ROOT.of rootw,
    deadline := deadw.toNat, part := MANGLE_D_PART_PART.of partw }

/-- The five committed words of a descriptor. -/
def State.descWords (s : State) (d : Nat) : List Word :=
  [0x044, 0x048, 0x04C, 0x050, 0x054].map fun o => s.word Page.mangle (d % 256) o

def State.collDesc (s : State) (d : Nat) : CollDesc :=
  let w := s.descWords d
  CollDesc.of (w.getD 0 0) (w.getD 1 0) (w.getD 2 0) (w.getD 3 0) (w.getD 4 0)

/-- The descriptor signature, R373. -/
def State.signature (s : State) (d : Nat) : Nat := crc16 (wordBytes (s.descWords d))

/-- Bytes of an element. -/
def elemSize (fmt : Nat) : Nat :=
  match fmt with
  | 0x8 => 2 | 0x9 => 4 | _ => 1

/-- The deadline in ticks, R374. -/
def CollDesc.ticks (d : CollDesc) : Nat := if d.deadline = 0 then 7812500 else d.deadline

/-- Where the output starts, R369. -/
def CollDesc.outOff (d : CollDesc) : Nat :=
  if elemSize d.ifmt = elemSize d.ofmt then 0 else (d.count * elemSize d.ifmt + 4095) / 4096 * 4096

/-- The extent that TH needs, R369; a BARRIER uses no buffer. -/
def CollDesc.extent (d : CollDesc) : Nat :=
  if d.op = 5 then 0 else max (d.count * elemSize d.ifmt) (d.outOff + d.count * elemSize d.ofmt)

/-! Chunks and trees, R362-R363. -/

/-- Chunks of one segment of REDUCE_SCATTER and ALL_GATHER. -/
def segChunks (count n : Nat) : Nat := (count / n + 1023) / 1024

/-- Whether data is cut per segment. -/
def CollDesc.perSegment (d : CollDesc) : Bool := d.op == 2 || d.op == 3

def CollDesc.chunks (d : CollDesc) (n : Nat) : Nat :=
  if d.op = 5 then 0 else if d.perSegment then n * segChunks d.count n else (d.count + 1023) / 1024

/-- First element, length and root of a chunk. -/
def CollDesc.chunk (d : CollDesc) (n c : Nat) : Nat × Nat × Nat :=
  if d.perSegment then
    let seg := d.count / n
    let per := segChunks d.count n
    let o := 1024 * (c % per)
    (c / per * seg + o, min 1024 (seg - o), c / per)
  else (1024 * c, min 1024 (d.count - 1024 * c), if d.op = 4 then d.root else c % n)

/-- The number of trailing zero bits of a position; position 0 is the parent of every level. -/
def posLevel (n : Nat) : (fuel p : Nat) → Nat
  | 0, _ => 0
  | fuel + 1, p => if p = 0 then Nat.log2 n + 1 else if p % 2 = 1 then 0 else posLevel n fuel (p / 2) + 1

/-- The levels at which a position adds the node above it. -/
def childLevels (n p : Nat) : List Nat := (List.range (posLevel n 20 p)).filter fun l => decide (p + 2 ^ l < n)

/-- The position of a rank in a chunk's tree, and back. -/
def posOf (n root rank : Nat) : Nat := (rank + n - root) % n
def rankAt (n root pos : Nat) : Nat := (pos + root) % n

/-- The parent's position. -/
def parentPos (n p : Nat) : Nat := p - 2 ^ posLevel n 20 p

/-- The children of a rank in the control tree, the unrotated tree (R372). -/
def ctlChildren (n rank : Nat) : List Nat := (childLevels n rank).map fun l => rank + 2 ^ l
/-- Parent and children in the control tree. -/
def ctlNeighbours (n rank : Nat) : List Nat := (if rank = 0 then [] else [parentPos n rank]) ++ ctlChildren n rank

/-! Values, R366-R368. -/

def twosum (a b : Word) : Word × Word :=
  let s := fadd a b
  let bb := fsub s a
  (s, fadd (fsub a (fsub s bb)) (fsub b bb))

/-- The wide add (R368). -/
def wideAdd (a b : Word × Word) : Word × Word :=
  let (s, e) := twosum a.1 b.1
  let e := fadd e (fadd a.2 b.2)
  let h := fadd s e
  if !isFin s then (if isNan s then (0x7FC00000, 0) else (s, 0))
  else if !isFin h then (if isNan h then (0x7FC00000, 0) else (h, 0))
  else (h, fsub e (fsub h s))

/-- One reduction step: left operand, right operand. -/
def CollDesc.combine (d : CollDesc) (a b : Word × Word) : Word × Word :=
  if d.red = 1 then (fmax a.1 b.1, 0)
  else if d.red = 2 then (fmin a.1 b.1, 0)
  else if d.wide then wideAdd a b
  else (fadd a.1 b.1, 0)

/-- Elements of a format as FP32 pairs. -/
def widen (fmt n : Nat) (l : List Byte) : List (Word × Word) :=
  let k := elemSize fmt
  (List.range n).map fun i => ((((EFmt.ofCode fmt).getD .fp32).value (field l (k * i) k)).word, 0)

/-- Results in OFMT and how many saturated (R366). -/
def narrow (fmt : Nat) (l : List (Word × Word)) : List Byte × Nat :=
  let r := l.map fun p => convert ((EFmt.ofCode fmt).getD .fp32) (FV.of p.1)
  (r.flatMap fun x => leBytes (elemSize fmt) x.1, (r.filter (·.2)).length)

/-- Partials on the wire, and back (R382). -/
def pairBytes (wide : Bool) (l : List (Word × Word)) : List Byte :=
  l.flatMap fun p => if wide then leBytes 4 p.1.toNat ++ leBytes 4 p.2.toNat else leBytes 4 p.1.toNat

def bytesPairs (wide : Bool) (n : Nat) (l : List Byte) : List (Word × Word) :=
  (List.range n).map fun i =>
    if wide then (BitVec.ofNat 32 (field l (8 * i) 4), BitVec.ofNat 32 (field l (8 * i + 4) 4))
    else (BitVec.ofNat 32 (field l (4 * i) 4), 0)

/-! Members and messages. -/

/-- What one member tells another: a partial, a result, or a control message with cause, origin and signature. -/
inductive MBody where
  | up (chunk : Nat) (vals : List (Word × Word))
  | down (chunk : Nat) (data : List Byte)
  | done (sig : Nat)
  | finish
  | abort (cause origin : Nat)
  deriving DecidableEq, Repr

/-- A message on its way to a member of this chip; `linkDown` and `fault` are what a member learns of itself. -/
inductive MMsg where
  | body (dest : CoreId) (grp : BitVec 6) (epoch : Word) (wide : Bool) (sender : Nat) (b : MBody)
  | fault (dest : CoreId) (grp : BitVec 6) (epoch : Word) (cause : Nat)
  deriving DecidableEq, Repr

/-- Cause codes, R375. -/
abbrev cTimeout : Nat := 1
abbrev cMemberFault : Nat := 2
abbrev cLinkDown : Nat := 3
abbrev cPartReset : Nat := 4

/-- The outstanding collective of a member at an epoch. -/
def State.collAt (s : State) (c : CoreId) (g : BitVec 6) (e : Word) : Option Coll :=
  s.mangle.colls.find? fun x => x.core == c && x.grp == g && x.epoch == e

/-- Replace a collective by what `f` makes of it. -/
def State.updColl (s : State) (x : Coll) (f : Coll → Coll) : State :=
  s.updMangle fun m => { m with colls := m.colls.map fun y =>
    if y.core = x.core ∧ y.grp = x.grp ∧ y.epoch = x.epoch then f y else y }

/-- Collective epochs completed by a member on a group. -/
def State.collEpoch (s : State) (c : CoreId) (g : BitVec 6) : Word := (assocGet s.mangle.epochs (c, g)).getD 0

/-- The epoch of a member's next collective on a group: completed ones and outstanding ones count (R359). -/
def State.nextEpoch (s : State) (c : CoreId) (g : BitVec 6) : Word :=
  s.collEpoch c g + BitVec.ofNat 32 (s.mangle.colls.filter fun x => x.core == c && x.grp == g).length

/-- A collective ends: the slot and the epoch move (R372, R377); the slot of a core that was reset since is not touched
(16_reset.md R585). -/
def State.endColl (s : State) (x : Coll) (ok : Bool) : State :=
  let s := s.updMangle fun m =>
    { m with colls := m.colls.filter (fun y => !(y.core == x.core && y.grp == x.grp && y.epoch == x.epoch)),
             epochs := assocSet m.epochs (x.core, x.grp) (s.collEpoch x.core x.grp + 1) }
  let b := (Handle.of x.th).bslot
  let s := if (s.core x.core).life = x.life then
      s.tagEnd x.core b (if ok then .ok else .aborted)
    else s.raise Page.chip Ev.REPLY_DISCARDED (byCore x.core)
  if ok then s
  else
    let s := s.add Page.mangle MANGLE_ABORTS_COUNT 1
    let s := ((s.set Page.mangle MANGLE_LAST_ABORT_CAUSE x.cause.toNat).set Page.mangle MANGLE_LAST_ABORT_ORIGIN
      x.origin).set Page.mangle MANGLE_LAST_ABORT_GROUP x.grp.toNat
    s.raise Page.mangle Ev.COLL_ABORTED (byCore x.core) (arg x.cause.toNat ++ arg x.origin)

/-- The payloads of a message, with their engine word and VC (R382, R383). -/
def MBody.wire (b : MBody) (wide : Bool) (epoch : Word) : Fin 3 × BitVec 16 × List (List Byte) :=
  let word (kind chunk : Nat) : BitVec 16 := BitVec.ofNat 16 (0x8000 + kind * 8192 + chunk % 8192)
  let cut (l : List Byte) : List (List Byte) :=
    (List.range ((l.length + 255) / 256)).map fun i => slice l (256 * i) 256
  let ctl (msg cause origin sig : Nat) : List (List Byte) :=
    [leBytes 1 msg ++ leBytes 1 cause ++ leBytes 2 origin ++ leBytes 4 epoch.toNat ++ leBytes 2 sig]
  match b with
  | .up c v => (vc1, word 0 c, cut (pairBytes wide v))
  | .down c d => (vc1, word 1 c, cut d)
  | .done sig => (vc3, word 2 0, ctl 1 0 0 sig)
  | .finish => (vc3, word 2 0, ctl 2 0 0 0)
  | .abort cause origin => (vc3, word 2 0, ctl 3 cause origin 0)

/-- The flits of a message without their route. -/
def MBody.flits (b : MBody) (src : Pcn) (wide : Bool) (grp : BitVec 6) (epoch : Word) (part : Nat) (core : CoreId) :
    List Flit :=
  let (vc, eng, l) := b.wire wide epoch
  (List.range l.length).map fun i =>
    { vc := BitVec.ofNat 2 (vc.1 + 1), mc := false, last := i + 1 == l.length, src := src, dst := 0,
      dcore := BitVec.ofNat 2 core.1, bslot := BitVec.ofNat 8 grp.toNat,
      fidx := BitVec.ofNat 12 (i % 32 + 32 * (epoch.toNat % 128)), part := BitVec.ofNat 12 part, path := 0, lseq := 0,
      eng := eng, payload := padTo 256 (l.getD i []) }

/-- Send a message to a group rank: inside Mangle on this chip, else on the port of the path to the peer's chip; none when
it cannot be sent (R375, R382). An ABORT enters its queue at the head (R383). -/
def State.mangleSend (s : State) (g : Grp) (grp : BitVec 6) (epoch : Word) (wide : Bool) (me dest : Nat) (b : MBody) :
    Option (State × List MMsg) :=
  match s.grpCore g dest with
  | some c => some (s, [.body c grp epoch wide me b])
  | none =>
    let pr := g.base + dest * g.stride
    let dst := Config.memberPcn g.part pr
    match s.route dst.toNat false with
    | none => none
    | some (p, e) =>
      if s.portActive p then
        let fs := (b.flits s.pcn wide grp epoch g.part (Config.memberCore g.part pr)).map fun f =>
          { f with dst := dst, path := BitVec.ofNat 10 e }
        let vc : Fin 3 := (b.wire wide epoch).1
        match b with
        | .abort _ _ => some (s.updPort p fun k => { k with vcq := k.vcq.set vc (fs ++ k.vcq[vc]) }, [])
        | _ => some (s.queueVc p vc fs, [])
      else none

/-- Send a message for an outstanding collective: a member that cannot send learns LINK_DOWN (R375). -/
def State.collSend (s : State) (x : Coll) (dest : Nat) (b : MBody) : State × List MMsg :=
  let g := s.grp x.grp.toNat
  let me := (s.grpRank g x.core).getD 0
  match s.mangleSend g x.grp x.epoch (s.collDesc x.desc).wide me dest b with
  | some r => r
  | none =>
    match b with
    | .abort _ _ | .finish => (s, [])
    | _ => (s, [.fault x.core x.grp x.epoch cLinkDown])

/-- Send one message to several ranks. -/
def State.collSendAll (s : State) (x : Coll) (dest : List Nat) (b : MBody) : State × List MMsg :=
  dest.foldl (fun (r : State × List MMsg) t =>
    let (s, ms) := r.1.collSend x t b
    (s, r.2 ++ ms)) (s, [])

/-- A member originates ABORT unless it has sent DONE or is inside a window (R375, R376). -/
def State.originate (s : State) (x : Coll) (cause : Nat) : State × List MMsg :=
  if x.phase = .running then
    let g := s.grp x.grp.toNat
    let me := (s.grpRank g x.core).getD 0
    let s := s.updColl x fun y => { y with phase := .window, cause := BitVec.ofNat 4 cause, origin := me }
    let s := s.raise Page.mangle Ev.ABORT_ORIGIN (byCore x.core)
      (arg x.grp.toNat ++ arg x.epoch.toNat ++ arg cause ++ arg me)
    s.collSendAll x (ctlNeighbours g.count me) (.abort cause me)
  else (s, [])

/-- DONE or FINISH once a member holds its results and its children's DONE (R372); one that cannot be sent is LINK_DOWN, also at
group rank 0, which sends no DONE (R375). -/
def State.checkDone (s : State) (c : CoreId) (grp : BitVec 6) (e : Word) : State × List MMsg :=
  match s.collAt c grp e with
  | none => (s, [])
  | some x =>
    let g := s.grp grp.toNat
    let d := s.collDesc x.desc
    let me := (s.grpRank g c).getD 0
    let n := g.count
    let owed := if d.op = 2 then (List.range (segChunks d.count n)).map (me * segChunks d.count n + ·)
      else List.range (d.chunks n)
    if x.phase = .running ∧ owed.all (x.res.contains ·) ∧ (ctlChildren n me).all (x.dones.contains ·) then
      if me = 0 then
        if (ctlChildren n me).all fun t => (s.mangleSend g grp e d.wide me t .finish).isSome then
          let (s, ms) := s.collSendAll x (ctlChildren n me) .finish
          (s.endColl x true, ms)
        else (s, [.fault c grp e cLinkDown])
      else
        match s.mangleSend g grp e d.wide me (parentPos n me) (.done (s.signature x.desc)) with
        | some (s, ms) => (s.updColl x fun y => { y with phase := .sentDone }, ms)
        | none => (s, [.fault c grp e cLinkDown])
    else (s, [])

/-- A member takes a result chunk: it is stored unless it stands there already, and forwarded (R365, R370). -/
def State.takeResult (s : State) (x : Coll) (c : Nat) (data : List Byte) (store : Bool) : State × List MMsg :=
  let g := s.grp x.grp.toNat
  let d := s.collDesc x.desc
  let n := g.count
  let me := (s.grpRank g x.core).getD 0
  let (first, _, root) := d.chunk n c
  let h := Handle.of x.th
  let s := if store then s.writeTileAt x.core h (d.outOff + first * elemSize d.ofmt) data else s
  let s := s.updColl x fun y => { y with res := insertNat y.res c }
  let pos := posOf n root me
  let (s, ms) := if d.op = 2 then (s, []) else
    s.collSendAll x ((childLevels n pos).map fun l => rankAt n root (pos + 2 ^ l)) (.down c data)
  let (s, ms2) := s.checkDone x.core x.grp x.epoch
  (s, ms ++ ms2)

/-- A member's input of a chunk; none when it cannot be read (R369). -/
def State.collInput (s : State) (x : Coll) (c : Nat) : Option (List Byte) × State :=
  let g := s.grp x.grp.toNat
  let d := s.collDesc x.desc
  let (first, len, _) := d.chunk g.count c
  let k := elemSize d.ifmt
  let (bs, bad, s) := s.readTileAt x.core (Handle.of x.th) (first * k) (len * k)
  (if bad then none else some bs, s)

/-- Work on a chunk whose children's partials are all there: send the node up, or finish it at the root (R363, R365). -/
def State.workChunk (s : State) (c : CoreId) (grp : BitVec 6) (e : Word) (chunk : Nat) : State × List MMsg :=
  match s.collAt c grp e with
  | none => (s, [])
  | some x =>
    let g := s.grp grp.toNat
    let d := s.collDesc x.desc
    let n := g.count
    let me := (s.grpRank g c).getD 0
    let (_, len, root) := d.chunk n chunk
    let pos := posOf n root me
    let ls := childLevels n pos
    let got := ls.filterMap fun l => (x.parts.find? fun p => p.1 == chunk && p.2.1 == l).map (·.2.2)
    if got.length ≠ ls.length then (s, [])
    else
      match s.collInput x chunk with
      | (none, s) => s.originate x cMemberFault
      | (some bs, s) =>
        let acc := got.foldl (fun a v => (a.zip v).map fun p => d.combine p.1 p.2) (widen d.ifmt len bs)
        let s := s.updColl x fun y => { y with parts := y.parts.filter fun p => p.1 != chunk }
        if pos = 0 then
          let (out, sat) := narrow d.ofmt acc
          let s := s.add Page.mangle MANGLE_SAT_COUNT sat
          s.takeResult x chunk out true
        else s.collSend x (rankAt n root (parentPos n pos)) (.up chunk acc)

/-- A collective starts: leaves send their inputs, roots of copied chunks send them down (R363, R370). -/
def State.startColl (s : State) (c : CoreId) (grp : BitVec 6) (e : Word) : State × List MMsg :=
  match s.collAt c grp e with
  | none => (s, [])
  | some x =>
    let g := s.grp grp.toNat
    let d := s.collDesc x.desc
    let me := (s.grpRank g c).getD 0
    let (s, ms) := (List.range (d.chunks g.count)).foldl (fun (r : State × List MMsg) ch =>
      let root := (d.chunk g.count ch).2.2
      let (s, ms) :=
        if d.op = 3 ∨ d.op = 4 then
          if root = me then
            match r.1.collInput x ch with
            | (some bs, s) => s.takeResult x ch bs false
            | (none, s) => s.originate x cMemberFault
          else (r.1, [])
        else r.1.workChunk c grp e ch
      (s, r.2 ++ ms)) (s, [])
    let (s, ms2) := s.checkDone c grp e
    (s, ms ++ ms2)

/-- An ABORT reaches a member that has not issued the collective: it is recorded, the lowest rank kept, and forwarded on each
adoption (R376, R380). -/
def State.recordAbort (s : State) (c : CoreId) (grp : BitVec 6) (e : Word) (sender cause origin : Nat) : State × List MMsg :=
  let g := s.grp grp.toNat
  match s.grpRank g c with
  | none => (s, [])
  | some me =>
    let same (a : AbortRec) : Bool := a.core == c && a.grp == grp && a.epoch == e
    let better := match s.mangle.aborts.find? same with
      | some a => decide (origin < a.origin)
      | none => true
    if better then
      let s := s.updMangle fun m =>
        { m with aborts := m.aborts.filter (fun a => !same a) ++ [⟨c, grp, e, BitVec.ofNat 4 cause, origin⟩] }
      ((ctlNeighbours g.count me).filter (· != sender)).foldl (fun (r : State × List MMsg) t =>
        match r.1.mangleSend g grp e false me t (.abort cause origin) with
        | some (s, ms) => (s, r.2 ++ ms)
        | none => r) (s, [])
    else (s, [])

/-- Flits of the early store, R384. -/
abbrev earlyFlits : Nat := 2048

/-- The early store keeps what `keep` makes of it. While it is full, STALLED is set and VC1 credit is withheld; once it has room, the
credits that the ports owe are returned (R384, R388). -/
def State.setEarly (s : State) (keep : List (Nat × Flit) → List (Nat × Flit)) : State :=
  let s := s.updMangle fun m => { m with early := keep m.early }
  if earlyFlits ≤ s.mangle.early.length then
    if s.flag Page.mangle MANGLE_EARLY_STALLED then s
    else (s.set Page.mangle MANGLE_EARLY_STALLED 1).raise Page.mangle Ev.EARLY_STALL
  else
    let s := eachOf allPorts (fun p s =>
      s.updPort p fun k => { k with freed := k.freed.set 0 (k.freed[0] + k.owed), owed := 0 }) s
    if s.flag Page.mangle MANGLE_EARLY_STALLED then s.set Page.mangle MANGLE_EARLY_STALLED 0 else s

/-- Flits that wait for a collective not yet issued (R384). -/
def State.holdEarly (s : State) (fs : List (Nat × Flit)) : State := s.setEarly (· ++ fs)

/-- A member takes a message of a collective that it has outstanding. -/
def State.collTake (s : State) (x : Coll) (sender : Nat) (b : MBody) : State × List MMsg :=
  let g := s.grp x.grp.toNat
  let d := s.collDesc x.desc
  let n := g.count
  let me := (s.grpRank g x.core).getD 0
  match b with
  | .up c v =>
    let root := (d.chunk n c).2.2
    let pos := posOf n root me
    match (childLevels n pos).find? (fun l => pos + 2 ^ l == posOf n root sender) with
    | some l =>
      if x.phase = .window ∨ d.chunks n ≤ c ∨ d.op = 3 ∨ d.op = 4 ∨ x.res.contains c ∨
          x.parts.any (fun p => p.1 == c && p.2.1 == l) then (s, [])
      else
        (s.updColl x fun y => { y with parts := y.parts ++ [(c, l, v)] }).workChunk x.core x.grp x.epoch c
    | none => (s, [])
  | .down c data =>
    let root := (d.chunk n c).2.2
    let pos := posOf n root me
    if x.phase ≠ .running ∨ d.chunks n ≤ c ∨ d.op = 2 ∨ pos = 0 ∨ x.res.contains c ∨
        posOf n root sender ≠ parentPos n pos then (s, [])
    else s.takeResult x c data true
  | .done sig =>
    if x.phase ≠ .running ∨ !(ctlChildren n me).contains sender then (s, [])
    else if sig ≠ s.signature x.desc then
      (s.raise Page.mangle Ev.SIG_MISMATCH (byCore x.core)).originate x cMemberFault
    else (s.updColl x fun y => { y with dones := insertNat y.dones sender }).checkDone x.core x.grp x.epoch
  | .finish =>
    if x.phase = .sentDone then
      let (s, ms) := s.collSendAll x (ctlChildren n me) .finish
      (s.endColl x true, ms)
    else (s, [])
  | .abort cause origin =>
    if x.phase ≠ .window ∨ origin < x.origin then
      let s := s.updColl x fun y => { y with phase := .window, cause := BitVec.ofNat 4 cause, origin := origin }
      s.collSendAll x ((ctlNeighbours n me).filter (· != sender)) (.abort cause origin)
    else (s, [])

/-- One message: for an outstanding collective, for one still to come, or stale (R380, R384). -/
def State.mangleStep (s : State) (m : MMsg) : State × List MMsg :=
  match m with
  | .fault c g e cause =>
    match s.collAt c g e with
    | some x => s.originate x cause
    | none => (s, [])
  | .body c g e wide sender b =>
    match s.collAt c g e with
    | some x => s.collTake x sender b
    | none =>
      if e.toNat < (s.nextEpoch c g).toNat then (s.add Page.mangle MANGLE_STALE_COUNT 1, [])
      else
        match b with
        | .abort cause origin => s.recordAbort c g e sender cause origin
        | _ => (s.holdEarly ((b.flits s.pcn wide g e (s.grp g.toNat).part c).map fun f => (sender, f)), [])

/-- Messages inside Mangle, until none is left. -/
def mangleRun : (fuel : Nat) → List MMsg → State → State
  | 0, _, s => s
  | _, [], s => s
  | fuel + 1, m :: r, s =>
    let (s, ms) := s.mangleStep m
    mangleRun fuel (r ++ ms) s

abbrev mangleFuel : Nat := 2 ^ 20

/-! Arrivals. -/

/-- The full epoch of a data flit: the one nearest the member's oldest outstanding or next collective (R382, R384). -/
def State.dataEpoch (s : State) (c : CoreId) (g : BitVec 6) (low : Nat) : Word :=
  let base := (s.mangle.colls.filter fun x => x.core == c && x.grp == g).foldl
    (fun (m : Nat) x => min m x.epoch.toNat) (s.nextEpoch c g).toNat
  let d := (low + 128 - base % 128) % 128
  if d < 64 then BitVec.ofNat 32 (base + d) else BitVec.ofInt 32 ((base : Int) + d - 128)

/-- A data flit of an outstanding collective: kept until its message is whole. -/
def State.collFlit (s : State) (x : Coll) (sender : Nat) (f : Flit) : State :=
  let d := s.collDesc x.desc
  let n := (s.grp x.grp.toNat).count
  let c := f.eng.toNat % 8192
  let up := bits f.eng.toNat 14 13 = 0
  let len := (d.chunk n c).2.1
  let bytes := if up then len * (if d.wide then 8 else 4) else len * elemSize d.ofmt
  let total := (bytes + 255) / 256
  let key := 2 * sender + (if up then 0 else 1)
  let i := f.fidx.toNat % 32
  if d.chunks n ≤ c ∨ total ≤ i then s
  else
    let here := (x.frag.filter fun p => p.1 == key && p.2.1 == c && p.2.2.1 != i) ++ [(key, c, i, f.payload)]
    if here.length < total then
      s.updColl x fun y => { y with frag := y.frag.filter (fun p => !(p.1 == key && p.2.1 == c)) ++ here }
    else
      let data := ((List.range total).flatMap fun j =>
        ((here.find? fun p => p.2.2.1 == j).map fun p => padTo 256 p.2.2.2).getD []).take bytes
      let s := s.updColl x fun y => { y with frag := y.frag.filter fun p => !(p.1 == key && p.2.1 == c) }
      mangleRun mangleFuel [.body x.core x.grp x.epoch d.wide sender
        (if up then .up c (bytesPairs d.wide len data) else .down c data)] s

/-- A Mangle flit arrives (R382-R384); one that names no member of a group here is discarded. -/
def State.mangleArrive (s : State) (sender : Nat) (f : Flit) : State :=
  let g := BitVec.ofNat 6 f.bslot.toNat
  let c := coreOf f.dcore.toNat
  let grp := s.grp g.toNat
  if s.inReset Page.mangle ∨ 64 ≤ f.bslot.toNat ∨ grp.valid = false ∨ grp.part ≠ f.part.toNat ∨ (s.grpRank grp c).isNone ∨
      f.eng.getLsbD 15 = false then s
  else
    let kind := bits f.eng.toNat 14 13
    if kind = 2 then
      let e : Word := BitVec.ofNat 32 (field f.payload 4 4)
      match field f.payload 0 1 with
      | 1 => mangleRun mangleFuel [.body c g e false sender (.done (field f.payload 8 2))] s
      | 2 => mangleRun mangleFuel [.body c g e false sender .finish] s
      | 3 => mangleRun mangleFuel [.body c g e false sender (.abort (field f.payload 1 1) (field f.payload 2 2))] s
      | _ => s
    else if kind = 3 then s
    else
      let e := s.dataEpoch c g (f.fidx.toNat / 32)
      match s.collAt c g e with
      | some x => s.collFlit x sender f
      | none =>
        if e.toNat < (s.nextEpoch c g).toNat then s.add Page.mangle MANGLE_STALE_COUNT 1
        else s.holdEarly [(sender, f)]

/-- Early flits of a member's collective are taken when it issues (R384). -/
def State.takeEarly (s : State) (c : CoreId) (g : BitVec 6) (e : Word) : State :=
  let mine (p : Nat × Flit) : Bool :=
    p.2.dcore.toNat == c.1 && p.2.bslot.toNat == g.toNat &&
    (if bits p.2.eng.toNat 14 13 = 2 then field p.2.payload 4 4 == e.toNat
      else decide (p.2.fidx.toNat / 32 = e.toNat % 128))
  let take := s.mangle.early.filter mine
  let s := s.setEarly (·.filter fun p => !mine p)
  eachOf take (fun p s => s.mangleArrive p.1 p.2) s

/-- COLL issues: TH goes from FULL to FILLING, and the collective runs as a chip engine (R361); with MANGLE in reset it
completes RESET_NACK (R389); an abort recorded before ends it at once (R380). -/
def State.collIssue (s : State) (c : CoreId) (desc : Nat) (th : BitVec 128) : State :=
  let b := (Handle.of th).bslot
  let s := s.updCore c fun k => k.setSlot b { k.slot b with tag := .filling, err := none }
  if s.inReset Page.mangle then (s.metReset c).tagEnd c b .resetNack
  else
    let g := BitVec.ofNat 6 (s.collDesc desc).grp
    let e := s.nextEpoch c g
    let x : Coll := ⟨c, g, desc, th, (s.core c).life, e, s.weave.wt, .running, 0, 0, [], [], [], []⟩
    match s.mangle.aborts.find? (fun a => a.core == c && a.grp == g && a.epoch == e) with
    | some a =>
      let s := s.updMangle fun m =>
        { m with aborts := m.aborts.filter (fun y => !(y == a)), colls := m.colls ++ [x] }
      s.endColl { x with cause := a.cause, origin := a.origin } false
    | none =>
      let s := s.updMangle fun m => { m with colls := m.colls ++ [x] }
      let (s, ms) := s.startColl c g e
      (mangleRun mangleFuel ms s).takeEarly c g e

/-- Every collective that a core has outstanding and has not sent DONE for originates ABORT (R375). -/
def State.mangleCoreAbort (s : State) (c : CoreId) (cause : Nat) : State :=
  let l := s.mangle.colls.filter fun x => x.core == c
  mangleRun mangleFuel (l.map fun x => .fault x.core x.grp x.epoch cause) s

/-- A WAIT on a collective's TH exceeds its budget: the member originates TIMEOUT (R375). Whether one was outstanding. -/
def State.mangleWaitTimeout (s : State) (c : CoreId) (b : BitVec 8) : Bool × State :=
  match s.mangle.colls.find? (fun x => x.core == c && (Handle.of x.th).bslot == b) with
  | some x => (true, mangleRun mangleFuel [.fault x.core x.grp x.epoch cTimeout] s)
  | none => (false, s)

/-! The rows of Mangle. -/

/-- MANGLE_UP_FLIT, R363, R382. -/
def execMangleUpFlit (sender : Nat) (f : Flit) (s : State) : Host.Outcome State Fault Refusal :=
  .next (if bits f.eng.toNat 14 13 = 0 then s.mangleArrive sender f else s)

/-- MANGLE_DOWN_FLIT, R365, R382. -/
def execMangleDownFlit (sender : Nat) (f : Flit) (s : State) : Host.Outcome State Fault Refusal :=
  .next (if bits f.eng.toNat 14 13 = 1 then s.mangleArrive sender f else s)

/-- Whether a flit is a CONTROL message of a kind. -/
def ctlMsg (f : Flit) (n : Nat) : Bool := bits f.eng.toNat 14 13 == 2 && field f.payload 0 1 == n

/-- DONE, R372, R373. -/
def execDone (sender : Nat) (f : Flit) (s : State) : Host.Outcome State Fault Refusal :=
  .next (if ctlMsg f 1 then s.mangleArrive sender f else s)

/-- FINISH, R372. -/
def execFinish (sender : Nat) (f : Flit) (s : State) : Host.Outcome State Fault Refusal :=
  .next (if ctlMsg f 2 then s.mangleArrive sender f else s)

/-- ABORT, R376-R380. -/
def execAbort (sender : Nat) (f : Flit) (s : State) : Host.Outcome State Fault Refusal :=
  .next (if ctlMsg f 3 then s.mangleArrive sender f else s)

/-- The oldest outstanding collective of a member in some phase. -/
def State.oldestColl (s : State) (c : CoreId) (g : BitVec 6) (p : CollPhase → Bool) : Option Coll :=
  s.mangle.colls.find? fun x => x.core == c && x.grp == g && p x.phase

/-- COLL_DEADLINE: the deadline of a member's oldest collective passes (R375, R379). -/
def execCollDeadline (core : CoreId) (grp : BitVec 6) (s : State) : Host.Outcome State Fault Refusal :=
  .next (match s.oldestColl core grp (· != .window) with
    | none => s
    | some x =>
      if x.phase = .running then mangleRun mangleFuel [.fault core grp x.epoch cTimeout] s
      else s.endColl { x with cause := BitVec.ofNat 4 cTimeout, origin := (s.grpRank (s.grp grp.toNat) core).getD 0 } false)

/-- ABORT_WINDOW_END: the member completes ABORTED with the adopted cause and rank (R377). -/
def execAbortWindowEnd (core : CoreId) (grp : BitVec 6) (s : State) : Host.Outcome State Fault Refusal :=
  .next (match s.oldestColl core grp (· == .window) with
    | none => s
    | some x => s.endColl x false)

/-! COMMIT of the page, R387. -/

/-- Whether a collective in use names a descriptor or a group. -/
def State.collUses (s : State) (group : Bool) (i : Nat) : Bool :=
  s.mangle.colls.any fun x => if group then x.grp.toNat == i else x.desc == i

/-- The checks of a descriptor COMMIT, whether or not VALID is set (R387). -/
def State.mangleDescCheck (s : State) (i : Nat) (d : CollDesc) : Status :=
  let fmtOk (f : Nat) : Bool := f == 0 || f == 1 || f == 8 || f == 9
  let g := s.grp d.grp
  if (d.op = 0 ∨ 6 ≤ d.op ∨ d.red = 3 ∨ fmtOk d.ifmt = false ∨ fmtOk d.ofmt = false ∨
      (d.wide ∧ (d.red ≠ 0 ∨ 3 ≤ d.op)) ∨ ((d.op = 3 ∨ d.op = 4) ∧ d.ofmt ≠ d.ifmt) ∨ d.count = 0 ∨
      8388608 < d.count ∨ g.valid = false ∨ g.part ≠ d.part ∨
      (d.perSegment ∧ (d.count % g.count ≠ 0 ∨ 8192 < d.chunks g.count)) ∨ (d.op = 4 ∧ g.count ≤ d.root) ∨
      (d.deadline ≠ 0 ∧ (d.deadline < 156250 ∨ 1562500000 < d.deadline))) then .mismatch
  else if s.collUses false i then .busy
  else .ok

/-- The checks of a group COMMIT. -/
def State.mangleGroupCheck (s : State) (i : Nat) (g : Grp) : Status :=
  if 63 < i ∨ g.count = 0 ∨ 16384 < g.count ∨ g.stride = 0 ∨ 16383 < g.base + (g.count - 1) * g.stride then .mismatch
  else if s.collUses true i then .busy
  else .ok

/-- An accepted group COMMIT starts the group at epoch 0 (R358); what was kept of its old epochs is dropped. -/
def State.mangleGroupReset (s : State) (i : Nat) : State :=
  (s.updMangle fun m =>
    { m with epochs := m.epochs.filter (fun e => e.1.2.toNat != i), aborts := m.aborts.filter fun a => a.grp.toNat != i }).setEarly
    (·.filter fun p => p.2.bslot.toNat != i)

/-- MANGLE_G_EPOCH: the epoch of the group's lowest-ranked member here: of its oldest outstanding collective, or its next. -/
def State.groupEpoch (s : State) (i : Nat) : Nat :=
  let g := s.grp i
  let members := allCores.filterMap fun c => (s.grpRank g c).map fun r => (r, c)
  match members.foldl (fun (m : Option (Nat × CoreId)) x =>
      match m with
      | none => some x
      | some y => if x.1 < y.1 then some x else some y) none with
  | none => 0
  | some (_, c) => (s.collEpoch c (BitVec.ofNat 6 i)).toNat

end Sys2Proof.Machine
end

