-- ==== Sys2Proof/Machine/Press.lean ====
section
/-!
DEFINITION. The live press (11_press.md R390-R422): hanger models and their banks, multicast, the press engine, and its
control messages.
-/
namespace Sys2Proof.Machine

open Reg

/-! Models. -/

/-- A field of a model's registers. -/
def State.hg (s : State) (m : Fin 16) (f : Fld) : Nat := s.getI Page.hanger m.1 f
def State.hgSet (s : State) (m : Fin 16) (f : Fld) (v : Nat) : State := s.setI Page.hanger m.1 f v

/-- Hanger states (R395) and marks. -/
abbrev hSettled : Nat := 0
abbrev hFilling : Nat := 1
abbrev hReady : Nat := 2
abbrev hArmed : Nat := 3
abbrev hSplit : Nat := 4
abbrev markInvalid : Nat := 0
abbrev markOld : Nat := 1
abbrev markIncomplete : Nat := 2

def State.modelValid (s : State) (m : Fin 16) : Bool := s.hg m HANGER_CFG_VALID == 1

/-- The model that a number names. -/
def modelOf (n : Nat) : Fin 16 := ⟨n % 16, Nat.mod_lt n (by decide)⟩

/-- The version that SETTLED compares with: that of the bound cores, which share it (R397). -/
def State.settledVer (s : State) (m : Fin 16) : Nat :=
  match (coresOf (s.hg m HANGER_CFG_CORES)) with
  | c :: _ => s.hg m (HANGER_ACTIVE_VERSION.nth c.1)
  | [] => 0

/-- The first segment of a bank. -/
def State.bankSeg (s : State) (m : Fin 16) (bank : Nat) : Nat :=
  if bank = 0 then s.hg m HANGER_SEGS_BANK0 else s.hg m HANGER_SEGS_BANK1

/-- The inactive bank outside SPLIT; in SPLIT, the bank that is being flipped to. -/
def State.newBank (s : State) (m : Fin 16) : Nat := if (s.hanger m).bank then 0 else 1

/-- Abandon the pending version: SETTLED, the inactive bank INCOMPLETE (R400). -/
def State.hangerDrop (s : State) (m : Fin 16) : State :=
  let s := (s.hgSet m HANGER_STATE_STATE hSettled).hgSet m HANGER_STATE_MARK markIncomplete
  (s.updHanger m fun h => { h with landed := [] }).hgSet m HANGER_LANDED_TILES 0

/-- A press CANCEL reaches the hanger (R400). -/
def State.hangerCancel (s : State) (m : Fin 16) (part : Nat) (version : Word) (cause : Nat) : State :=
  if s.modelValid m = false ∨ s.hg m HANGER_CFG_PART ≠ part then s
  else
    let st := s.hg m HANGER_STATE_STATE
    let pend := s.hg m HANGER_PEND_VER_VERSION
    if version.toNat = pend ∧ (st = hFilling ∨ st = hReady ∨ st = hArmed) then
      (s.hangerDrop m).raise Page.hanger Ev.CANCELLED byBlock (arg version.toNat ++ arg cause)
    else if version.toNat = pend ∧ version ≠ 0 ∧ (st = hSplit ∨ (st = hSettled ∧ s.settledVer m = pend)) then
      s.raise Page.hanger Ev.CANCEL_LATE
    else s

/-- A reset or eviction of a partition cancels the pending versions of its models (R401). -/
def State.hangerPartReset (s : State) (part : Nat) : State :=
  eachOf (List.finRange 16) (fun m s =>
    if s.modelValid m ∧ s.hg m HANGER_CFG_PART = part then
      let st := s.hg m HANGER_STATE_STATE
      if st = hFilling ∨ st = hReady ∨ st = hArmed then
        (s.hangerDrop m).raise Page.hanger Ev.CANCELLED byBlock (arg (s.hg m HANGER_PEND_VER_VERSION) ++ arg 6)
      else s
    else s) s

/-! Multicast, R414. -/

/-- The valid multicast entry of a group. -/
def State.mcEntry (s : State) (group : Nat) : Option Nat :=
  (List.range 64).find? fun e =>
    s.getI Page.press e PRESS_MC_ENTRY_VALID == 1 && s.getI Page.press e PRESS_MC_ENTRY_GROUP == group

def State.mcLocal (s : State) (e : Nat) : Bool := s.getI Page.press e PRESS_MC_ENTRY_LOCAL == 1

/-- The forward ports of an entry but one. -/
def State.mcPorts (s : State) (e : Nat) (except : Option PortId) : List PortId :=
  allPorts.filter fun p => (s.getI Page.press e PRESS_MC_ENTRY_FWD).testBit p.1 && some p != except

/-- Copies of flits on ports: those of ports that are not ACTIVE are not sent; whether all were. -/
def State.mcCopies (s : State) (ports : List PortId) (fs : List Flit) : Bool × State :=
  (ports.all s.portActive, eachOf (ports.filter s.portActive) (fun p s => s.queueVc p vc1 fs) s)

/-- What a multicast arrival does: none when its group has no entry, which is counted; else whether it is for this chip's
hanger, its copies being forwarded. -/
def State.mcArrive (s : State) (port : PortId) (group : Nat) (fs : List Flit) : Bool × State :=
  match s.mcEntry group with
  | none => (false, s.add Page.press PRESS_MC_DROP_COUNT fs.length)
  | some e => (s.mcLocal e, (s.mcCopies (s.mcPorts e (some port)) fs).2)

/-- A multicast flit of the press (R412, R413). -/
def mcFlit (src : Pcn) (group part : Nat) (eng : BitVec 16) (fidx : Nat) (last : Bool) (payload : List Byte) : Flit :=
  { vc := 1, mc := true, last := last, src := src, dst := BitVec.ofNat 12 group, dcore := 0, bslot := 0,
    fidx := BitVec.ofNat 12 fidx, part := BitVec.ofNat 12 part, path := 0, lseq := 0, eng := eng, payload := padTo 256 payload }

/-- The 17 flits of a tile (R412). -/
def tileFlits (src : Pcn) (group part model : Nat) (coord : Pcn) (side data : List Byte) : List Flit :=
  let eng := engWord .pressTile model 0
  mcFlit src group part eng 0 false (slice side 0 32 ++ leBytes 2 coord.toNat) ::
    (List.range 16).map fun i => mcFlit src group part eng (i + 1) (i == 15) (slice data (256 * i) 256)

/-- The payload of a control message (R413). -/
def ctrlPayload (msg cause version epoch : Nat) : List Byte :=
  leBytes 1 msg ++ leBytes 1 cause ++ leBytes 2 0 ++ leBytes 4 version ++ leBytes 8 epoch

/-- Messages of PRESS_CTRL. -/
abbrev mArm : Nat := 1
abbrev mCancel : Nat := 2
abbrev mAck : Nat := 3
abbrev mNack : Nat := 4

/-! Press descriptors, R407. -/

def Desc.pFlag (d : Desc) (i : Nat) : Bool := d.flags.testBit i
def Desc.pLock (d : Desc) : Bool := d.pFlag 1
def Desc.pCoord (d : Desc) : Bool := d.pFlag 2
def Desc.pPost (d : Desc) : Bool := d.pFlag 3
def Desc.pModel (d : Desc) : Nat := field d.raw 2 1 / 16
def Desc.pSide (d : Desc) : Nat := field d.raw 16 8
def Desc.pTemplate (d : Desc) : List Byte := slice d.raw 24 24
def Desc.pVersion (d : Desc) : Nat := field d.raw 48 4
def Desc.pGroup (d : Desc) : Nat := field d.raw 52 2 % 4096
def Desc.pCgroup (d : Desc) : Nat := field d.raw 54 2 % 4096
def Desc.pCoordPcn (d : Desc) : Nat := field d.raw 56 2 % 4096
def Desc.pNdest (d : Desc) : Nat := field d.raw 58 2 % 8192
def Desc.pLead (d : Desc) : Nat := if field d.raw 60 1 = 0 then 4 else field d.raw 60 1
def Desc.pDeadline (d : Desc) : Nat := field d.raw 61 3

/-- A press source as a tier descriptor that reads its tiles. -/
def Desc.asTier (d : Desc) : Desc :=
  { d with raw := leBytes 1 1 ++ leBytes 1 (if d.pFlag 0 then 2 else 0) ++ leBytes 1 d.srct ++ slice d.raw 3 13 ++
      leBytes 8 0 ++ leBytes 8 d.pSide ++ d.pTemplate ++ leBytes 8 0 }

/-- The side record of a press tile: as R203, with the press version stamped (R408). -/
def Desc.pressSide (d : Desc) (i : Nat) (data side : List Byte) : Option (List Byte) :=
  let ver := leBytes 4 d.pVersion
  if d.pFlag 0 then
    let t := patchBytes (slice d.pTemplate 0 28) 20 (leBytes 4 (field d.pTemplate 20 4 + i))
    some (sealSide data (patchBytes t 16 ver))
  else if sideOk data side then some (sealSide data (patchBytes side 16 ver))
  else none

/-- A group named by a descriptor: in the path table as a valid multicast entry, and in this chip's multicast table. -/
def State.groupKnown (s : State) (group : Nat) : Bool :=
  group == 0xFFF ||
  ((List.range 1024).any (fun e => let x := s.pathEntry e; pathValid x && pathMc x && pathDst x == group) &&
    (s.mcEntry group).isSome)

/-- The checks of a press or CANCEL descriptor before any tile moves (R409). -/
def State.pressCheck (s : State) (d : Desc) : Status :=
  let part := d.part.toNat
  let n := d.ntiles * 4096
  let ns := s.nsInfo d.nsid
  if d.op ≠ 1 ∧ d.op ≠ 2 then .param
  else if d.pVersion = 0 ∨ s.groupKnown d.pCgroup = false then .param
  else if d.op = 2 then .ok
  else if 2 < d.srct ∨ d.ntiles = 0 ∨ 262144 < d.ntiles ∨ d.src % 4096 ≠ 0 ∨ s.endOk part d.srct d.src n = false then .param
  else if d.pSide ≠ 2 ^ 64 - 1 ∧ (d.srct ≠ tXmem ∨ d.pSide % 32 ≠ 0 ∨ s.endOk part tXmem d.pSide (32 * d.ntiles) = false) then
    .param
  else if d.pSide = 2 ^ 64 - 1 ∧ d.srct = tXmem ∧ d.pFlag 0 = false then .param
  else if s.groupKnown d.pGroup = false then .param
  else if d.pCoord ∧ (d.pCoordPcn ≠ s.pcn.toNat ∨ d.pNdest = 0 ∨ 4096 < d.pNdest) then .param
  else if d.pGroup = 0xFFF ∧ (d.pCoord = false ∨ d.pCoordPcn ≠ s.pcn.toNat ∨ d.pNdest ≠ 1) then .param
  else if d.pDeadline ≠ 0 ∧ (d.pDeadline < 39 ∨ 381469 < d.pDeadline) then .param
  else if d.srct = tShelf ∧ (d.nsid = 0 ∨ ns.valid = false ∨ ns.part ≠ part) then .authFail
  else if d.srct = tShelf ∧ ns.len * 4096 < d.src + n then .param
  else if d.srct = tShelf ∧ s.nsClearing d.nsid then .busy
  else .ok

/-! Press queues: Q0-Q3 of the cores, Q4 of the host (R410). -/

def State.pressQ (s : State) (q : Fin 5) : List Desc := s.eng.press[q]
def State.setPressQ (s : State) (q : Fin 5) (l : List Desc) : State := s.updEng fun e => { e with press := e.press.set q l }

/-- A press descriptor leaves its queue with a status; a coordinator's that is not OK is remembered and logged (R418, R440). -/
def State.pressEnd (s : State) (q : Fin 5) (i : Nat) (st : Status) (cause : Nat) : State :=
  match (s.pressQ q)[i]? with
  | none => s
  | some d =>
    let s := s.setPressQ q ((s.pressQ q).eraseIdx i)
    let s := if st ≠ .ok ∧ d.op = 1 ∧ d.pCoord then
        let s := (s.setStatus Page.press PRESS_LAST_STATUS st).set Page.press PRESS_LAST_CAUSE cause
        let s := (s.set Page.press PRESS_LAST_MODEL d.pModel).set Page.press PRESS_LAST_VER_VERSION d.pVersion
        s.raise Page.press Ev.PRESS_FAILED byBlock (arg d.pVersion ++ arg cause)
      else s
    s.completeDesc d st d.pPost 0

/-- CANCEL goes out on CGROUP, to this chip's hanger where the group has it; whether every copy was sent (R414, R418). -/
def State.sendCancel (s : State) (d : Desc) (cause : Nat) : Bool × State :=
  let part := d.part.toNat
  let s := s.add Page.press PRESS_CANCELS_COUNT 1
  let here (s : State) : State := s.hangerCancel (modelOf d.pModel) part (BitVec.ofNat 32 d.pVersion) cause
  if d.pCgroup = 0xFFF then (true, here s)
  else
    match s.mcEntry d.pCgroup with
    | none => (false, s)
    | some e =>
      let f := mcFlit s.pcn d.pCgroup part (engWord .pressCtrl d.pModel 0) 0 true (ctrlPayload mCancel cause d.pVersion 0)
      let (ok, s) := s.mcCopies (s.mcPorts e none) [f]
      (ok, if s.mcLocal e then here s else s)

/-- ARM for the hanger of this chip (R419). -/
def State.hangerArm (s : State) (m : Fin 16) (part : Nat) (version : Word) (epoch : Nat) : State :=
  if s.modelValid m = false ∨ s.hg m HANGER_CFG_PART ≠ part then s
  else if s.hg m HANGER_STATE_STATE = hReady ∧ s.hg m HANGER_PEND_VER_VERSION = version.toNat then
    let s := (s.hgSet m HANGER_STATE_STATE hArmed).updHanger m fun h => { h with readyAt := some s.clock.cclk }
    let s := (s.hgSet m HANGER_ARM_E_LO_E epoch).hgSet m HANGER_ARM_E_HI_E (epoch / 2 ^ 32)
    if epoch ≤ s.epochNo then s.raise Page.hanger Ev.ARM_LATE else s
  else s.raise Page.hanger Ev.ARM_STALE

/-- ARM goes out on CGROUP (R418). -/
def State.sendArm (s : State) (d : Desc) : Bool × State :=
  let part := d.part.toNat
  let e := s.epochNo + d.pLead
  let here (s : State) : State := s.hangerArm (modelOf d.pModel) part (BitVec.ofNat 32 d.pVersion) e
  if d.pCgroup = 0xFFF then (true, here s)
  else
    match s.mcEntry d.pCgroup with
    | none => (false, s)
    | some en =>
      let f := mcFlit s.pcn d.pCgroup part (engWord .pressCtrl d.pModel 0) 0 true (ctrlPayload mArm 0 d.pVersion e)
      let ports := s.mcPorts en none
      if ports.all s.portActive then
        let (_, s) := s.mcCopies ports [f]
        (true, if s.mcLocal en then here s else s)
      else (false, s)

/-- The coordinator of a press on this chip: its queue and place. -/
def State.coordinator (s : State) (part model : Nat) (version : Word) : Option (Fin 5 × Nat) :=
  (List.finRange 5).findSome? fun q =>
    ((s.pressQ q).findIdx? fun d => d.begun && d.op == 1 && d.pCoord && d.part.toNat == part && d.pModel == model &&
      d.pVersion == version.toNat).map fun i => (q, i)

/-- The coordinator ends its press: CANCEL first (R418). -/
def State.coordFail (s : State) (q : Fin 5) (i : Nat) (st : Status) (cause : Nat) : State :=
  match (s.pressQ q)[i]? with
  | none => s
  | some d => ((s.sendCancel d cause).2).pressEnd q i st cause

/-- The first NACK at the coordinator completes the press ABORTED (R418). -/
def State.coordNack (s : State) (part model : Nat) (version : Word) (cause : Nat) : State :=
  match s.coordinator part model version with
  | some (q, i) => s.coordFail q i .aborted cause
  | none => s

/-- The coordinator completes once its tiles are sent and NDEST chips are ready; LOCKSTEP sends ARM (R418). -/
def State.coordCheck (s : State) (q : Fin 5) (i : Nat) : State :=
  match (s.pressQ q)[i]? with
  | none => s
  | some d =>
    if d.ntiles ≤ d.n ∧ s.outSent d ∧ d.pNdest ≤ d.acks.length then
      if d.pLock then
        let (ok, s) := s.sendArm d
        if ok then s.pressEnd q i .ok 0 else s.coordFail q i .aborted 5
      else s.pressEnd q i .ok 0
    else s

/-- ACK_READY from a chip at the coordinator. -/
def State.coordAck (s : State) (src : Pcn) (part model : Nat) (version : Word) : State :=
  match s.coordinator part model version with
  | none => s
  | some (q, i) =>
    match (s.pressQ q)[i]? with
    | none => s
    | some d =>
      let d := { d with acks := if d.acks.contains src then d.acks else d.acks ++ [src] }
      (s.setPressQ q ((s.pressQ q).set i d)).coordCheck q i

/-- ACK_READY or NACK to a coordinator: on VC3, or on this chip at once (R413). -/
def State.toCoord (s : State) (coord : Pcn) (part model msg cause : Nat) (version : Word) : State :=
  if coord = s.pcn then
    if msg = mAck then s.coordAck s.pcn part model version else s.coordNack part model version cause
  else
    (s.sendEng vc3 false coord.toNat part (engWord .pressCtrl model 0) [ctrlPayload msg cause version.toNat 0]).getD s

/-! Landing, R397-R399. -/

/-- Press causes, R422. -/
abbrev pcSource : Nat := 1
abbrev pcTimeout : Nat := 2
abbrev pcBusy : Nat := 3
abbrev pcCrc : Nat := 4
abbrev pcLink : Nat := 5
abbrev pcPart : Nat := 6
abbrev pcStale : Nat := 7
abbrev pcSuperseded : Nat := 8
abbrev pcBadTile : Nat := 9

/-- A tile that is processed: checks, the write to the inactive bank, the landed bit, READY (R398, R399). -/
def State.pressProcess (s : State) (m : Fin 16) (part : Nat) (coord : Pcn) (side data : List Byte) : State :=
  let v : Word := BitVec.ofNat 32 (field side 16 4)
  let idx := field side 20 4
  let nack (cause : Nat) (s : State) : State := s.toCoord coord part m.1 mNack cause v
  if sideOk data side = false then
    nack pcCrc ((s.addI Page.hanger m.1 HANGER_CRC_COUNT 1).raise Page.hanger Ev.TILE_CRC)
  else if 10 ≤ field side 0 1 % 16 ∨ s.hg m HANGER_TILES_TILES ≤ idx then
    nack pcBadTile (s.addI Page.hanger m.1 HANGER_DISCARD_COUNT 1)
  else if (s.hanger m).landed.contains idx then s.addI Page.hanger m.1 HANGER_DISCARD_COUNT 1
  else
    let s := s.writeXmem (s.bankSeg m (s.newBank m) * segBytes + idx * 4096) data
    let s := s.updHanger m fun h => { h with landed := insertNat h.landed idx, coord := coord }
    let n := (s.hanger m).landed.length
    let s := s.hgSet m HANGER_LANDED_TILES n
    if n = s.hg m HANGER_TILES_TILES then
      let s := s.updHanger m fun h => { h with readyAt := some s.clock.cclk }
      ((s.hgSet m HANGER_STATE_STATE hReady).raise Page.hanger Ev.READY).toCoord coord part m.1 mAck 0 v
    else s

/-- Start receiving a version: the landed bitmap is cleared (R397). -/
def State.pressFill (s : State) (m : Fin 16) (v : Word) (coord : Pcn) : State :=
  let s := (s.hgSet m HANGER_STATE_STATE hFilling).hgSet m HANGER_PEND_VER_VERSION v.toNat
  (s.updHanger m fun h => { h with landed := [], coord := coord }).hgSet m HANGER_LANDED_TILES 0

/-- A tile for this chip's hanger (R397, R416). -/
def State.pressLand (s : State) (model part : Nat) (coord : Pcn) (side data : List Byte) : State :=
  let m := modelOf model
  let data := slice data 0 4096
  let side := slice side 0 32
  let v : Word := BitVec.ofNat 32 (field side 16 4)
  let discard (s : State) : State := s.addI Page.hanger m.1 HANGER_DISCARD_COUNT 1
  if s.modelValid m = false ∨ s.hg m HANGER_CFG_PART ≠ part then discard s
  else
    let st := s.hg m HANGER_STATE_STATE
    let pend := s.hg m HANGER_PEND_VER_VERSION
    let nack (cause : Nat) (s : State) : State := s.toCoord coord part m.1 mNack cause v
    if st = hArmed ∨ st = hSplit then nack pcBusy (discard s)
    else if st = hSettled then
      if s.settledVer m < v.toNat then (s.pressFill m v coord).pressProcess m part coord side data
      else nack pcStale (discard s)
    else if v.toNat = pend then s.pressProcess m part coord side data
    else if pend < v.toNat then
      let old := (s.hanger m).coord
      let s := ((s.hgSet m HANGER_STATE_MARK markIncomplete).pressFill m v coord).raise Page.hanger Ev.PRESS_SUPERSEDED
      let s := s.toCoord old part m.1 mNack pcSuperseded (BitVec.ofNat 32 pend)
      s.pressProcess m part coord side data
    else nack pcStale (discard s)

/-! The engine. -/

/-- Whether the press engine may work on a descriptor now. -/
def State.pressMay (s : State) (d : Desc) : Bool :=
  !s.inReset Page.press && s.mayStart && s.postsFree d d.pPost &&
  !(s.tier.swapping && d.srct == tShelf)

/-- A source that cannot go on: the coordinator acts as on its first NACK, another source sends the NACK and ends with a
status (R418). -/
def State.sourceFail (s : State) (q : Fin 5) (i : Nat) (d : Desc) (st : Status) (cause : Nat) : State :=
  if d.pCoord then s.coordFail q i .aborted cause
  else
    let s := s.toCoord (BitVec.ofNat 12 d.pCoordPcn) d.part.toNat d.pModel mNack cause (BitVec.ofNat 32 d.pVersion)
    match (s.pressQ q).findIdx? (· == d) with
    | some j => s.pressEnd q j st cause
    | none => s

/-- A source whose last flit has been sent: a coordinator looks for its ACKs, another completes OK (R418). -/
def State.sourceSent (s : State) (q : Fin 5) (i : Nat) : State :=
  match (s.pressQ q)[i]? with
  | none => s
  | some d =>
    if d.begun && d.op == 1 && decide (d.ntiles ≤ d.n) && s.outSent d then
      if d.pCoord then s.coordCheck q i else s.pressEnd q i .ok 0
    else s

/-- Every place of every press queue, the last place of a queue first. -/
def State.eachPress (s : State) (f : Fin 5 → Nat → State → State) : State :=
  eachOf (List.finRange 5) (fun q s => eachOf (List.range (s.pressQ q).length).reverse (fun i s => f q i s) s) s

/-- Send the tiles of a source from `i` on (R412, R414, R418). -/
def State.pressTiles (env : MediaEnv) (q : Fin 5) (pos : Nat) : (fuel i : Nat) → State → State
  | 0, _, s => s
  | fuel + 1, i, s =>
    match (s.pressQ q)[pos]? with
    | none => s
    | some d =>
      if d.ntiles ≤ i then s.sourceSent q pos
      else
        match s.readTile d.asTier d.srct (d.src + 4096 * i) i env with
        | (Except.error e, s) => s.sourceFail q pos d e pcCrc
        | (Except.ok t, s) =>
          match d.pressSide i t.1 t.2 with
          | none =>
            ((s.add Page.tier TIER_CRC_ERR_COUNT 1).raise Page.tier Ev.CRC_FAIL d.origin).sourceFail q pos d .eccFatal pcCrc
          | some side =>
            let coord : Pcn := BitVec.ofNat 12 d.pCoordPcn
            let entry := if d.pGroup = 0xFFF then none else s.mcEntry d.pGroup
            let ports := match entry with | some e => s.mcPorts e none | none => []
            let here := match entry with | some e => s.mcLocal e | none => d.pGroup == 0xFFF
            if ports.all s.portActive = false ∨ (d.pGroup ≠ 0xFFF ∧ entry = none) then s.sourceFail q pos d .notReady pcLink
            else
              let (_, s) := s.mcCopies ports (tileFlits s.pcn d.pGroup d.part.toNat d.pModel coord side t.1)
              let s := s.add Page.press PRESS_TILES_SENT_COUNT 1
              let s := s.setPressQ q ((s.pressQ q).set pos { d with begun := true, n := i + 1, out := s.outMarks ports })
              let still (s : State) : Bool := match (s.pressQ q)[pos]? with
                | some x => x.begun && x.raw == d.raw && x.n == i + 1
                | none => false
              let s := if here then s.pressLand d.pModel d.part.toNat coord side t.1 else s
              if still s then State.pressTiles env q pos fuel (i + 1) s else s

/-- The first descriptor of a press queue that has not begun and that no full share holds back, when it has the operation (R478, R488). -/
def State.pressNext (s : State) (q : Fin 5) (op : Nat) : Option (Nat × Desc) :=
  match (s.pressQ q).findIdx? (fun d => !d.begun && s.postsFree d d.pPost) with
  | none => none
  | some i =>
    match (s.pressQ q)[i]? with
    | none => none
    | some d => if (d.op == op || (op == 1 && d.op != 2)) && s.pressMay d then some (i, d) else none

/-- PRESS: the first waiting descriptor of a queue is checked and its tiles are sent (R409, R418). -/
def execPress (q : Fin 5) (env : MediaEnv) (s : State) : Host.Outcome State Fault Refusal :=
  .next (match s.pressNext q 1 with
    | none => s
    | some (i, d) =>
      match s.pressCheck d with
      | .ok =>
        let s := s.setPressQ q ((s.pressQ q).set i { d with begun := true, n := 0, wt := s.weave.wt })
        State.pressTiles env q i (d.ntiles + 1) 0 s
      | st => s.pressEnd q i st 0)

/-- CANCEL: CANCEL on CGROUP and NACK SOURCE to the coordinator (R418). -/
def execCancel (q : Fin 5) (s : State) : Host.Outcome State Fault Refusal :=
  .next (match s.pressNext q 2 with
    | none => s
    | some (i, d) =>
      match s.pressCheck d with
      | .ok =>
        let s := s.setPressQ q ((s.pressQ q).set i { d with begun := true })
        let (ok, s) := s.sendCancel d pcSource
        let s := s.toCoord (BitVec.ofNat 12 d.pCoordPcn) d.part.toNat d.pModel mNack pcSource (BitVec.ofNat 32 d.pVersion)
        match (s.pressQ q).findIdx? (fun x => x.begun && x.raw == d.raw) with
        | some j => s.pressEnd q j (if ok then .ok else .notReady) 0
        | none => s
      | st => s.pressEnd q i st 0)

/-- PRESS_TILE: a tile arrives, is forwarded by its multicast entry, and lands when the entry names this chip (R397-R399,
R414). -/
def execPressTile (t : PressTile) (s : State) : Host.Outcome State Fault Refusal :=
  let fs := tileFlits t.src t.group.toNat t.part.toNat t.model.toNat t.coord t.side t.data
  let (here, s) := s.mcArrive t.port t.group.toNat fs
  .next (if here && !s.inReset Page.hanger then s.pressLand t.model.toNat t.part.toNat t.coord t.side t.data else s)

/-- ARM arrives (R419). -/
def execArm (port : PortId) (group part : BitVec 12) (model : BitVec 4) (version : Word) (epoch : Dword) (s : State) :
    Host.Outcome State Fault Refusal :=
  let f := mcFlit 0 group.toNat part.toNat (engWord .pressCtrl model.toNat 0) 0 true (ctrlPayload mArm 0 version.toNat epoch.toNat)
  let (here, s) := s.mcArrive port group.toNat [f]
  .next (if here then s.hangerArm (modelOf model.toNat) part.toNat version epoch.toNat else s)

/-- CANCEL arrives (R400). -/
def execPressCtrlCancel (port : PortId) (group part : BitVec 12) (model : BitVec 4) (version : Word) (cause : Byte) (s : State) :
    Host.Outcome State Fault Refusal :=
  let f := mcFlit 0 group.toNat part.toNat (engWord .pressCtrl model.toNat 0) 0 true
    (ctrlPayload mCancel cause.toNat version.toNat 0)
  let (here, s) := s.mcArrive port group.toNat [f]
  .next (if here then
      (s.add Page.press PRESS_CANCELS_COUNT 1).hangerCancel (modelOf model.toNat) part.toNat version cause.toNat
    else s)

/-- ACK_READY arrives at the coordinator (R418). -/
def execAckReady (src : Pcn) (part : BitVec 12) (model : BitVec 4) (version : Word) (s : State) :
    Host.Outcome State Fault Refusal := .next (s.coordAck src part.toNat model.toNat version)

/-- NACK arrives at the coordinator (R418). -/
def execPressNack (_src : Pcn) (part : BitVec 12) (model : BitVec 4) (version : Word) (cause : Byte) (s : State) :
    Host.Outcome State Fault Refusal := .next (s.coordNack part.toNat model.toNat version cause.toNat)

/-- PRESS_DEADLINE: the oldest press that a queue coordinates passes its deadline (R418). -/
def execPressDeadline (q : Fin 5) (s : State) : Host.Outcome State Fault Refusal :=
  .next (match (s.pressQ q).findIdx? (fun d => d.begun && d.op == 1 && d.pCoord) with
    | some i => s.coordFail q i .timeout pcTimeout
    | none => s)

/-- HANGER_SETTLE: the last bound core has flipped and the old bank's reads have ended (R403). -/
def execHangerSettle (model : BitVec 4) (s : State) : Host.Outcome State Fault Refusal :=
  let m := modelOf model.toNat
  .next (if s.hg m HANGER_STATE_STATE = hSplit ∧ s.hg m HANGER_STATE_ON_NEW = s.hg m HANGER_CFG_CORES then
      let s := (s.updHanger m fun h => { h with bank := !h.bank, landed := [] }).hgSet m HANGER_STATE_STATE hSettled
      ((s.hgSet m HANGER_STATE_MARK markOld).hgSet m HANGER_STATE_ON_NEW 0).hgSet m HANGER_LANDED_TILES 0
    else s)

/-! FLIP, R402. -/

/-- Whether a FLIP of a core on a model takes effect now; in the CCLK in which the model becomes READY or ARMED it sees the state
before (R402, R404). -/
def State.flipActs (s : State) (m : Fin 16) (c : CoreId) : Bool :=
  let st := s.hg m HANGER_STATE_STATE
  let bound := s.modelValid m && (s.hg m HANGER_CFG_CORES).testBit c.1
  let fresh := !(s.hg m HANGER_STATE_ON_NEW).testBit c.1
  bound && fresh && (s.hanger m).readyAt != some s.clock.cclk &&
  (if s.hg m HANGER_CFG_LOCKSTEP = 1 then
    (st == hArmed || st == hSplit) &&
      decide (s.hg m HANGER_ARM_E_LO_E + 2 ^ 32 * s.hg m HANGER_ARM_E_HI_E ≤ s.epochNo)
   else st == hReady || st == hSplit)

/-- A FLIP that takes effect: the core's pointer and version move, and the model is SPLIT (R402, R403). -/
def State.flip (s : State) (m : Fin 16) (c : CoreId) : State :=
  let s := s.updHanger m fun h => { h with ptr := h.ptr ^^^ (1#4 <<< c.1) }
  let s := (s.hgSet m (HANGER_ACTIVE_VERSION.nth c.1) (s.hg m HANGER_PEND_VER_VERSION)).addI Page.hanger m.1
    HANGER_FLIPS_COUNT 1
  let s := s.hgSet m HANGER_STATE_ON_NEW (s.hg m HANGER_STATE_ON_NEW ||| 2 ^ c.1)
  s.hgSet m HANGER_STATE_STATE hSplit

/-! COMMIT of the HANGER and PRESS pages. -/

/-- A HANGER COMMIT's values, R437. -/
structure HangerReq where
  cores : Nat
  part  : Nat
  valid : Bool
  bank0 : Nat
  bank1 : Nat
  nseg  : Nat
  tiles : Nat
  deriving DecidableEq, Repr

/-- Whether ranges [a, a+n) and [b, b+k) share a number. -/
def overlap (a n b k : Nat) : Bool := decide (a < b + k) && decide (b < a + n)

/-- The checks of a HANGER COMMIT, whether or not VALID is set (R437). -/
def State.hangerCheck (s : State) (m : Fin 16) (r : HangerReq) : Status :=
  let others := (List.finRange 16).filter fun x => x != m && s.modelValid x
  let segs := (List.range r.nseg).map (r.bank0 + ·) ++ (List.range r.nseg).map (r.bank1 + ·)
  let bad := r.nseg = 0 ∨ 64 < r.nseg ∨ 128 < r.bank0 + r.nseg ∨ 128 < r.bank1 + r.nseg ∨
    overlap r.bank0 r.nseg r.bank1 r.nseg ∨
    others.any (fun x => [s.hg x HANGER_SEGS_BANK0, s.hg x HANGER_SEGS_BANK1].any fun b =>
      overlap r.bank0 r.nseg b (s.hg x HANGER_SEGS_NSEG) || overlap r.bank1 r.nseg b (s.hg x HANGER_SEGS_NSEG)) ∨
    r.tiles = 0 ∨ r.nseg * 4096 < r.tiles ∨ segs.any (fun g => !(s.grantedSegs r.part).contains g) ∨
    (coresOf r.cores).any (fun c => s.partOf c != some r.part)
  if bad then .mismatch
  else if (coresOf (r.cores ||| s.hg m HANGER_CFG_CORES)).any (fun c =>
      (s.core c).st == .running || (s.core c).st == .waiting) ∨ s.hg m HANGER_STATE_STATE ≠ hSettled then .busy
  else .ok

/-- An accepted HANGER COMMIT (R396): SETTLED, every bound core on bank 0 at version 0, bank 1 INVALID, span versions 0. -/
def State.hangerApply (s : State) (m : Fin 16) : State :=
  let s := s.updHanger m fun _ => Hanger.reset
  let s := ((s.hgSet m HANGER_STATE_STATE hSettled).hgSet m HANGER_STATE_MARK markInvalid).hgSet m HANGER_STATE_ON_NEW 0
  let s := (s.hgSet m HANGER_PEND_VER_VERSION 0).hgSet m HANGER_LANDED_TILES 0
  let s := (s.hgSet m HANGER_ARM_E_LO_E 0).hgSet m HANGER_ARM_E_HI_E 0
  eachOf allCores (fun c s => s.hgSet m (HANGER_ACTIVE_VERSION.nth c.1) 0) s

/-- The check of a PRESS_MC COMMIT, whether or not VALID is set (R438). -/
def State.pressMcCheck (s : State) (e group : Nat) : Status :=
  if (group = 0xFFF ∨ (List.range 64).any (fun x => x != e && s.getI Page.press x PRESS_MC_ENTRY_VALID == 1 &&
      s.getI Page.press x PRESS_MC_ENTRY_GROUP == group)) then .mismatch
  else .ok

/-- A partition's press descriptors end ABORTED, coordinators that run sending CANCEL first (R421). -/
def State.abortPress (s : State) (p : Desc → Bool) : State :=
  s.eachPress fun q i s =>
    match (s.pressQ q)[i]? with
    | some d =>
      if p d then
        (if d.begun ∧ d.op = 1 ∧ d.pCoord then s.coordFail q i .aborted pcPart else s.pressEnd q i .aborted pcPart)
      else s
    | none => s

end Sys2Proof.Machine
end

