-- ==== Sys2Proof/Machine/Rings.lean ====
section
/-!
DEFINITION. Experience rings (11_press.md R423-R439): lanes, records, producer entries with their credits, pushes and pops.
-/
namespace Sys2Proof.Machine

open Reg

/-! Rings. -/

/-- The live configuration of a ring, R439. -/
structure RingInfo where
  base   : Nat
  recb   : Nat
  depth  : Nat
  first  : Nat
  stride : Nat
  nprod  : Nat
  drop   : Bool
  byArrival : Bool
  part   : Nat
  valid  : Bool
  maxlag : Nat
  deriving DecidableEq, Repr

def State.ringInfo (s : State) (r : Nat) : RingInfo :=
  let g (f : Fld) : Nat := s.getI Page.xring r f
  { base := s.pair Page.xring r XRING_BASE_LO_BASE XRING_BASE_HI_BASE, recb := 64 * g XRING_REC_RECU, depth := 2 ^ g XRING_REC_DEPTH,
    first := g XRING_PROD_PROD_BASE, stride := g XRING_PROD_STRIDE, nprod := g XRING_MODE_NPROD,
    drop := g XRING_MODE_POLICY == 1, byArrival := g XRING_MODE_ORDER == 1, part := g XRING_MODE_PART,
    valid := g XRING_MODE_VALID == 1, maxlag := g XRING_MAXLAG_LAG }

/-- The lane of a producer rank (R423). -/
def RingInfo.lane (r : RingInfo) (rank : Nat) : Option Nat :=
  if r.first ≤ rank ∧ r.stride ≠ 0 ∧ (rank - r.first) % r.stride = 0 ∧ (rank - r.first) / r.stride < r.nprod then
    some ((rank - r.first) / r.stride)
  else none

def State.ring (s : State) (r : Nat) : Ring := (assocGet s.eng.rings r).getD ⟨[], [], 0⟩
def State.setRing (s : State) (r : Nat) (x : Ring) : State := s.updEng fun e => { e with rings := assocSet e.rings r x }

def Ring.lane (x : Ring) (l : Nat) : RingLane := (x.lanes.find? fun y => y.lane == l).getD ⟨l, 0, 0, 0, none⟩
def Ring.setLane (x : Ring) (y : RingLane) : Ring :=
  { x with lanes := if x.lanes.any (fun z => z.lane == y.lane) then x.lanes.map fun z => if z.lane = y.lane then y else z
    else x.lanes ++ [y] }

/-- Records landed and not consumed (XRING_HELD). -/
def Ring.held (x : Ring) : Nat := (x.lanes.map fun l => l.landed - l.taken).sum

/-- DRAM address of a lane's record (R423). -/
def RingInfo.slot (r : RingInfo) (lane seq : Nat) : Nat := r.base + (lane * r.depth + seq % r.depth) * r.recb

/-- The engine word of ring traffic: RING in bits [11:6] (R427, R431). -/
def ringEng (k : EngKind) (ring : Nat) : BitVec 16 := BitVec.ofNat 16 (k.code * 4096 + ring % 64 * 64)

/-- Messages of RING_CTRL, R431. -/
def ringCtl (msg cause lane rank count : Nat) : List Byte :=
  leBytes 1 msg ++ leBytes 1 cause ++ leBytes 2 lane ++ leBytes 2 rank ++ leBytes 2 0 ++ leBytes 4 count

/-- Send a ring control message on VC3. -/
def State.sendRing (s : State) (dst part ring msg cause lane rank count : Nat) : Option State :=
  s.sendEng vc3 false dst part (ringEng .ringCtrl ring) [ringCtl msg cause lane rank count]

/-! Records. -/

/-- A record's CRC (R426). -/
def recCrc (r : List Byte) : Nat := crc32c (r.take 60 ++ r.drop 64)

/-- A record lands in its lane's next slot: SEQ, LANE and CRC are completed (R426, R429). -/
def State.ringStore (s : State) (n : Nat) (info : RingInfo) (lane : Nat) (bytes : List Byte) : State :=
  let x := s.ring n
  let l := x.lane lane
  let body := slice bytes 0 info.recb
  let body := patchBytes (patchBytes (patchBytes body 0 (leBytes 4 l.landed)) 4 (leBytes 2 lane)) 60 (leBytes 4 0)
  let body := patchBytes body 60 (leBytes 4 (recCrc body))
  let s := s.writeDram (info.slot lane l.landed) body
  s.setRing n { (x.setLane { l with landed := l.landed + 1, granted := l.granted - 1 }) with
    arrival := x.arrival ++ [(lane, l.landed)] }

/-- RING_REC: a record arrives at its consumer (R429, R430). -/
def execRingRec (_src : Pcn) (part : BitVec 12) (ring : BitVec 6) (bytes : List Byte) (s : State) :
    Host.Outcome State Fault Refusal :=
  let n := ring.toNat
  let info := s.ringInfo n
  let refuse : State := s.addI Page.xring n XRING_OVERRUN_COUNT 1
  .next (if s.inReset Page.xring then s
    else if info.valid = false ∨ info.part ≠ part.toNat ∨ info.recb < 64 + field bytes 32 4 then refuse
    else
      match info.lane (field bytes 6 2) with
      | none => refuse
      | some lane =>
        let l := (s.ring n).lane lane
        if l.landed - l.taken < info.depth then s.ringStore n info lane bytes
        else if info.drop then
          let x := (s.ring n).setLane { l with taken := l.taken + 1 }
          let s := s.setRing n { x with arrival := x.arrival.filter (· != (lane, l.taken)) }
          let s := (s.addI Page.xring n XRING_DROPPED_COUNT 1).raise Page.xring Ev.RECORD_DROPPED
          s.ringStore n info lane bytes
        else refuse)

/-! Credits at the consumer. -/

/-- CREDIT_REQ: the lane's free slots are granted, or the request is refused (R430, R431). -/
def execCreditReq (src : Pcn) (part : BitVec 12) (ring : BitVec 6) (rank : BitVec 16) (s : State) :
    Host.Outcome State Fault Refusal :=
  let n := ring.toNat
  let info := s.ringInfo n
  .next (if s.inReset Page.xring then s
    else
      match if info.valid ∧ info.part = part.toNat then info.lane rank.toNat else none with
      | none => (s.sendRing src.toNat part.toNat n 3 Status.param.code 0 rank.toNat 0).getD s
      | some lane =>
        let x := s.ring n
        let l := x.lane lane
        let free := info.depth - (l.landed - l.taken) - l.granted
        match s.sendRing src.toNat part.toNat n 2 0 lane rank.toNat free with
        | some s => s.setRing n (x.setLane { l with granted := l.granted + free, src := some src })
        | none => s)

/-- CREDIT_RETURN: unused credits come back (R431). -/
def execCreditReturn (_src : Pcn) (part : BitVec 12) (ring : BitVec 6) (lane _rank : BitVec 16) (count : Word) (s : State) :
    Host.Outcome State Fault Refusal :=
  let n := ring.toNat
  let info := s.ringInfo n
  .next (if info.valid = false ∨ info.part ≠ part.toNat ∨ info.nprod ≤ lane.toNat then s
    else
      let x := s.ring n
      let l := x.lane lane.toNat
      s.setRing n (x.setLane { l with granted := l.granted - count.toNat, src := none }))

/-! Descriptors of the ring engine. -/

def Desc.rFlag (d : Desc) (i : Nat) : Bool := d.flags.testBit i
def Desc.rPost (d : Desc) : Bool := d.rFlag 1
def Desc.rRing (d : Desc) : Nat := field d.raw 3 1 % 64
def Desc.rCookie (d : Desc) : Nat := field d.raw 60 4
/-- The address at bytes 15:8 (R71). -/
def Desc.rAddr (d : Desc) : Nat := field d.raw 8 8
def Desc.rDest (d : Desc) : Nat := field d.raw 4 2 % 4096
def Desc.rLen (d : Desc) : Nat := field d.raw 16 4
def Desc.rCount (d : Desc) : Nat := field d.raw 4 4
def Desc.rCurver (d : Desc) : Nat := field d.raw 16 4
def Desc.rDeadline (d : Desc) : Nat := field d.raw 20 4

/-- SPACE and offset of an address (R71, R73): none when bits [59:40] are not zero. -/
def addrOf (x : Nat) : Option (Nat × Nat) := if bits x 59 40 = 0 then some (bits x 63 60, bits x 39 0) else none

/-- Whether an engine descriptor may name [o, o + n) of a space of a core: in the space, in the partition's DRAM windows, in
no hanger bank (03_bundles.md R73; 11_press.md R393; 13_partitions.md R476). -/
def State.engRange (s : State) (c : CoreId) (space o n : Nat) : Bool :=
  s.inSpace c space o n &&
  (if space = 1 then (match s.partOf c with | some p => !s.namesBank p o n | none => n == 0)
   else if space = 2 then
    (match s.partOf c with | some p => decide (o + n ≤ dramGeneral) && inWindows (s.partWindows p) o n | none => n == 0)
   else true)

def State.ringQ (s : State) (c : CoreId) : List Desc := s.eng.ring[c]
def State.setRingQ (s : State) (c : CoreId) (l : List Desc) : State := s.updEng fun e => { e with ring := e.ring.set c l }

/-- A ring descriptor leaves its queue with a status. -/
def State.ringEnd (s : State) (c : CoreId) (i : Nat) (st : Status) : State :=
  match (s.ringQ c)[i]? with
  | none => s
  | some d => (s.setRingQ c ((s.ringQ c).eraseIdx i)).completeDesc d st d.rPost d.rCookie

/-- Whether the ring engine may work now. -/
def State.ringMay (s : State) (d : Desc) : Bool :=
  !s.inReset Page.xring && !s.powerStopped && (d.begun || (s.mayStart && s.postsFree d d.rPost))

/-! Pushes, R424-R431. -/

/-- The producer entry of a destination ring and rank. -/
def State.prodOf (s : State) (dest ring rank : Nat) : Option Producer :=
  s.eng.prods.find? fun p => p.dest.toNat == dest && p.ring.toNat == ring && p.rank.toNat == rank

/-- Whether a push waits on an entry. -/
def State.prodBusy (s : State) (p : Producer) : Bool :=
  allCores.any fun c => (s.ringQ c).any fun d =>
    d.op == 1 && d.begun && d.out.isEmpty && d.rDest == p.dest.toNat && d.rRing == p.ring.toNat && s.rankOf c == p.rank.toNat

/-- Put a producer entry into the list, in place of the one with its key. -/
def putProd (l : List Producer) (p : Producer) : List Producer :=
  let same (x : Producer) : Bool := x.dest == p.dest && x.ring == p.ring && x.rank == p.rank
  if l.any same then l.map fun x => if same x then p else x else l ++ [p]

def State.setProd (s : State) (p : Producer) : State := s.updEng fun e => { e with prods := putProd e.prods p }

def State.delProd (s : State) (p : Producer) : State := s.updEng fun e => { e with prods := e.prods.filter fun x => !(x == p) }

/-- The record of a push: header and payload (R426). -/
def State.pushRecord (s : State) (c : CoreId) (d : Desc) (payload : List Byte) : List Byte :=
  let stamp := !d.rFlag 2
  leBytes 4 0 ++ leBytes 2 0 ++ leBytes 2 (s.rankOf c) ++ leBytes 4 (if stamp then d.verF.toNat else 0) ++
    leBytes 4 (if stamp then d.verL.toNat else 0) ++ leBytes 1 (field d.raw 2 1 % 16 + (if stamp then 0 else 16)) ++
    leBytes 7 0 ++ leBytes 8 d.wt.toNat ++ leBytes 4 d.rLen ++ leBytes 28 0 ++ payload

/-- Send the record of the push at place `i`, which completes once its last flit has left (R427). -/
def State.pushSend (s : State) (c : CoreId) (i : Nat) (d : Desc) (space o : Nat) : State :=
  let (payload, bad, s) := s.readSpace c space o d.rLen
  if bad then s.ringEnd c i .eccFatal
  else
    let rec64 := s.pushRecord c d payload
    let msgs := (List.range ((64 + d.rLen + 255) / 256)).map fun j => slice rec64 (256 * j) 256
    match s.sendEng vc1 false d.rDest d.part.toNat (ringEng .ringRec d.rRing) msgs with
    | some s =>
      let marks := match s.route d.rDest false with
        | some (p, _) => s.outMarks [p]
        | none => []
      s.setRingQ c ((s.ringQ c).set i { d with begun := true, out := marks })
    | none => s.ringEnd c i .notReady

/-- A push's checks: its operands, then for a HOLD ring its credit (R424, R428). -/
def State.pushRun (s : State) (c : CoreId) (i : Nat) (d : Desc) : State :=
  match addrOf d.rAddr with
  | none => s.ringEnd c i .param
  | some (space, o) =>
    if 65472 < d.rLen ∨ 2 < space ∨ s.engRange c space o d.rLen = false then s.ringEnd c i .param
    else if (if d.rDest = s.pcn.toNat then !(s.ringInfo d.rRing).drop else Config.ringHolds (BitVec.ofNat 12 d.rDest)
        (BitVec.ofNat 6 d.rRing)) = false then s.pushSend c i d space o
    else
      let rank := s.rankOf c
      match s.prodOf d.rDest d.rRing rank with
      | some p =>
        if p.opened ∧ 0 < p.free then (s.setProd { p with free := p.free - 1 }).pushSend c i d space o
        else s.setRingQ c ((s.ringQ c).set i { d with begun := true })
      | none =>
        let idle := s.eng.prods.find? fun p => !s.prodBusy p
        if 64 ≤ s.eng.prods.length ∧ idle = none then s.ringEnd c i .noSpace
        else
          let s := if s.eng.prods.length < 64 then s
            else
              match idle with
              | some p =>
                ((s.sendRing p.dest.toNat d.part.toNat p.ring.toNat 4 0 p.lane.toNat p.rank.toNat p.free).getD s).delProd p
              | none => s
          match s.sendRing d.rDest d.part.toNat d.rRing 1 0 0 rank 0 with
          | some s =>
            let s := s.setProd ⟨BitVec.ofNat 12 d.rDest, BitVec.ofNat 6 d.rRing, BitVec.ofNat 16 rank, 0, false, 0⟩
            s.setRingQ c ((s.ringQ c).set i { d with begun := true })
          | none => s.ringEnd c i .notReady

/-- The place of a core's first push whose record is not on its way. -/
def State.nextPush (s : State) (c : CoreId) : Option Nat := (s.ringQ c).findIdx? fun d => d.op != 2 && d.out.isEmpty

/-- PUSH: a core's first push in queue order; a record to the ring of one that is on its way waits for it (R427). -/
def State.push (s : State) (c : CoreId) : State :=
  match s.nextPush c with
  | none => s
  | some i =>
    match (s.ringQ c)[i]? with
    | none => s
    | some d =>
      if s.ringMay d = false ∨ (s.ringQ c).any fun x => !x.out.isEmpty && x.rDest == d.rDest && x.rRing == d.rRing then s
      else if d.op ≠ 1 then s.ringEnd c i .param
      else s.pushRun c i d

def execPush (core : CoreId) (s : State) : Host.Outcome State Fault Refusal := .next (s.push core)

/-- Cores whose first push waits on a producer entry. -/
def State.waitingPush (s : State) (dest ring rank : Nat) : List CoreId :=
  allCores.filter fun c => s.rankOf c == rank &&
    match (s.nextPush c).bind fun i => (s.ringQ c)[i]? with
    | some d => d.op == 1 && d.begun && d.rDest == dest && d.rRing == ring
    | none => false

/-- Waiting pushes go while credit lasts. -/
def State.pushWaiting : (fuel : Nat) → State → (dest ring rank : Nat) → State
  | 0, s, _, _, _ => s
  | fuel + 1, s, dest, ring, rank =>
    match s.prodOf dest ring rank, s.waitingPush dest ring rank with
    | some p, c :: _ => if 0 < p.free then State.pushWaiting fuel (s.push c) dest ring rank else s
    | _, _ => s

/-- CREDIT: free slots for a producer entry; pushes that wait are released (R431). -/
def execCredit (src : Pcn) (ring : BitVec 6) (lane rank : BitVec 16) (count : Word) (s : State) :
    Host.Outcome State Fault Refusal :=
  .next (match s.prodOf src.toNat ring.toNat rank.toNat with
    | none => s
    | some p =>
      State.pushWaiting 128 (s.setProd { p with lane := lane, opened := true, free := p.free + count.toNat }) src.toNat
        ring.toNat rank.toNat)

/-- NACK: the waiting push completes PARAM, and its entry closes (R430). -/
def execRingNack (src : Pcn) (ring : BitVec 6) (rank : BitVec 16) (s : State) : Host.Outcome State Fault Refusal :=
  .next (match s.prodOf src.toNat ring.toNat rank.toNat with
    | none => s
    | some p =>
      let waits := s.waitingPush src.toNat ring.toNat rank.toNat
      eachOf waits (fun c s =>
        match s.nextPush c with
        | some i => s.ringEnd c i .param
        | none => s) (s.delProd p))

/-! Pops, R432-R436. -/

/-- The lane whose next record a pop takes, with its SEQ (R434). -/
def Ring.nextRec (x : Ring) (info : RingInfo) : Option (Nat × Nat) :=
  if info.byArrival then x.arrival.head?
  else
    let l := x.lane x.round
    if l.taken < l.landed then some (x.round, l.taken) else none

/-- A record is consumed. -/
def Ring.consume (x : Ring) (info : RingInfo) (lane seq : Nat) : Ring :=
  let l := x.lane lane
  { (x.setLane { l with taken := l.taken + 1 }) with
    arrival := x.arrival.filter (· != (lane, seq)), round := if info.byArrival then x.round else (x.round + 1) % info.nprod }

/-- Take records until `want` are delivered or none is there: delivered so far, lanes consumed from, whether a read failed. -/
def State.popFrom (c : CoreId) (n : Nat) (info : RingInfo) (space dst curver want : Nat) :
    (fuel : Nat) → (got : Nat) → (lanes : List Nat) → State → Nat × List Nat × Bool × State
  | 0, got, lanes, s => (got, lanes, false, s)
  | fuel + 1, got, lanes, s =>
    if want ≤ got then (got, lanes, false, s)
    else
      match (s.ring n).nextRec info with
      | none => (got, lanes, false, s)
      | some (lane, seq) =>
        let (bs, bad, s) := s.readDram (info.slot lane seq) info.recb
        if bad then (got, lanes, true, s)
        else
          let s := s.setRing n ((s.ring n).consume info lane seq)
          let lanes := lanes ++ [lane]
          if recCrc bs ≠ field bs 60 4 then
            State.popFrom c n info space dst curver want fuel got lanes
              ((s.addI Page.xring n XRING_CRC_COUNT 1).raise Page.xring Ev.RECORD_CRC)
          else if info.maxlag ≠ 0xFFFF ∧ field bs 8 4 ≤ curver ∧ info.maxlag < curver - field bs 8 4 then
            State.popFrom c n info space dst curver want fuel got lanes (s.addI Page.xring n XRING_LAGGED_COUNT 1)
          else
            State.popFrom c n info space dst curver want fuel (got + 1) lanes (s.writeSpace c space (dst + got * info.recb) bs)

/-- Credits for consumed records go back to the producers of a HOLD ring (R431). -/
def State.creditBack (s : State) (n : Nat) (info : RingInfo) (lanes : List Nat) : State :=
  if info.drop then s
  else
    eachOf (lanes.foldl insertNat []) (fun lane s =>
      let k := (lanes.filter (· == lane)).length
      let l := (s.ring n).lane lane
      match l.src with
      | none => s
      | some p =>
        match s.sendRing p.toNat info.part n 2 0 lane (info.first + lane * info.stride) k with
        | some s => s.setRing n ((s.ring n).setLane { l with granted := l.granted + k })
        | none => s) s

/-- The number of records that a ring holds bounds a pop's work. -/
def State.pop (s : State) (c : CoreId) : State :=
  match (s.ringQ c).findIdx? (fun d => d.op == 2) with
  | none => s
  | some i =>
    match (s.ringQ c)[i]? with
    | none => s
    | some d =>
      let n := d.rRing
      let info := s.ringInfo n
      if s.ringMay d = false then s
      else
        match addrOf d.rAddr with
        | none => s.ringEnd c i .param
        | some (space, o) =>
          if d.begun = false ∧ (d.rCount = 0 ∨ 4096 < d.rCount ∨ info.valid = false ∨ s.partOf c ≠ some info.part ∨
              (space ≠ 1 ∧ space ≠ 2) ∨ s.engRange c space o (d.rCount * info.recb) = false) then s.ringEnd c i .param
          else
            let (got, lanes, bad, s) := State.popFrom c n info space o d.rCurver d.rCount ((s.ring n).held + 1) d.n [] s
            let s := s.creditBack n info lanes
            let s := s.set Page.xring (XRING_POP_N_COUNT.nth c.1) got
            let s := s.setRingQ c ((s.ringQ c).set i { d with begun := true, n := got })
            if bad then s.ringEnd c i .eccFatal else if d.rCount ≤ got then s.ringEnd c i .ok else s

/-- POP: a core's first pop takes what has landed (R434, R435). -/
def execPop (core : CoreId) (s : State) : Host.Outcome State Fault Refusal := .next (s.pop core)

/-- POP_DEADLINE: TIMEOUT; what was delivered stays consumed (R435). -/
def execPopDeadline (core : CoreId) (s : State) : Host.Outcome State Fault Refusal :=
  .next (match (s.ringQ core).findIdx? (fun d => d.op == 2) with
    | none => s
    | some i =>
      match (s.ringQ core)[i]? with
      | none => s
      | some d =>
        if d.rDeadline = 0 then s
        else (s.set Page.xring (XRING_POP_N_COUNT.nth core.1) d.n).ringEnd core i .timeout)

/-- Stamp a push at its issue (R425): span version and active version of MODEL; SPAN_END moves the span. -/
def State.pushStamp (s : State) (c : CoreId) (d : Desc) : Desc × State :=
  let m := modelOf (field d.raw 2 1 % 16)
  let active : Word := BitVec.ofNat 32 (s.hg m (HANGER_ACTIVE_VERSION.nth c.1))
  let span := (s.hanger m).span[c]
  let s := if d.rFlag 0 then s.updHanger m fun h => { h with span := h.span.set c active } else s
  ({ d with verF := span, verL := active }, s)

/-! COMMIT of the XRING page, R439. -/

/-- The checks of a ring COMMIT, whether or not VALID is set (R439). -/
def State.ringCheck (s : State) (n : Nat) (r : RingInfo) (recu depthCode : Nat) : Status :=
  if (recu < 2 ∨ 1024 < recu ∨ 12 < depthCode ∨ r.nprod = 0 ∨ 256 < r.nprod ∨ r.stride = 0 ∨
      16383 < r.first + (r.nprod - 1) * r.stride) then .mismatch
  else if r.base % 4096 ≠ 0 ∨ dramGeneral < r.base + r.nprod * r.depth * r.recb then .param
  else if allCores.any (fun c => (s.ringQ c).any fun d => d.op == 2 && d.rRing == n) then .busy
  else .ok

/-- An accepted ring COMMIT: every lane empty, SEQ 0, no credit (R439, R431). -/
def State.ringApply (s : State) (n : Nat) : State := s.updEng fun e => { e with rings := assocDel e.rings n }

/-- Every ring descriptor of a kind ends with a status. -/
def State.endRings (s : State) (p : Desc → Bool) (st : Status) : State :=
  eachOf allCores (fun c s =>
    eachOf (List.range (s.ringQ c).length).reverse (fun i s =>
      match (s.ringQ c)[i]? with
      | some d => if p d then s.ringEnd c i st else s
      | none => s) s) s

/-- A partition's ring descriptors end ABORTED. -/
def State.abortRings (s : State) (p : Desc → Bool) : State := s.endRings p .aborted

/-! Presses and pushes whose flits wait on a port (R350, R351, R418, R427). -/

/-- Flits have left their ports: presses and pushes whose last flit has been sent go on. -/
def State.flitsLeft (s : State) : State :=
  (s.eachPress fun q i s => s.sourceSent q i).endRings (fun d => !d.out.isEmpty && s.outSent d) .ok

/-- A port has dropped its queue: a press or push that had flits in it fails (09_weave.md R351). `was` is the state before. -/
def State.flitsLost (s was : State) (p : PortId) : State :=
  let lost (d : Desc) : Bool := d.out.any fun x => x.1 == p && !was.leftPort x
  (s.eachPress fun q i s =>
    match (s.pressQ q)[i]? with
    | some d => if lost d then s.sourceFail q i d .notReady pcLink else s
    | none => s).endRings lost .notReady

end Sys2Proof.Machine
end

