-- ==== Sys2Proof/Machine/Serving.lean ====
section
/-!
DEFINITION. Serving (12_serving.md): serving units, batch tables, the patch store, gathers with their residency slots, and the
step record.
-/
namespace Sys2Proof.Machine

open Reg

/-! Serving units. -/

/-- The live configuration of a serving unit, R466. -/
structure InstInfo where
  cores  : Nat
  rmax   : Nat
  model  : Fin 16
  ctx    : Nat
  valid  : Bool
  part   : Nat
  rows   : Nat
  tbl    : Nat
  store  : Nat
  seg    : Nat
  nres   : Nat
  tiles  : Nat
  deriving DecidableEq, Repr

def State.instInfo (s : State) (i : Nat) : InstInfo :=
  let g (f : Fld) : Nat := s.getI Page.patch i f
  { cores := g PATCH_I_CFG_CORES, rmax := g PATCH_I_CFG_RMAX, model := modelOf (g PATCH_I_CFG_MODEL), ctx := g PATCH_I_CFG_CTX,
    valid := g PATCH_I_CFG_VALID == 1, part := g PATCH_I_PART_PART, rows := g PATCH_I_PART_ROWS,
    tbl := s.pair Page.patch i PATCH_I_TBL_LO_TBL PATCH_I_TBL_HI_TBL,
    store := s.pair Page.patch i PATCH_I_STORE_LO_STORE PATCH_I_STORE_HI_STORE, seg := g PATCH_I_RES_SEG, nres := g PATCH_I_RES_NRES,
    tiles := g PATCH_I_RES_SLOT_TILES }

def State.serve (s : State) (i : Fin 16) : Serving := s.serving[i]
def State.updServe (s : State) (i : Fin 16) (f : Serving → Serving) : State :=
  { s with serving := s.serving.set i (f s.serving[i]) }

/-- The position of a core within its serving unit (R442). -/
def State.instPos (s : State) (x : InstInfo) (c : CoreId) : Nat :=
  ((coresOf x.cores).filter fun d => decide (s.rankOf d < s.rankOf c)).length

/-- Steps that every core of the serving unit has latched. -/
def State.latchedAll (s : State) (i : Fin 16) : Nat :=
  match (coresOf (s.instInfo i.1).cores).map fun c => (s.serve i).latched[c] with
  | [] => 0
  | x :: r => r.foldl min x

/-! Gather descriptors, R452. -/

def Desc.gInst (d : Desc) : Fin 16 := modelOf (field d.raw 2 1)
def Desc.gStep (d : Desc) : Nat := field d.raw 8 8
def Desc.gDst (d : Desc) : Nat := field d.raw 16 8
def Desc.gDeadline (d : Desc) : Nat := field d.raw 24 4

def State.gatherQ (s : State) (c : CoreId) : List Desc := s.eng.patch[c]
def State.setGatherQ (s : State) (c : CoreId) (l : List Desc) : State := s.updEng fun e => { e with patch := e.patch.set c l }

/-- The oldest gather of a core leaves with a status. -/
def State.gatherEnd (s : State) (c : CoreId) (st : Status) : State :=
  match s.gatherQ c with
  | [] => s
  | d :: r => (s.setGatherQ c r).completeDesc d st d.rPost d.rCookie

/-- A gather's checks before anything else (R453). -/
def State.gatherCheck (s : State) (c : CoreId) (d : Desc) : Bool :=
  let x := s.instInfo d.gInst.1
  d.op == 1 && x.valid && s.partOf c == some x.part && x.cores.testBit c.1 && d.gStep == (s.serve d.gInst).latched[c] &&
  match addrOf d.gDst with
  | some (space, o) => (space == 0 || space == 1) && o % 512 == 0 && s.engRange c space o 12800
  | none => false

/-! The table, R444. -/

/-- A row of a latched table: its 16 bytes. -/
def tableRow (t : List Byte) (r : Nat) : List Byte := slice t (64 + 16 * r) 16
def rowValid (t : List Byte) (r : Nat) : Bool := (field t (64 + 16 * r + 14) 1).testBit 0
def rowPatch (t : List Byte) (r : Nat) : Nat := field t (64 + 16 * r + 8) 2

/-- Whether a table's CRC, STEP and ROWS are right (R454). -/
def tableOk (t : List Byte) (step rows : Nat) : Bool :=
  crc32c (t.take 60 ++ t.drop 64) == field t 60 4 && field t 0 8 == step && field t 8 2 == rows

/-! Store entries, R449. -/

/-- A patch entry. -/
structure PatchEntry where
  rank  : Nat
  fmt   : Nat
  blk   : Nat
  valid : Bool
  alpha : Nat
  img   : Nat
  tiles : Nat
  gen   : Nat
  deriving DecidableEq, Repr

def PatchEntry.of (b : List Byte) : PatchEntry :=
  let c := field b 0 1
  { rank := c % 8, fmt := bits c 3 3, blk := bits c 5 4, valid := c.testBit 7, alpha := field b 4 4, img := field b 8 8,
    tiles := field b 16 2, gen := field b 20 4 }

def PatchEntry.bytes (e : PatchEntry) : List Byte :=
  leBytes 4 (e.rank + 8 * e.fmt + 16 * e.blk + (if e.valid then 128 else 0)) ++ leBytes 4 e.alpha ++ leBytes 8 e.img ++
    leBytes 4 e.tiles ++ leBytes 4 e.gen ++ leBytes 8 0

/-! Residency, R456. -/

/-- Scratchpad offset of a slot of a core's residency area; areas follow one another by position (log 24). -/
def State.slotOff (s : State) (x : InstInfo) (c : CoreId) (slot : Nat) : Nat :=
  let o := (s.instPos x c * x.nres + slot) * x.tiles * 4096
  match (s.grantedSegs x.part).findIdx? (· == x.seg + o / segBytes) with
  | some j => j * segBytes + o % segBytes
  | none => 0

/-- Load an image into a slot, tile by tile: the failing status, if any (R456). -/
def State.loadImage (env : MediaEnv) (x : InstInfo) (c : CoreId) (e : PatchEntry) (slot : Nat) :
    (fuel i : Nat) → State → Option Status × State
  | 0, _, s => (none, s)
  | fuel + 1, i, s =>
    let a := e.img + (s.instPos x c * e.tiles + i) * 4096
    let (data, bad, s) := s.readDramOver (env.link i) a 4096
    let (side, bad2, s) := s.readDram (sideStore + 32 * (a / 4096)) 32
    if bad || bad2 || !sideOk data side then (some .eccFatal, s)
    else if field side 16 4 ≠ e.gen then (some .mismatch, s)
    else
      State.loadImage env x c e slot fuel (i + 1) (s.writeScratch x.part (s.slotOff x c slot + 4096 * i) data)

/-- The slot that a patch gets: its own, the lowest empty one, or the one least recently named (R456); `busy` are the slots
named in this step. -/
def pickSlot (res : List ResSlot) (nres id : Nat) (busy : List Nat) : Option Nat :=
  match res.find? (fun r => r.id == id) with
  | some r => some r.slot
  | none =>
    match (List.range nres).find? (fun n => !res.any (fun r => r.slot == n) && !busy.contains n) with
    | some n => some n
    | none =>
      let can := (List.range nres).filterMap fun n =>
        if busy.contains n then none else res.find? fun r => r.slot == n
      match can with
      | [] => none
      | r :: rs => some (rs.foldl (fun (m : ResSlot) x => if x.used < m.used then x else m) r).slot

/-- Make the kept patches resident in ascending order: for each its slot, or the status of its failed load. -/
def State.residents (env : MediaEnv) (i : Fin 16) (x : InstInfo) (c : CoreId) (step : Nat) :
    List (Nat × PatchEntry) → List Nat → State → List (Nat × PatchEntry × Except Status Nat) × State
  | [], _, s => ([], s)
  | (id, e) :: r, busy, s =>
    let res := (s.serve i).res[c]
    match pickSlot res x.nres id busy with
    | none =>
      let (l, s) := State.residents env i x c step r busy s
      ((id, e, .error Status.noSpace) :: l, s)
    | some slot =>
      let keep := res.any fun y => y.slot == slot && y.id == id && y.gen.toNat == e.gen
      let setRes (f : List ResSlot → List ResSlot) (s : State) : State :=
        s.updServe i fun v => { v with res := v.res.set c (f v.res[c]) }
      let others (l : List ResSlot) : List ResSlot := l.filter fun y => y.slot != slot
      let here : ResSlot := ⟨slot, id, BitVec.ofNat 32 e.gen, step⟩
      let (out, s) : Except Status Nat × State :=
        if keep then (.ok slot, setRes (fun l => others l ++ [here]) s)
        else
          match State.loadImage env x c e slot e.tiles 0 s with
          | (none, s) => (.ok slot, setRes (fun l => others l ++ [here]) (s.add Page.patch PATCH_LOADS_COUNT 1))
          | (some st, s) =>
            (.error st, ((setRes others s).add Page.patch PATCH_LOAD_FAIL_COUNT 1).raise Page.patch Ev.LOAD_FAIL byBlock
              (arg id ++ arg st.code))
      let (l, s) := State.residents env i x c step r (busy ++ [slot]) s
      ((id, e, out) :: l, s)

/-! The step record, R458. -/

/-- A group: its number is its place in the list. -/
structure PatchGroup where
  id   : Nat
  e    : PatchEntry
  slot : Nat
  rows : List Nat
  deriving DecidableEq, Repr

/-- What becomes of a row: its group, or unpatched, or not processed, with its status. -/
def rowFate (t : List Byte) (groups : List PatchGroup) (bad : List (Nat × Status)) (r : Nat) : Nat × Status :=
  if rowValid t r = false then (0xFE, .ok)
  else if rowPatch t r = 0xFFFF then (0xFF, .ok)
  else
    match groups.findIdx? (fun g => g.id == rowPatch t r) with
    | some g => (g, .ok)
    | none => (0xFE, (assocGet bad (rowPatch t r)).getD .param)

/-- The 12,800 bytes of a step record. -/
def State.stepRecord (s : State) (x : InstInfo) (c : CoreId) (step : Nat) (t : List Byte) (runVer : Nat)
    (groups : List PatchGroup) (bad : List (Nat × Status)) : List Byte :=
  let fates := (List.range x.rows).map (rowFate t groups bad)
  let valid (r : Nat) : Bool := rowValid t r
  let fail := (List.range x.rows).filter fun r => valid r && (rowFate t groups bad r).2 != .ok
  let okRows := (List.range x.rows).filter fun r => valid r && (rowFate t groups bad r).2 == .ok
  let active := s.hg x.model (HANGER_ACTIVE_VERSION.nth c.1)
  let head := leBytes 8 step ++ leBytes 2 groups.length ++ leBytes 2 okRows.length ++ leBytes 2 fail.length ++ leBytes 2 0 ++
    leBytes 4 runVer ++ leBytes 4 (if runVer = active then 0 else 1) ++ leBytes 4 (field t 60 4)
  let map := fates.flatMap fun f => leBytes 1 f.1 ++ leBytes 1 f.2.code
  let firsts := (List.range groups.length).map fun i => ((groups.take i).map fun g => g.rows.length).sum
  let gs := (groups.zip firsts).flatMap fun p =>
    let g := p.1
    slice (leBytes 2 g.id ++ leBytes 1 (g.e.rank + 8 * g.e.fmt + 16 * g.e.blk) ++ leBytes 1 g.slot ++ leBytes 4 g.e.alpha ++
      leBytes 4 (s.slotOff x c g.slot) ++ leBytes 2 g.rows.length ++ leBytes 2 p.2 ++ leBytes 2 g.e.tiles ++ leBytes 2 0 ++
      leBytes 4 g.e.gen) 0 32
  let sorted := groups.flatMap fun g => g.rows.flatMap fun r => leBytes 2 r
  let rows := (List.range x.rows).flatMap (tableRow t)
  slice head 0 512 ++ slice map 0 1024 ++ slice gs 0 2048 ++ slice sorted 0 1024 ++ slice rows 0 8192

/-- Steps 4 to 6 of a gather (R454): entries, groups, residency, the record. -/
def State.gatherFinish (s : State) (env : MediaEnv) (c : CoreId) (d : Desc) : State :=
  let i := d.gInst
  let x := s.instInfo i.1
  let t := (s.serve i).tables[c]
  let ids := ((List.range x.rows).filter (fun r => rowValid t r && rowPatch t r != 0xFFFF)).foldl
    (fun l r => insertNat l (rowPatch t r)) []
  let (ents, s) := ids.foldl (fun (r : List (Nat × Option PatchEntry) × State) id =>
    let (bs, bad, s) := r.2.readDram (x.store + 32 * id) 32
    (r.1 ++ [(id, if bad then none else some (PatchEntry.of bs))], s)) ([], s)
  let unread := ents.filterMap fun p => match p.2 with | none => some (p.1, Status.eccFatal) | some _ => none
  let good := ents.filterMap fun p => match p.2 with
    | some e => if e.valid ∧ e.rank ≤ x.rmax then some (p.1, e) else none
    | none => none
  let kept := good.take x.nres
  let excess := (good.drop x.nres).map fun p => (p.1, Status.noSpace)
  let named := (s.serve i).res[c].filterMap fun r => if kept.any (fun p => p.1 == r.id) then some r.slot else none
  let (got, s) := State.residents env i x c d.gStep kept named s
  let groups := got.filterMap fun p => match p.2.2 with
    | .ok slot => some (⟨p.1, p.2.1, slot, (List.range x.rows).filter fun r => rowValid t r && rowPatch t r == p.1⟩ : PatchGroup)
    | .error _ => none
  let failed := got.filterMap fun p => match p.2.2 with | .error st => some (p.1, st) | .ok _ => none
  let bad := unread ++ excess ++ failed
  let ver := field t 12 4
  let runVer := if ver ≠ 0 then ver else d.verL.toNat
  let nfail := ((List.range x.rows).filter fun r => rowValid t r && (rowFate t groups bad r).2 != .ok).length
  let s := if nfail = 0 then s
    else (s.add Page.patch PATCH_ROW_FAIL_COUNT nfail).raise Page.patch Ev.ROWS_REJECTED byBlock
      (arg i.1 ++ arg64 d.gStep ++ arg nfail)
  match addrOf d.gDst with
  | some (space, o) => (s.writeSpace c space o (s.stepRecord x c d.gStep t runVer groups bad)).gatherEnd c .ok
  | none => s.gatherEnd c .param

/-- Step 3 of a gather: the model version that the step must run on (R454). -/
def State.gatherVersion (s : State) (env : MediaEnv) (c : CoreId) (d : Desc) : State :=
  let x := s.instInfo d.gInst.1
  let ver := field (s.serve d.gInst).tables[c] 12 4
  let active := s.hg x.model (HANGER_ACTIVE_VERSION.nth c.1)
  let st := s.hg x.model HANGER_STATE_STATE
  if ver ≠ 0 ∧ ver < active then s.gatherEnd c .param
  else if ver = 0 ∨ ver = active then s.gatherFinish env c d
  else if (st = hReady ∨ st = hSplit) ∧ s.hg x.model HANGER_PEND_VER_VERSION = ver then s.gatherFinish env c d
  else s

/-- Step 2 of a gather: the table is copied and the step is latched; LATCHED goes to the batch context when the last core
has it (R446, R454). -/
def State.gatherLatch (s : State) (env : MediaEnv) (c : CoreId) (d : Desc) : State :=
  let i := d.gInst
  let x := s.instInfo i.1
  let (t, bad, s) := s.readDram (x.tbl + 16384 * (d.gStep % 2)) (64 + 16 * x.rows)
  let before := s.latchedAll i
  let active : Word := BitVec.ofNat 32 (s.hg x.model (HANGER_ACTIVE_VERSION.nth c.1))
  let s := s.updServe i fun v => { v with latched := v.latched.set c (d.gStep + 1), tables := v.tables.set c t }
  let s := if before < s.latchedAll i then
      (if h : x.ctx < 64 then s.post ⟨x.ctx, h⟩ (cplEntry .ok 4 0 0 0 0 0 d.gStep) else s) else s
  if bad then s.gatherEnd c .eccFatal
  else if tableOk t d.gStep x.rows = false then
    (s.raise Page.patch Ev.TABLE_BAD byBlock (arg i.1 ++ arg64 d.gStep)).gatherEnd c .param
  else
    let d := { d with n := 2, verL := active }
    (s.setGatherQ c (d :: (s.gatherQ c).drop 1)).gatherVersion env c d

/-- GATHER: a core's oldest gather is checked and begins its wait for its step (R453, R454). -/
def execGather (core : CoreId) (s : State) : Host.Outcome State Fault Refusal :=
  .next (match s.gatherQ core with
    | [] => s
    | d :: r =>
      if d.begun ∨ s.inReset Page.patch ∨ s.mayStart = false ∨ s.postsFree d d.rPost = false then s
      else if s.gatherCheck core d = false then s.gatherEnd core .param
      else s.setGatherQ core ({ d with begun := true, n := 1 } :: r))

/-- GATHER_RESUME: a gather that waits goes on when its step is posted, or its version is ready (R454). -/
def execGatherResume (core : CoreId) (env : MediaEnv) (s : State) : Host.Outcome State Fault Refusal :=
  .next (match s.gatherQ core with
    | [] => s
    | d :: _ =>
      if d.begun = false ∨ s.inReset Page.patch ∨ s.powerStopped then s
      else if d.n = 1 then (if d.gStep < (s.serve d.gInst).posted then s.gatherLatch env core d else s)
      else s.gatherVersion env core d)

/-- GATHER_DEADLINE: DEADLINE passes while the gather waits (R454). -/
def execGatherDeadline (core : CoreId) (s : State) : Host.Outcome State Fault Refusal :=
  .next (match s.gatherQ core with
    | [] => s
    | d :: _ => if d.begun ∧ d.gDeadline ≠ 0 then s.gatherEnd core .timeout else s)

/-- A BATCH post, R445. -/
def State.batchPost (s : State) (n : CtxId) (inst step : Nat) : Status × State :=
  let i := modelOf inst
  let x := s.instInfo i.1
  if 16 ≤ inst ∨ x.valid = false ∨ x.ctx ≠ n.1 then (.authFail, s)
  else if step ≠ (s.serve i).posted then (.param, s)
  else if s.latchedAll i + 1 ≤ step then (.busy, s)
  else (.ok, s.updServe i fun v => { v with posted := step + 1 })

/-- A partition reset or EVICT: gathers end ABORTED and slots are emptied; posted and latched steps stay (R468). -/
def State.abortGathers (s : State) (p : Desc → Bool) : State :=
  eachOf allCores (fun c s =>
    let gone := (s.gatherQ c).filter p
    let s := s.setGatherQ c ((s.gatherQ c).filter fun d => !p d)
    eachOf gone (fun d s => s.completeDesc d .aborted d.rPost d.rCookie) s) s

def State.emptyResidency (s : State) (part : Nat) : State :=
  eachOf (List.finRange 16) (fun i s =>
    if (s.instInfo i.1).part = part then s.updServe i fun v => { v with res := Vector.replicate 4 [] } else s) s

/-! COMMIT of the PATCH page, R466. -/

/-- Segments of a serving unit's residency area. -/
def InstInfo.segs (x : InstInfo) : List Nat :=
  let n := x.nres * (coresOf x.cores).length * x.tiles * 4096
  (List.range ((n + segBytes - 1) / segBytes)).map (x.seg + ·)

/-- The checks of a serving unit COMMIT, whether or not VALID is set (R466). -/
def State.instCheck (s : State) (i : Fin 16) (x : InstInfo) : Status :=
  let old := (s.instInfo i.1).cores
  let bad := x.rows = 0 ∨ 512 < x.rows ∨ 4 < x.rmax ∨ x.cores = 0 ∨ (coresOf x.cores).any (fun c => s.partOf c != some x.part) ∨
    x.nres = 0 ∨ 64 < x.nres ∨ x.tiles = 0 ∨ x.segs.any (fun g => !(s.grantedSegs x.part).contains g) ∨
    x.tbl % 4096 ≠ 0 ∨ x.store % 4096 ≠ 0 ∨
    (List.finRange 16).any (fun j => j != i && (s.instInfo j.1).valid && (s.instInfo j.1).ctx == x.ctx) ∨
    s.modelValid x.model = false ∨ s.hg x.model HANGER_CFG_LOCKSTEP = 1 ∨ s.hg x.model HANGER_CFG_PART ≠ x.part
  if bad then .mismatch
  else if dramGeneral < x.tbl + 32768 ∨ dramGeneral < x.store + 2097152 then .param
  else if (coresOf (x.cores ||| old)).any (fun c => (s.core c).st == .running || (s.core c).st == .waiting) ∨
      allCores.any (fun c => (s.gatherQ c).any fun d => d.gInst == i) then .busy
  else .ok

def State.instApply (s : State) (i : Fin 16) : State := s.updServe i fun _ => Serving.reset

/-- The checks of an entry COMMIT into the store of a serving unit; only that of GEN asks for VALID (R466). -/
def State.entryCheck (s : State) (i : Fin 16) (id : Nat) (e : PatchEntry) : Status :=
  let x := s.instInfo i.1
  let rank := 4 * 2 ^ e.rank
  let size := if e.fmt = 0 then 1 else 2
  let last := field (s.readDram (x.store + 32 * id) 32).1 20 4
  if id = 0xFFFF ∨ 4 < e.rank ∨ x.rmax < e.rank ∨ e.blk ≠ (rank * size + 63) / 64 ∨ e.tiles = 0 ∨ x.tiles < e.tiles ∨
      e.img % 4096 ≠ 0 ∨ (e.valid ∧ e.gen ≤ last) then .mismatch
  else if dramGeneral < e.img + (coresOf x.cores).length * e.tiles * 4096 then .param
  else .ok

/-- An accepted entry COMMIT writes all 32 bytes (R450); VALID 0 keeps the GEN. -/
def State.entryApply (s : State) (i : Fin 16) (id : Nat) (e : PatchEntry) : State :=
  let a := (s.instInfo i.1).store + 32 * id
  let (old, _, s) := s.readDram a 32
  s.writeDram a (if e.valid then e else { e with gen := field old 20 4 }).bytes

end Sys2Proof.Machine
end

