-- ==== Sys2Proof/Machine/Issue.lean ====
section
/-!
DEFINITION. Issue of bundles (03_bundles.md R76-R93; 04_contract.md R121-R149): a slot operation is checked at decode and at
issue, its effects are gathered, and they take place when the last slot operation of its bundle has issued without a
fault; a fault of any slot is precise for the whole bundle.
-/
namespace Sys2Proof.Machine

open Reg

/-! Reasons of CONTRACT_FAULT: 04_contract.md R146, 03_bundles.md R90. -/

abbrev rReadUnfilled : Nat := 0x01
abbrev rOverwrite : Nat := 0x02
abbrev rUnitBusy : Nat := 0x03
abbrev rCollision : Nat := 0x04
abbrev rPending : Nat := 0x05
abbrev rUndeclared : Nat := 0x06
abbrev rOverrun : Nat := 0x07
abbrev rIllegalOpcode : Nat := 0x20
abbrev rIllegalClass : Nat := 0x21
abbrev rDupDest : Nat := 0x22
abbrev rDelayBranch : Nat := 0x23
abbrev rUnloaded : Nat := 0x24
abbrev rPcRange : Nat := 0x25
abbrev rFormat : Nat := 0x26
abbrev rReserved : Nat := 0x27

/-- What a check answers: a status and a CONTRACT_FAULT reason, 0 for another status. -/
abbrev Flaw := Status × Nat

def contract (reason : Nat) : Flaw := (.contractFault, reason)
def badParam : Flaw := (.param, 0)

/-! The order of faults, 03_bundles.md R89: fetch, header, slot decode from S0 to X, issue from S0 to X. -/

/-- Place of a header fault among them. -/
def headerRank (reason : Nat) : Nat :=
  if reason = rReserved then 1 else if reason = rIllegalClass then 2 else if reason = rDelayBranch then 3 else 4

/-- Place of a decode fault of a slot. -/
def decodeRank (slot reason : Nat) : Nat :=
  10 + 10 * slot +
    (if reason = rReserved then 0 else if reason = rIllegalOpcode then 1 else if reason = rFormat then 2
     else if reason = rDupDest then 3 else if reason = rDelayBranch then 4 else 5)

/-- Place of an issue fault of a slot. -/
def issueRank (slot : Nat) : Nat := 100 + slot

/-- Keep the first fault in the order of R89. -/
def Bundle.fail (b : Bundle) (rank : Nat) (x : Flaw) (slot : Nat) : Bundle :=
  let f : FaultRec := ⟨x.1, BitVec.ofNat 8 x.2, BitVec.ofNat 3 slot⟩
  match b.fault with
  | .none => { b with fault := some (rank, f) }
  | .some (r, _) => if rank < r then { b with fault := some (rank, f) } else b

def State.flaw (s : State) (c : CoreId) (rank : Nat) (x : Flaw) (slot : Nat) : State :=
  s.updCore c fun k => { k with bundle := k.bundle.fail rank x slot }

/-! Stops of a core. -/

/-- The completion that a core sends to the context that started it (13_partitions.md R485, R486). -/
def State.postCore (s : State) (c : CoreId) (kind : Nat) (st : Status) (reason pc : Nat) : State :=
  match (s.core c).owner with
  | some n => s.post n (cplEntry st kind 0 0 c.1 reason pc 0)
  | none => s

/-- Land every flit of the staging buffer, the banks being idle (04_contract.md R137). -/
def State.drainStaging (s : State) (c : CoreId) : State :=
  let l := (s.core c).staging
  let s := s.updCore c fun k => { k with staging := [] }
  eachOf l (fun f s =>
    let s := s.writeMem (.cmem c) f.addr f.data
    match f.last with
    | some b => s.tagEnd c b .ok
    | none => s) s

/-- A core leaves RUNNING or WAITING: what is in flight lands (03_bundles.md R88). -/
def State.stopCore (s : State) (c : CoreId) (st : CoreSt) : State :=
  ((s.drainStaging c).landAll c).updCore c fun k => { k with st := st, bundle := Bundle.none, held := none }

/-- A fault stops the core in FAULTED, is recorded, logged and posted (03_bundles.md R88, R117, R119); its collectives
abort (10_mangle.md R375). -/
def State.takeFault (s : State) (c : CoreId) (f : FaultRec) (pc : Nat) : State :=
  let pg := Page.core c.1
  let s := (s.stopCore c .faulted).updCore c fun k => { k with br := none, yld := none }
  let s := ((s.setStatus pg CORE_FAULT_STATUS f.status).set pg CORE_FAULT_REASON f.reason.toNat).set pg CORE_FAULT_PC pc
  let s := (s.set pg CORE_FAULT_SLOT f.slot.toNat).set pg CORE_FAULT_VALID 1
  let s := s.raise pg Ev.CORE_FAULT (byCore c) (arg f.status.code ++ arg f.reason.toNat ++ arg pc ++ arg f.slot.toNat)
  let s := s.postCore c 3 f.status f.reason.toNat pc
  s.mangleCoreAbort c cMemberFault

/-- A core enters DEBUG_HALT at a bundle boundary (03_bundles.md R85, R117, R119); operations in flight complete during the
halt (04_contract.md R156). -/
def State.debugHalt (s : State) (c : CoreId) : State :=
  let s := ((s.stopCore c .debugHalt).updCore c fun k => { k with stepping := false }).set (Page.core c.1) CORE_CTRL_HALT_REQ 0
  s.raise (Page.core c.1) Ev.DEBUG_HALT (byCore c) (arg (s.core c).pc.toNat)

/-- Whether BRK halts the core: BRK_EN is set, and the bundle is not the one that STEP issues (03_bundles.md R85, R117). -/
def State.breaks (s : State) (c : CoreId) : Bool :=
  s.flag (Page.core c.1) CORE_CTRL_BRK_EN && !(s.core c).stepping

/-- Every engine descriptor that a core issued in its present life ends ABORTED (06_tiers.md R211; 13_partitions.md R492). -/
def State.abortEngines (s : State) (c : CoreId) : State :=
  let life := (s.core c).life
  let p := fun (d : Desc) => d.core == some c && d.life == life
  (((s.abortPress p).abortGathers p).abortRings p).abortTier ⟨c.1, by omega⟩ p .aborted

/-- Every descriptor and collective of a core ends ABORTED (13_partitions.md R492). -/
def State.abortWork (s : State) (c : CoreId) : State := (s.mangleCoreAbort c cPartReset).abortEngines c

/-! Effects. -/

/-- CCLK in a tick of 6.4 ns at the running gear (15_clocks_power.md R540). -/
def State.cclkPerTick (s : State) : Nat := 8 - min 4 (s.get Page.clk CLK_STATUS_GEAR)

/-- The CCLK of the chip at the next clock frame boundary: a frame is 50 CCLK, on the grid anchored at a tick (04_contract.md
R121; 15_clocks_power.md R540, R552). -/
def State.frameCclk (s : State) : Nat :=
  s.clock.cclk + ((-((s.cclkPerTick : Int) * ((s.weave.wt.toNat : Int) - s.clock.anchor))) % 50).toNat

/-- A descriptor enters the queue of its engine: a push takes its version stamps at issue (11_press.md R425); an engine in
reset answers RESET_NACK (16_reset.md R582). -/
def State.enqueue (s : State) (c : CoreId) (e : EngineId) (d : Desc) : State :=
  match e with
  | .tier => if s.inReset Page.tier then s.nackDesc c d else s.pushTier ⟨c.1, by omega⟩ d
  | .ring =>
    if s.inReset Page.xring then s.nackDesc c d
    else if d.op = 1 then let (d, s) := s.pushStamp c d; s.setRingQ c (s.ringQ c ++ [d])
    else s.setRingQ c (s.ringQ c ++ [d])
  | .press =>
    if s.inReset Page.press then s.nackDesc c d
    else let q : Fin 5 := ⟨c.1, by omega⟩; s.setPressQ q (s.pressQ q ++ [d])
  | .patch => if s.inReset Page.patch then s.nackDesc c d else s.setGatherQ c (s.gatherQ c ++ [d])

/-- The FCLK that XMEM accesses want: one access of 2,048 bytes for two CCLK, from CCLK `t` of the chip on (R133, R139;
log 5). -/
def beatsFrom (op t : Nat) : List Nat → List Beat
  | [] => []
  | g :: r => ⟨op, t * 4 / 5, g⟩ :: beatsFrom op (t + 2) r

/-- One effect of an operation of slot `i` of the bundle at `pc` that issues in CCLK `cyc`. -/
def State.applyEff (s : State) (c : CoreId) (pc : BitVec 11) (cyc i : Nat) : Eff → State
  | .land l w => s.updCore c fun k => { k with flights := k.flights ++ [⟨cyc + l, cyc * 8 + i, pc, w⟩] }
  | .banks cls first b =>
    if b.isEmpty then s else s.updCore c fun k => { k with access := k.access ++ [⟨cyc * 8 + i, cls, cyc + first, b⟩] }
  | .beats first segs =>
    s.updCore c fun k => { k with beats := k.beats ++ beatsFrom (cyc * 8 + i) (k.start + cyc + first) segs }
  | .busy u n => s.updCore c fun k => { k with busy := k.busy ++ [(u, cyc * 8 + i, cyc + n)] }
  | .tagWrite b => s.updCore c (·.tagWrite b)
  | .tagRead b => s.updCore c (·.tagRead b)
  | .branch dest => s.updCore c fun k => { k with br := some (2, dest) }
  | .yieldTo pc => s.updCore c fun k => { k with yld := some (2, pc) }
  | .send p fs =>
    let at_ := (s.core c).start + cyc + 2
    let tx := ((List.range fs.length).zip fs).map fun x => TxFlit.mk x.2 (cyc * 8 + i) (at_ + x.1 / 2)
    s.updPort p fun k => { k with vc0 := k.vc0.set c (k.vc0[c] ++ tx) }
  | .recv r => s.updCore c fun k => { k with recvs := k.recvs ++ [r] }
  | .enq e d => s.enqueue c e d
  | .blocksInvalid first n =>
    s.updCore c fun k => { k with imemOk := k.imemOk &&& ~~~(BitVec.ofNat 32 (2 ^ n - 1) <<< first) }
  | .lanes l => s.updCore c fun k => { k with lanes := l }
  | .drawOp => s.add Page.spin (SPIN_ISSUE_COUNT.nth c.1) 1
  | .sample x => s.updCore c fun k => { k with sample := x }
  | .scupd slot =>
    let (x, s) := s.scaleUpdate c slot
    match x with
    | some w => s.updCore c fun k => { k with flights := k.flights ++ [⟨cyc + 6, cyc * 8 + i, pc, .scale slot w⟩] }
    | none => s
  | .saturated n => s.saturated c n
  | .gradNonfinite n => s.gradNonfinite c n
  | .coll desc th => s.collIssue c desc ((s.core c).rt th)
  | .flip m => s.flip (modelOf m.toNat) c
  | .ues m ws => s.foundUe m ws
  | .eccStop => s

/-! The bundle as a whole. -/

/-- Whether the operations of a core may issue now: it is RUNNING, not held by QUIESCE_N (18_access.md R638), its clocks
are not paused (15_clocks_power.md R552). -/
def State.mayIssue (s : State) (c : CoreId) : Bool :=
  (s.core c).st == .running && !(s.core c).quiet && !s.clock.paused

/-- The first slot operation of a bundle: the fetch checks (05_buffers.md R174; 03_bundles.md R97), and sequential issue past
bundle 2,047 (R89, R90). -/
def State.openBundle (s : State) (c : CoreId) : State :=
  let k := s.core c
  if k.bundle.opened then s
  else
    let a := k.pc.toNat * 128
    let ws := s.uesIn (.imem c) a 128
    let s := (s.foundUe (.imem c) ws).updCore c fun k => { k with bundle := { Bundle.none with opened := true } }
    let s := if ws.isEmpty then s else s.flaw c 0 (.eccFatal, 0) 7
    let s := if k.imemOk.getLsbD (k.pc.toNat / 64) then s else s.flaw c 0 (contract rUnloaded) 7
    let leaves := match k.br, k.yld with
      | some (1, .goto _), _ => true
      | some (1, .halt), _ => true
      | _, some (1, _) => true
      | _, _ => false
    if k.pc.toNat = 2047 ∧ leaves = false then s.flaw c (headerRank rPcRange) (contract rPcRange) 7 else s

/-- The program counter after a bundle and what happens there, from the transfers under way (03_bundles.md R91, R111). -/
def Core.advance (k : Core) : BitVec 11 × Bool × Bool × Core :=
  let next := k.pc + 1
  let (pc, halt, br) := match k.br with
    | some (n, dest) =>
      if 1 < n then (next, false, some (n - 1, dest))
      else match dest with
        | .fall => (next, false, none)
        | .goto t => (t, false, none)
        | .halt => (next, true, none)
    | none => (next, false, none)
  let (pc, left, yld) := match k.yld with
    | some (n, t) => if 1 < n then (pc, false, some (n - 1, t)) else (t, true, none)
    | none => (pc, false, none)
  (pc, halt, left, { k with pc := pc, br := br, yld := yld })

/-- The fault of the bundle that a core is about to issue, with the bundle that it names: a write of an earlier bundle that
met another in its register (04_contract.md R129; log 90); else the first of the bundle's own, RECV_OVERRUN among them when a
flit found the staging buffer full (R138; log 91). -/
def Core.stop (k : Core) : Option (FaultRec × Nat) :=
  match k.clash with
  | some (pc, slot) => some (⟨.contractFault, BitVec.ofNat 8 rCollision, BitVec.ofNat 3 slot⟩, pc.toNat)
  | none =>
    let b := if k.overrun then k.bundle.fail (issueRank 5) (contract rOverrun) 5 else k.bundle
    b.fault.map fun f => (f.2, k.pc.toNat)

/-- The last slot operation of a bundle has come: the bundle faults, or its effects take place and a CCLK passes. CYC of a core
that halts keeps the count of its last bundle (04_contract.md R121). -/
def State.finish (s : State) (c : CoreId) : State :=
  let k := s.core c
  let pc := k.pc.toNat
  match k.stop with
  | some f => (s.updCore c fun k => { k with clash := none, overrun := false }).takeFault c f.1 f.2
  | none =>
    let effs := k.bundle.effs.mergeSort fun a b => decide (a.1 ≤ b.1)
    let ecc := effs.find? fun e => e.2 == .eccStop
    let (_, halt, left, k) := k.advance
    let s := s.setCore c { k with bundle := Bundle.none }
    let s := eachOf effs (fun e s => s.applyEff c (BitVec.ofNat 11 pc) k.cyc e.1 e.2) s
    let s := s.cclk c
    let s := if left then (s.abortWork c).updCore c fun k => { k with evict := false } else s
    match ecc with
    | some e => s.takeFault c ⟨.eccFatal, 0, BitVec.ofNat 3 e.1⟩ pc
    | none =>
      if halt then ((s.stopCore c .stopped).updCore c fun x => { x with cyc := k.cyc }).postCore c 2 .ok 0 pc
      else if (s.core c).st == .running && (s.flag (Page.core c.1) CORE_CTRL_HALT_REQ || (s.core c).stepping) then s.debugHalt c
      else s

/-! One slot operation. -/

/-- A slot operation: its slot, the registers that it names as destinations, its decode fault if any (RESERVED_SET or
FORMAT), whether it is a branch-unit operation or the YIELD of a class YIELD bundle, whether it is a RET beyond bundle
2,047, the units that it holds and for how long, and what it does: an issue fault, or its effects. A matrix operation
begins at an even CYC (04_contract.md R123). -/
structure SlotOp where
  slot   : Nat
  dests  : List Dst
  bad    : Option Nat
  branch : Bool := false
  yields : Bool := false
  retFar : State → Core → Bool := fun _ _ => false
  units  : List Unit' := []
  occ    : Nat := 1
  matrix : Bool := false
  run    : State → Core → Except Flaw (List Eff)

/-- CCLK between issue and begin (R123). -/
def SlotOp.lag (op : SlotOp) (k : Core) : Nat := if op.matrix then k.cyc % 2 else 0

/-- Whether the operation's predicate condition holds (03_bundles.md R80). -/
def frameHolds (fr : Frame) (k : Core) : Bool := !fr.pen || (k.rp fr.pred != fr.pneg)

/-- The destinations that an operation adds to its bundle, with DUP_DEST at the later slot (R87, R89). -/
def State.nameDests (s : State) (c : CoreId) (slot : Nat) : List Dst → State
  | [] => s
  | d :: r =>
    let b := (s.core c).bundle
    let s := match b.dests.find? (fun x => x.2 == d && x.1 != slot) with
      | some x => let m := max x.1 slot; s.flaw c (decodeRank m rDupDest) (contract rDupDest) m
      | none => s
    (s.updCore c fun k => { k with bundle := { k.bundle with dests := k.bundle.dests ++ [(slot, d)] } }).nameDests c slot r

/-- The decode checks of a slot, whatever its predicate, the PC_RANGE of RET among them (R81, R89, R90, R93). -/
def State.decodeSlot (s : State) (c : CoreId) (op : SlotOp) : State :=
  let k := s.core c
  let s := match op.bad with
    | some r => s.flaw c (decodeRank op.slot r) (contract r) op.slot
    | none => s
  let s := s.nameDests c op.slot op.dests
  let delay := k.br.isSome
  let s := if op.branch && delay then s.flaw c (decodeRank op.slot rDelayBranch) (contract rDelayBranch) op.slot else s
  let s := if op.yields && delay then s.flaw c (headerRank rDelayBranch) (contract rDelayBranch) 7 else s
  if op.retFar s k then s.flaw c (decodeRank op.slot rPcRange) (contract rPcRange) op.slot else s

/-- Whether a unit is held in the CCLK in which an operation issues to it (04_contract.md R125, R128). -/
def Core.unitBusy (k : Core) (us : List Unit') : Bool :=
  k.busy.any fun b => us.contains b.1 && decide (k.cyc < b.2.2)

/-- Whether an operation in flight still has accesses to come, which may be deferred. -/
def Core.unsettled (k : Core) (op : Nat) : Bool := k.access.any (fun x => x.op == op) || k.beats.any fun x => x.op == op

/-- Whether a register write of the effects lands with one in flight (R129): known at issue when no access of either is still to
come; else it shows when both land (log 90). -/
def Core.collides (k : Core) (effs : List Eff) : Bool :=
  !(effs.any fun e => match e with | .banks .. => true | .beats .. => true | _ => false) &&
  effs.any fun e => match e with
    | .land l w =>
      match w.dst with
      | some d => k.flights.any fun f => f.what.dst == some d && f.due == k.cyc + l && !k.unsettled f.op
      | none => false
    | _ => false

/-- The issue checks of a slot operation, UNIT_BUSY first (R681), and its effects. -/
def State.issueSlot (s : State) (c : CoreId) (op : SlotOp) : State :=
  let k := s.core c
  if k.unitBusy op.units then s.flaw c (issueRank op.slot) (contract rUnitBusy) op.slot
  else
    match op.run s k with
    | .error x => s.flaw c (issueRank op.slot) x op.slot
    | .ok effs =>
      if k.collides effs then s.flaw c (issueRank op.slot) (contract rCollision) op.slot
      else
        let effs := op.units.map (fun u => Eff.busy u (op.lag k + op.occ)) ++ effs
        s.updCore c fun k =>
          { k with bundle := { k.bundle with effs := k.bundle.effs ++ effs.map fun e => (op.slot, e) } }

/-- A slot operation that is not WAIT or EPOCHW. A branch-unit operation whose predicate is false is not taken, yet its
delay bundles are checked (R92, R93). -/
def State.slotOp (s : State) (fr : Frame) (op : SlotOp) : State :=
  let c := fr.core
  if s.mayIssue c then
    let s := (s.openBundle c).decodeSlot c op
    let s :=
      if frameHolds fr (s.core c) then s.issueSlot c op
      else if op.branch then
        s.updCore c fun k => { k with bundle := { k.bundle with effs := k.bundle.effs ++ [(op.slot, .branch .fall)] } }
      else s
    if fr.eob then s.finish c else s
  else s

/-! Holds of WAIT and EPOCH bundles. -/

/-- Whether a register write is pending (04_contract.md R130). -/
def Core.writePending (k : Core) : Bool := k.flights.any fun f => f.what.dst.isSome

/-- A hold ends: the counters of a WAIT and its event (R149, R153). -/
def State.endHold (s : State) (c : CoreId) (h : Held) : State :=
  let pg := Page.core c.1
  let s := s.updCore c fun k => { k with held := none, st := .running }
  match h.what with
  | .epoch _ => s
  | .slot b =>
    if h.ticks = 0 then s
    else
      let pc := (s.core c).pc.toNat
      let s := (s.add pg CORE_WAIT_HELD_COUNT 1).add pg CORE_WAIT_TICKS_TICKS h.ticks
      let s := if s.get pg CORE_WAIT_MAX_TICKS < h.ticks then
          ((s.set pg CORE_WAIT_MAX_TICKS (min h.ticks (2 ^ 32 - 1))).set pg CORE_WAIT_MAX_PC_PC pc).set pg
            CORE_WAIT_MAX_PC_BSLOT b.toNat
        else s
      if s.flag pg CORE_CONTRACT_CTRL_WAIT_EVENT_EN then
        s.raise pg Ev.WAIT_HELD (byCore c) (arg pc ++ arg b.toNat ++ arg h.ticks)
      else s

/-- A bundle is over when its slot X was its last. -/
def State.atEnd (s : State) (c : CoreId) (eob : Bool) : State := if eob then s.finish c else s

/-- A held bundle issues: EPOCHW holds its unit, and its destination gets the epoch number (03_bundles.md R108); the bundle goes
on. -/
def State.releaseHold (s : State) (c : CoreId) (h : Held) : State :=
  let s := s.endHold c h
  let s := match h.sd with
    | some i =>
      if (s.core c).unitBusy [.x] then s.flaw c (issueRank 6) (contract rUnitBusy) 6
      else
        let e : Eff := .land 1 (.regS i (BitVec.ofNat 64 s.epochNo))
        s.updCore c fun k => { k with bundle := { k.bundle with effs := k.bundle.effs ++ [(6, e), (6, .busy .x 1)] } }
    | none => s
  s.atEnd c h.eob

/-- A held bundle ends in a fault of slot X. -/
def State.failHold (s : State) (c : CoreId) (h : Held) (st : Status) : State :=
  let s := s.endHold c h
  s.takeFault c ⟨st, 0, 6⟩ (s.core c).pc.toNat

/-- A budget is exceeded: TIMEOUT, or ABORTED for a WAIT on the buffer of a collective (R84; 10_mangle.md R375). -/
def State.budgetOut (s : State) (c : CoreId) (h : Held) : State :=
  match h.what with
  | .slot b => let r := s.mangleWaitTimeout c b; r.2.failHold c h (if r.1 then .aborted else .timeout)
  | .epoch _ => s.failHold c h .timeout

/-- What a hold meets now: it has lasted longer than its budget (R84); or the bundle issues, faults with the status recorded
against the slot (06_tiers.md R209), or goes on holding. -/
def State.tryHold (s : State) (c : CoreId) (h : Held) : State :=
  if h.budget < h.ticks then s.budgetOut c h
  else match h.what with
  | .slot b =>
    let x := (s.core c).slot b
    if x.tag = .full then s.releaseHold c h
    else match x.err with
      | some st => s.failHold c h st
      | none => s
  | .epoch e => if e ≤ s.epochNo then s.releaseHold c h else s

/-- A WAIT or EPOCHW operation, the first of its bundle: it issues at once, or its bundle is held (R83, R84, R130). A bundle that
has a fault is not held: its other slots are checked too, and it faults at its end (R89). -/
def State.holdOp (s : State) (fr : Frame) (op : SlotOp) (budget : Word) (what : State → Core → HoldFor)
    (sd : Option (BitVec 6)) : State :=
  let c := fr.core
  if s.mayIssue c then
    let s := (s.openBundle c).decodeSlot c op
    let s := if (s.core c).writePending then s.flaw c (issueRank 6) (contract rPending) 6 else s
    let k := s.core c
    if k.bundle.fault.isSome || !frameHolds fr k then s.atEnd c fr.eob
    else
      let h : Held := ⟨what s k, budget.toNat, 0, 0, sd, fr.eob⟩
      let s := (s.updCore c fun k => { k with held := some h, st := .waiting }).tryHold c h
      if (s.core c).held.isSome ∧ budget = 0 then s.budgetOut c h else s
  else s

/-! Time in a core. -/

/-- Whether something is in flight in a core. -/
def Core.inFlight (k : Core) : Bool :=
  !k.flights.isEmpty || !k.access.isEmpty || !k.beats.isEmpty || !k.staging.isEmpty

/-- CCLK pass one by one while something is in flight. -/
def State.cclksBusy : (fuel n : Nat) → State → CoreId → Nat × State
  | 0, n, s, _ => (n, s)
  | fuel + 1, n, s, c =>
    if n = 0 ∨ (s.core c).inFlight = false then (n, s) else State.cclksBusy fuel (n - 1) (s.cclk c) c

/-- `n` CCLK pass in a core: no operation is in flight for longer than 4,096. -/
def State.passCclk (s : State) (n : Nat) (c : CoreId) : State :=
  let r := State.cclksBusy (min n 4096) n s c
  (r.2.updCore c fun k => { k with cyc := k.cyc + r.1 }).landDue c

/-- At a weave period boundary each port takes its VC weights (09_weave.md R345). -/
def State.loadWeights (s : State) : State :=
  { s with ports := Vector.ofFn fun p =>
      { s.ports[p] with weights := #v[BitVec.ofNat 8 (s.get Page.weave (WEAVE_VCW_W1.nth p.1)),
          BitVec.ofNat 8 (s.get Page.weave (WEAVE_VCW_W2.nth p.1)), BitVec.ofNat 8 (s.get Page.weave (WEAVE_VCW_W3.nth p.1))] } }

/-- A held bundle counts `n` ticks and their CCLK in its hold and in the core's registers, and CCLK pass (04_contract.md R147,
R148, R153). -/
def State.holdTicks (s : State) (n : Nat) (c : CoreId) : State :=
  match (s.core c).held with
  | none => s
  | some h =>
    let m := n * s.cclkPerTick
    let pg := Page.core c.1
    let s := (s.updCore c fun k => { k with held := some { h with ticks := h.ticks + n, cclk := h.cclk + m } }).add pg
      CORE_HOLD_CCLK_CCLK m
    let s := match h.what with
      | .epoch _ => s.add pg CORE_EPOCH_TICKS_TICKS n
      | .slot _ => s
    s.passCclk m c

/-- `n` ticks pass: weave time advances (09_weave.md R317), and while the clocks run their CCLK and the holds with it
(04_contract.md R147, R148, R150). -/
def State.passTicks (s : State) (n : Nat) : State :=
  let period := s.weave.wt.toNat / 4096
  let s := s.updWeave fun w => { w with wt := w.wt + BitVec.ofNat 64 n }
  let s := if s.weave.wt.toNat / 4096 = period then s else s.loadWeights
  if s.clock.paused then s
  else eachOf allCores (fun c s => s.holdTicks n c) (s.updClock fun k => { k with cclk := k.cclk + n * s.cclkPerTick })

end Sys2Proof.Machine
end

