-- ==== Sys2Proof/Machine/Scalar.lean ====
section
/-!
DEFINITION. The scalar slots and the branch slot (03_bundles.md R79, R90-R100; 04_contract.md R126).
-/
namespace Sys2Proof

/-- The index of a slot, S0 to X (03_bundles.md R77). -/
def SlotId.idx : SlotId → Nat
  | .s0 => 0 | .s1 => 1 | .b => 2 | .v => 3 | .m => 4 | .d => 5 | .x => 6

end Sys2Proof

namespace Sys2Proof.Machine

open Reg

/-! The scalar slots. -/

/-- The slot and the unit of a scalar operation. -/
def scalarSlot (f : ScalarF) : Nat := if f.s1 then 1 else 0
def scalarUnit (f : ScalarF) : Unit' := if f.s1 then .s1 else .s0

/-- opB: IMM or sSRCB (R99). -/
def opB (f : ScalarF) (k : Core) : Dword := if f.immsel then f.imm else k.rs f.srcb

/-- RESERVED_SET for a predicate or address destination with DST[5:4] set (R99). -/
def dstHigh (x : BitVec 6) : Option Nat := if x.toNat < 16 then none else some rReserved

/-- A scalar operation whose checks at issue are those of its unit alone: it writes `w` with a latency. -/
def scalarOp (f : ScalarF) (lat : Nat) (d : Dst) (bad : Option Nat) (w : State → Core → Land) : SlotOp :=
  { slot := scalarSlot f, dests := [d], bad := bad, units := [scalarUnit f],
    run := fun s k => .ok [.land lat (w s k)] }

/-- An integer operation sD ← f(sA, opB). -/
def intOp (fr : Frame) (f : ScalarF) (lat : Nat) (g : Dword → Dword → Dword) (s : State) :
    Host.Outcome State Fault Refusal :=
  .next (s.slotOp fr (scalarOp f lat (.s f.dst) none fun _ k => .regS f.dst (g (k.rs f.srca) (opB f k))))

/-- A compare pD ← f(sA, opB). -/
def cmpOp (fr : Frame) (f : ScalarF) (g : Dword → Dword → Bool) (s : State) : Host.Outcome State Fault Refusal :=
  .next (s.slotOp fr (scalarOp f 1 (.p (f.dst.setWidth 4)) (dstHigh f.dst) fun _ k =>
    .regP (f.dst.setWidth 4) (g (k.rs f.srca) (opB f k))))

/-- ADD, R99. -/
def execAdd (fr : Frame) (f : ScalarF) (s : State) : Host.Outcome State Fault Refusal := intOp fr f 1 (fun a b => a + b) s
/-- SUB, R99. -/
def execSub (fr : Frame) (f : ScalarF) (s : State) : Host.Outcome State Fault Refusal := intOp fr f 1 (fun a b => a - b) s
/-- MUL, R99. -/
def execMul (fr : Frame) (f : ScalarF) (s : State) : Host.Outcome State Fault Refusal := intOp fr f 3 (fun a b => a * b) s
/-- AND, R99. -/
def execAnd (fr : Frame) (f : ScalarF) (s : State) : Host.Outcome State Fault Refusal := intOp fr f 1 (fun a b => a &&& b) s
/-- OR, R99. -/
def execOr (fr : Frame) (f : ScalarF) (s : State) : Host.Outcome State Fault Refusal := intOp fr f 1 (fun a b => a ||| b) s
/-- XOR, R99. -/
def execXor (fr : Frame) (f : ScalarF) (s : State) : Host.Outcome State Fault Refusal := intOp fr f 1 (fun a b => a ^^^ b) s
/-- SHL by opB[5:0], R99. -/
def execShl (fr : Frame) (f : ScalarF) (s : State) : Host.Outcome State Fault Refusal :=
  intOp fr f 1 (fun a b => a <<< (b.toNat % 64)) s
/-- SHR by opB[5:0], R99. -/
def execShr (fr : Frame) (f : ScalarF) (s : State) : Host.Outcome State Fault Refusal :=
  intOp fr f 1 (fun a b => a >>> (b.toNat % 64)) s
/-- SAR by opB[5:0], R99. -/
def execSar (fr : Frame) (f : ScalarF) (s : State) : Host.Outcome State Fault Refusal :=
  intOp fr f 1 (fun a b => a.sshiftRight (b.toNat % 64)) s
/-- CMPEQ, R99. -/
def execCmpeq (fr : Frame) (f : ScalarF) (s : State) : Host.Outcome State Fault Refusal := cmpOp fr f (fun a b => a == b) s
/-- CMPLT, signed, R99. -/
def execCmplt (fr : Frame) (f : ScalarF) (s : State) : Host.Outcome State Fault Refusal := cmpOp fr f (fun a b => a.slt b) s
/-- CMPLTU, unsigned, R99. -/
def execCmpltu (fr : Frame) (f : ScalarF) (s : State) : Host.Outcome State Fault Refusal := cmpOp fr f (fun a b => a.ult b) s
/-- MOVI, R99. -/
def execMovi (fr : Frame) (f : ScalarF) (s : State) : Host.Outcome State Fault Refusal :=
  .next (s.slotOp fr (scalarOp f 1 (.s f.dst) none fun _ _ => .regS f.dst f.imm))

/-- The CMEM offset of LD and ST: aAREG + IMM, in SPACE CMEM, 8-byte aligned, in range (R71, R73, R100). The sum is over all 64
bits, a carry into SPACE with it (log 99). -/
def narrowAddr (f : ScalarF) (k : Core) : Except Flaw Nat :=
  let x := (k.ra f.areg + f.imm).toNat
  let o := x % 2 ^ 60
  if x / 2 ^ 60 = 0 ∧ o + 8 ≤ 768 * 1024 ∧ o % 8 = 0 then .ok o else .error badParam

/-- The effects of a read that finds uncorrectable words: each is a finding, and the core stops (05_buffers.md R174,
R682). -/
def ueEffs (m : MemId) (ws : List Nat) : List Eff := if ws.isEmpty then [] else [.ues m ws, .eccStop]

/-- LD, R99, R100: a narrow access at c + 1. -/
def execLd (fr : Frame) (f : ScalarF) (s : State) : Host.Outcome State Fault Refusal :=
  .next (s.slotOp fr
    { slot := scalarSlot f, dests := [.s f.dst], bad := none, units := [scalarUnit f],
      run := fun s k => do
        let o ← narrowAddr f k
        let m := MemId.cmem fr.core
        let x : Dword := BitVec.ofNat 64 (leNat (s.readMem m o 8))
        .ok ([.land 4 (.regS f.dst x), .banks .narrow 1 [narrowBank o]] ++ ueEffs m (s.uesIn m o 8)) })

/-- ST, R99, R100: visible at c + 2. -/
def execSt (fr : Frame) (f : ScalarF) (s : State) : Host.Outcome State Fault Refusal :=
  .next (s.slotOp fr
    { slot := scalarSlot f, dests := [], bad := none, units := [scalarUnit f],
      run := fun _ k => do
        let o ← narrowAddr f k
        .ok [.land 2 (.mem 0 o (leBytes 8 (k.rs f.srcb).toNat)), .banks .narrow 1 [narrowBank o]] })

/-- AMOV, R99. -/
def execAmov (fr : Frame) (f : ScalarF) (s : State) : Host.Outcome State Fault Refusal :=
  .next (s.slotOp fr (scalarOp f 1 (.a (f.dst.setWidth 4)) (dstHigh f.dst) fun _ k =>
    .regA (f.dst.setWidth 4) (k.rs f.srca)))

/-- aAREG + IMM with SPACE unchanged (R99). -/
def addrAdd (a imm : Dword) : Dword := (a &&& 0xF000000000000000#64) ||| ((a + imm) &&& 0x0FFFFFFFFFFFFFFF#64)

/-- AADD, R99. -/
def execAadd (fr : Frame) (f : ScalarF) (s : State) : Host.Outcome State Fault Refusal :=
  .next (s.slotOp fr (scalarOp f 1 (.a (f.dst.setWidth 4)) (dstHigh f.dst) fun _ k =>
    .regA (f.dst.setWidth 4) (addrAdd (k.ra f.areg) f.imm)))

/-- THSET, R74, R99. -/
def execThset (fr : Frame) (f : ScalarF) (s : State) : Host.Outcome State Fault Refusal :=
  .next (s.slotOp fr (scalarOp f 1 (.t f.dst) none fun _ k => .regT f.dst (k.rs f.srcb ++ k.rs f.srca)))

/-- PLOG's operation on two predicates (R99). -/
def plog (op : Nat) (a b : Bool) : Bool :=
  match op with
  | 0 => a && b
  | 1 => a || b
  | 2 => a != b
  | _ => a && !b

/-- PLOG, R99: the source fields name predicates too, and their high bits must be zero. -/
def execPlog (fr : Frame) (f : ScalarF) (s : State) : Host.Outcome State Fault Refusal :=
  let bad := if f.dst.toNat < 16 ∧ f.srca.toNat < 16 ∧ f.srcb.toNat < 16 then none else some rReserved
  .next (s.slotOp fr (scalarOp f 1 (.p (f.dst.setWidth 4)) bad fun _ k =>
    .regP (f.dst.setWidth 4) (plog (f.imm.toNat % 4) (k.rp (f.srca.setWidth 4)) (k.rp (f.srcb.setWidth 4)))))

/-- RDTIME: weave time at issue (R99). -/
def execRdtime (fr : Frame) (f : ScalarF) (s : State) : Host.Outcome State Fault Refusal :=
  .next (s.slotOp fr (scalarOp f 2 (.s f.dst) none fun s _ => .regS f.dst s.weave.wt))

/-! The branch slot. -/

/-- A branch-unit operation: the scalar that it writes with latency 1, and where it leads (R91, R92, R94). -/
def branchOp (dests : List Dst) (far : State → Core → Bool) (run : Core → List Eff) : SlotOp :=
  { slot := 2, dests := dests, bad := none, branch := true, retFar := far, run := fun _ k => .ok (run k) }

/-- To a target when a condition holds. -/
def goIf (b : Bool) (t : BitVec 11) : Eff := .branch (if b then .goto t else .fall)

/-- BR, R94. -/
def execBr (fr : Frame) (f : BranchF) (s : State) : Host.Outcome State Fault Refusal :=
  .next (s.slotOp fr (branchOp [] (fun _ _ => false) fun _ => [goIf true f.target]))
/-- BRZ, R94. -/
def execBrz (fr : Frame) (f : BranchF) (s : State) : Host.Outcome State Fault Refusal :=
  .next (s.slotOp fr (branchOp [] (fun _ _ => false) fun k => [goIf (k.rs f.srca == 0) f.target]))
/-- BRNZ, R94. -/
def execBrnz (fr : Frame) (f : BranchF) (s : State) : Host.Outcome State Fault Refusal :=
  .next (s.slotOp fr (branchOp [] (fun _ _ => false) fun k => [goIf (k.rs f.srca != 0) f.target]))
/-- CALL, R94: sLINK ← n + 3. -/
def execCall (fr : Frame) (f : BranchF) (s : State) : Host.Outcome State Fault Refusal :=
  .next (s.slotOp fr (branchOp [.s f.link] (fun _ _ => false) fun k =>
    [.land 1 (.regS f.link (BitVec.ofNat 64 (k.pc.toNat + 3))), goIf true f.target]))
/-- RET, R94: a value above 2,047 raises PC_RANGE at this bundle. -/
def execRet (fr : Frame) (f : BranchF) (s : State) : Host.Outcome State Fault Refusal :=
  .next (s.slotOp fr (branchOp [] (fun _ k => decide (2047 < (k.rs f.srca).toNat)) fun k =>
    [goIf true ((k.rs f.srca).setWidth 11)]))
/-- LOOP, R94: taken when the decremented value is not 0, which sSRCA holds from the next CCLK on (log 100). -/
def execLoop (fr : Frame) (f : BranchF) (s : State) : Host.Outcome State Fault Refusal :=
  .next (s.slotOp fr (branchOp [.s f.srca] (fun _ _ => false) fun k =>
    [.land 1 (.regS f.srca (k.rs f.srca - 1)), goIf (k.rs f.srca - 1 != 0) f.target]))
/-- HALT, R94. -/
def execHalt (fr : Frame) (_f : BranchF) (s : State) : Host.Outcome State Fault Refusal :=
  .next (s.slotOp fr (branchOp [] (fun _ _ => false) fun _ => [.branch .halt]))

/-! NOP, and a bundle with a fault in its encoding. -/

/-- NOP of any slot, R79, R80: it performs no operation and holds no unit. -/
def execNop (fr : Frame) (slot : SlotId) (s : State) : Host.Outcome State Fault Refusal :=
  .next (s.slotOp fr { slot := slot.idx, dests := [], bad := none, run := fun _ _ => .ok [] })

end Sys2Proof.Machine
end

