-- ==== Sys2Proof/Machine/Vector.lean ====
section
/-!
DEFINITION. The vector slot (03_bundles.md R101, R102; 07_numerics.md R252, R257; 04_contract.md R126, R132).
-/
namespace Sys2Proof.Machine

open Reg

/-! Elements. FMT 0 is FP32, 1 INT32, 2 BF16 pairs (R101). -/

/-- The FP32 word of a BF16 element. -/
def bfWord (h : Nat) : Word := BitVec.ofNat 32 (h % 65536 * 65536)
/-- An FP32 result rounded to BF16 (R257). -/
def wordBf (w : Word) : Nat := FV.half (FV.of w)

/-- A lane of two halves. -/
def twoHalves (lo hi : Nat) : Word := BitVec.ofNat 32 (lo % 65536 + 65536 * (hi % 65536))

/-- Apply FP32 functions to each half of BF16 pairs (R257). -/
def bf1 (f : Word → Word) (x : Word) : Word :=
  twoHalves (wordBf (f (bfWord x.toNat))) (wordBf (f (bfWord (x.toNat / 65536))))
def bf2 (f : Word → Word → Word) (x y : Word) : Word :=
  twoHalves (wordBf (f (bfWord x.toNat) (bfWord y.toNat))) (wordBf (f (bfWord (x.toNat / 65536)) (bfWord (y.toNat / 65536))))
def bf3 (f : Word → Word → Word → Word) (x y z : Word) : Word :=
  twoHalves (wordBf (f (bfWord x.toNat) (bfWord y.toNat) (bfWord z.toNat)))
    (wordBf (f (bfWord (x.toNat / 65536)) (bfWord (y.toNat / 65536)) (bfWord (z.toNat / 65536))))

/-- Apply a function to every lane. -/
def lanes1 (f : Word → Word) (a : Lanes) : Lanes := a.map f
def lanes2 (f : Word → Word → Word) (a b : Lanes) : Lanes := Vector.ofFn fun i => f a[i] b[i]
def lanes3 (f : Word → Word → Word → Word) (x y z : Lanes) : Lanes := Vector.ofFn fun i => f x[i] y[i] z[i]

/-- Pick by FMT among an FP32 operation, an INT32 operation and the BF16-pair form of the first. -/
def byFmt2 (fmt : BitVec 2) (fp int : Word → Word → Word) : Word → Word → Word :=
  if fmt = 0 then fp else if fmt = 1 then int else bf2 fp

def iMax (a b : Word) : Word := if a.slt b then b else a
def iMin (a b : Word) : Word := if b.slt a then b else a
def iAbs (a : Word) : Word := if a.msb then -a else a

/-- VABS of a lane (log 20 for the floating-point forms). -/
def absLane (fmt : BitVec 2) (a : Word) : Word :=
  if fmt = 0 then fabs a else if fmt = 1 then iAbs a else a &&& 0x7FFF7FFF#32

/-- VCMPLT of a lane: all ones where the comparison holds; BF16 halves compare each alone. -/
def ltLane (fmt : BitVec 2) (a b : Word) : Word :=
  let full (c : Bool) : Word := if c then 0xFFFFFFFF else 0
  if fmt = 0 then full (flt a b)
  else if fmt = 1 then full (a.slt b)
  else
    let h (x y : Nat) : Nat := if flt (bfWord x) (bfWord y) then 0xFFFF else 0
    twoHalves (h a.toNat b.toNat) (h (a.toNat / 65536) (b.toNat / 65536))

/-- The 1,024 BF16 elements of a register, as FP32 words. -/
def halvesOf (a : Lanes) : List Word := a.toList.flatMap fun x => [bfWord x.toNat, bfWord (x.toNat / 65536)]

/-- A reduction along the tree of R102: bits [31:0] of the scalar, bits [63:32] open (log 13). -/
def reduceLanes (fmt : BitVec 2) (fp int : Word → Word → Word) (a : Lanes) : Dword :=
  let low : Word :=
    if fmt = 0 then pairTree fp 0 10 a.toList
    else if fmt = 1 then pairTree int 0 10 a.toList
    else BitVec.ofNat 32 (wordBf (pairTree fp 0 11 (halvesOf a)))
  Config.reduceHigh low ++ low

/-! VCVT, 07_numerics.md R252. -/

/-- Codes of `w` bits each as bytes, the first lowest. -/
def packCodes (w : Nat) (l : List Nat) : List Byte :=
  leBytes ((w * l.length + 7) / 8) (l.foldr (fun c acc => c % 2 ^ w + acc * 2 ^ w) 0)

/-- Element `i` of `w` bits of a byte string read as one little-endian number. -/
def elemAt (n w i : Nat) : Nat := (n >>> (w * i)) % 2 ^ w

/-- The lanes that 2 KiB hold, and the bytes of lanes. -/
def bytesLanes (l : List Byte) : Lanes := Vector.ofFn fun i => BitVec.ofNat 32 (field l (4 * i.1) 4)
def lanesBytes (a : Lanes) : List Byte := wordBytes a.toList

/-- The values of a register under FMT. -/
def laneValues (fmt : BitVec 2) (a : Lanes) : List FV :=
  if fmt = 0 then a.toList.map FV.of
  else if fmt = 1 then a.toList.map fun x => FV.ofInt x.toInt
  else (halvesOf a).map FV.of

/-- Pack: the converted elements in the lowest lanes, zero in the rest; counted saturations. -/
def cvtPack (fmt : BitVec 2) (f : EFmt) (a : Lanes) : Lanes × Nat :=
  let cs := ((laneValues fmt a).take (16384 / f.bits)).map (convert f)
  (bytesLanes (slice (packCodes f.bits (cs.map (·.1))) 0 2048), (cs.filter (·.2)).length)

/-- An INT32 value of an element: nearest even; one outside INT32 is open (log 13). -/
def toInt32 (code elem : Nat) : FV → Word
  | .fin n m e =>
    let r : Int := if n then -(rne m e : Int) else rne m e
    if -2147483648 ≤ r ∧ r ≤ 2147483647 then BitVec.ofInt 32 r else Config.vcvtInt code elem
  | _ => Config.vcvtInt code elem

/-- Unpack elements of a format from the lowest lanes into FMT. -/
def cvtUnpack (fmt : BitVec 2) (code : Nat) (f : EFmt) (a : Lanes) : Lanes :=
  let n := leNat (lanesBytes a)
  let cap := 16384 / f.bits
  let el (i : Nat) : FV := f.value (elemAt n f.bits i)
  Vector.ofFn fun i =>
    if fmt = 0 then (el i.1).word
    else if fmt = 1 then toInt32 code (elemAt n f.bits i.1) (el i.1)
    else
      let h (j : Nat) : Nat := if j < cap then (el j).half else (Config.vcvtBeyond j).toNat
      twoHalves (h (2 * i.1)) (h (2 * i.1 + 1))

/-! Operations. -/

/-- FORMAT for FMT 3 in an operation that uses FMT (R101, R680). -/
def fmtBad (f : VecF) : Option Nat := if f.fmt = 3 then some rFormat else none
/-- FORMAT for a FMT other than FP32. -/
def fp32Only (f : VecF) : Option Nat := if f.fmt = 0 then none else some rFormat

/-- The mask of a write: VM when MEN is set (R101). -/
def vecMask (f : VecF) (k : Core) : Option Lanes := if f.men then some (k.rv f.vm) else none

/-- A vector operation vD ← g of the registers at issue. -/
def vecOp (fr : Frame) (f : VecF) (lat : Nat) (bad : Option Nat) (g : Core → Lanes) (s : State) :
    Host.Outcome State Fault Refusal :=
  .next (s.slotOp fr
    { slot := 3, dests := [.v f.vd], bad := bad, units := [.v],
      run := fun _ k => .ok [.land lat (.regV f.vd (g k) (vecMask f k))] })

/-- VADD, R101. -/
def execVadd (fr : Frame) (f : VecF) (s : State) : Host.Outcome State Fault Refusal :=
  vecOp fr f 2 (fmtBad f) (fun k => lanes2 (byFmt2 f.fmt fadd (· + ·)) (k.rv f.va) (k.rv f.vb)) s
/-- VSUB, R101. -/
def execVsub (fr : Frame) (f : VecF) (s : State) : Host.Outcome State Fault Refusal :=
  vecOp fr f 2 (fmtBad f) (fun k => lanes2 (byFmt2 f.fmt fsub (· - ·)) (k.rv f.va) (k.rv f.vb)) s
/-- VMUL, R101. -/
def execVmul (fr : Frame) (f : VecF) (s : State) : Host.Outcome State Fault Refusal :=
  vecOp fr f 3 (fmtBad f) (fun k => lanes2 (byFmt2 f.fmt fmul (· * ·)) (k.rv f.va) (k.rv f.vb)) s
/-- VFMA with one rounding, R101. -/
def execVfma (fr : Frame) (f : VecF) (s : State) : Host.Outcome State Fault Refusal :=
  let g : Word → Word → Word → Word :=
    if f.fmt = 0 then ffma else if f.fmt = 1 then (fun a b c => a * b + c) else bf3 ffma
  vecOp fr f 4 (fmtBad f) (fun k => lanes3 g (k.rv f.va) (k.rv f.vb) (k.rv f.vc)) s
/-- VMAX, R101, R257. -/
def execVmax (fr : Frame) (f : VecF) (s : State) : Host.Outcome State Fault Refusal :=
  vecOp fr f 2 (fmtBad f) (fun k => lanes2 (byFmt2 f.fmt fmax iMax) (k.rv f.va) (k.rv f.vb)) s
/-- VMIN, R101, R257. -/
def execVmin (fr : Frame) (f : VecF) (s : State) : Host.Outcome State Fault Refusal :=
  vecOp fr f 2 (fmtBad f) (fun k => lanes2 (byFmt2 f.fmt fmin iMin) (k.rv f.va) (k.rv f.vb)) s
/-- VABS, R101. -/
def execVabs (fr : Frame) (f : VecF) (s : State) : Host.Outcome State Fault Refusal :=
  vecOp fr f 2 (fmtBad f) (fun k => lanes1 (absLane f.fmt) (k.rv f.va)) s
/-- VEXP, R101, R257. -/
def execVexp (fr : Frame) (f : VecF) (s : State) : Host.Outcome State Fault Refusal :=
  vecOp fr f 8 (fp32Only f) (fun k => lanes1 fexp (k.rv f.va)) s
/-- VRCP, R101, R257. -/
def execVrcp (fr : Frame) (f : VecF) (s : State) : Host.Outcome State Fault Refusal :=
  vecOp fr f 8 (fp32Only f) (fun k => lanes1 frcp (k.rv f.va)) s
/-- VRSQRT, R101, R257. -/
def execVrsqrt (fr : Frame) (f : VecF) (s : State) : Host.Outcome State Fault Refusal :=
  vecOp fr f 8 (fp32Only f) (fun k => lanes1 frsqrt (k.rv f.va)) s
/-- VCMPLT, R101. -/
def execVcmplt (fr : Frame) (f : VecF) (s : State) : Host.Outcome State Fault Refusal :=
  vecOp fr f 2 (fmtBad f) (fun k => lanes2 (ltLane f.fmt) (k.rv f.va) (k.rv f.vb)) s
/-- VSEL, R101. -/
def execVsel (fr : Frame) (f : VecF) (s : State) : Host.Outcome State Fault Refusal :=
  vecOp fr f 2 (fmtBad f) (fun k => lanes3 (fun a b m => if m = 0 then b else a) (k.rv f.va) (k.rv f.vb) (k.rv f.vm)) s
/-- VBCAST, R101. -/
def execVbcast (fr : Frame) (f : VecF) (s : State) : Host.Outcome State Fault Refusal :=
  vecOp fr f 2 (fmtBad f) (fun k => Vector.replicate 512 ((k.rs f.ss).setWidth 32)) s

/-- The CMEM or operand-buffer offset of VLD and VST: aAREG + 2,048 × IMM8, a wide access aligned to 512 bytes in CMEM (R73,
R101, R132, R133). The sum is over all 64 bits, a carry into SPACE with it (log 99). -/
def wideAddr (f : VecF) (k : Core) : Except Flaw (Nat × Nat) :=
  let x := (k.ra f.areg + BitVec.ofNat 64 (2048 * f.imm8.toNat)).toNat
  let sp := x / 2 ^ 60
  let o := x % 2 ^ 60
  if (sp = 0 ∧ o % 512 = 0 ∧ o + 2048 ≤ 768 * 1024) ∨ (sp = 5 ∧ o + 2048 ≤ 32 * 1024) then .ok (sp, o)
  else .error badParam

/-- The four wide accesses of VLD and VST at c + 1 to c + 4; an operand buffer never defers (05_buffers.md R158). -/
def vecBanks (sp o : Nat) : List (BitVec 16) :=
  if sp = 0 then [wideBanks o, wideBanks (o + 512), wideBanks (o + 1024), wideBanks (o + 1536)] else []

/-- VLD, R101. -/
def execVld (fr : Frame) (f : VecF) (s : State) : Host.Outcome State Fault Refusal :=
  .next (s.slotOp fr
    { slot := 3, dests := [.v f.vd], bad := fmtBad f, units := [.v], occ := 4,
      run := fun s k => do
        let (sp, o) ← wideAddr f k
        let m := memOfSpace fr.core sp
        .ok ([.land 6 (.regV f.vd (bytesLanes (s.readMem m o 2048)) (vecMask f k)), .banks .vec 1 (vecBanks sp o)] ++
          ueEffs m (s.uesIn m o 2048)) })

/-- The lanes of a store as runs of bytes from lane `i` on: with a mask only the lanes whose mask lane is nonzero are stored (R101:
MEN selects the lanes that are written). -/
def laneRuns : (lanes : List (Word × Bool)) → (i : Nat) → List (Nat × List Byte)
  | [], _ => []
  | (x, on) :: r, i =>
    if on then
      match laneRuns r (i + 1) with
      | (j, bs) :: q => if j = 4 * (i + 1) then (4 * i, leBytes 4 x.toNat ++ bs) :: q else (4 * i, leBytes 4 x.toNat) :: (j, bs) :: q
      | [] => [(4 * i, leBytes 4 x.toNat)]
    else laneRuns r (i + 1)

/-- The landing at `l` of a register's lanes at an offset, under a mask. -/
def storeLanes (l sp o : Nat) (v : Lanes) : Option Lanes → List Eff
  | none => [.land l (.mem (BitVec.ofNat 4 sp) o (lanesBytes v))]
  | some m => (laneRuns (v.toList.zip (m.toList.map (· != 0))) 0).map fun p =>
      .land l (.mem (BitVec.ofNat 4 sp) (o + p.1) p.2)

/-- VST, R101. -/
def execVst (fr : Frame) (f : VecF) (s : State) : Host.Outcome State Fault Refusal :=
  .next (s.slotOp fr
    { slot := 3, dests := [], bad := fmtBad f, units := [.v], occ := 4,
      run := fun _ k => do
        let (sp, o) ← wideAddr f k
        .ok (storeLanes 5 sp o (k.rv f.va) (vecMask f k) ++ [.banks .vec 1 (vecBanks sp o)]) })

/-- A reduction to scalar sSS with latency 11. -/
def reduceOp (fr : Frame) (f : VecF) (fp int : Word → Word → Word) (s : State) : Host.Outcome State Fault Refusal :=
  .next (s.slotOp fr
    { slot := 3, dests := [.s f.ss], bad := fmtBad f, units := [.v],
      run := fun _ k => .ok [.land 11 (.regS f.ss (reduceLanes f.fmt fp int (k.rv f.va)))] })

/-- VREDSUM, R101, R102. -/
def execVredsum (fr : Frame) (f : VecF) (s : State) : Host.Outcome State Fault Refusal := reduceOp fr f fadd (· + ·) s
/-- VREDMAX, R101. -/
def execVredmax (fr : Frame) (f : VecF) (s : State) : Host.Outcome State Fault Refusal := reduceOp fr f fmax iMax s

/-- FORMAT of VCVT: FMT 3, IMM8[7:5] not zero, an MX or reserved code (R101, R252). -/
def cvtBad (f : VecF) : Option Nat :=
  let code := f.imm8.toNat % 16
  if f.fmt = 3 ∨ 32 ≤ f.imm8.toNat ∨ (2 ≤ code ∧ code ≤ 6) ∨ 10 ≤ code then some rFormat else none

/-- VCVT, R252. -/
def execVcvt (fr : Frame) (f : VecF) (s : State) : Host.Outcome State Fault Refusal :=
  .next (s.slotOp fr
    { slot := 3, dests := [.v f.vd], bad := cvtBad f, units := [.v],
      run := fun _ k =>
        let code := f.imm8.toNat % 16
        let e := (EFmt.ofCode code).getD .fp32
        let a := k.rv f.va
        let r : Lanes × Nat := if f.imm8.getLsbD 4 then (cvtUnpack f.fmt code e a, 0) else cvtPack f.fmt e a
        .ok [.land 3 (.regV f.vd r.1 (vecMask f k)), .saturated r.2] })

end Sys2Proof.Machine
end

