-- ==== Sys2Proof/Machine/Matrix.lean ====
section
/-!
DEFINITION. The matrix slot (03_bundles.md R103, R104; 07_numerics.md R247, R253-R256; 04_contract.md R123, R126).
-/
namespace Sys2Proof.Machine

open Reg

/-- Bytes of an input vector or weight row of one side of a format pair (07_numerics.md R253). -/
def sideBytes (side partner : Nat) : Nat :=
  if side = 2 ∨ side = 3 then 576
  else if side = 4 ∨ side = 5 then 448
  else if side = 6 then (if partner = 6 then 576 else 320)
  else 512

/-- The dot length K of a side (R253). -/
def dotLen (side partner : Nat) : Nat :=
  if side = 6 ∧ partner = 6 then 1024 else if side = 8 then 256 else 512

/-- Rows of the plane, one for each output column (R253, R254). -/
def planeRows (wfmt : Nat) : Nat := if wfmt = 8 then 256 else 512

/-- One side of a dot product, block by block of 32: the element values, and the exponent of the block scale, none for NaN
(R246, R247, R255). -/
def sideBlocks (side partner : Nat) (row : List Byte) : List (List FV × Option Int) :=
  match EFmt.ofCode side with
  | none => []
  | some f =>
    let k := dotLen side partner
    let n := leNat row
    let scales := row.drop ((k * f.bits + 511) / 512 * 64)
    (List.range (k / 32)).map fun b =>
      ((List.range 32).map fun i => f.value (elemAt n f.bits (32 * b + i)),
        if f.mx then e8m0 (scales.getD b 0).toNat else some 0)

/-- A block's sum: exact products, exact scaling, one rounding to FP32 (R255 step 2). An exactly zero sum is +0.0. -/
def blockSum (a b : List FV × Option Int) : Word :=
  match a.2, b.2 with
  | some xi, some xw =>
    match (a.1.zip b.1).foldl (fun acc p => FV.add acc (FV.mul p.1 p.2)) (.fin false 0 0) with
    | .fin n m e => if m = 0 then 0 else (FV.fin n m (e + xi + xw)).word
    | x => x.word
  | _, _ => 0x7FC00000

/-- The dot product of an input vector and a weight row (R255 steps 1 to 3). -/
def dotProduct (x w : List (List FV × Option Int)) : Word := pairTree fadd 0 6 ((x.zip w).map fun p => blockSum p.1 p.2)

/-- A row of the active plane as a pair's weight row: its bits, cut or padded with zeros to the pair's row size. -/
def Core.weightRow (k : Core) (r n : Nat) : List Byte := slice ((assocGet k.planeA r).getD []) 0 n

/-- MMUL's results: for each input vector, one FP32 value for each output column (R255). -/
def mmulRows (k : Core) (ifmt wfmt : Nat) (inputs : List (List Byte)) : List (List Word) :=
  let ws := (List.range (planeRows wfmt)).map fun r => sideBlocks wfmt ifmt (k.weightRow r (sideBytes wfmt ifmt))
  inputs.map fun x => let b := sideBlocks ifmt wfmt x; ws.map fun w => dotProduct b w

/-- Legal pairs of formats (03_bundles.md R104). -/
def pairLegal (i w : Nat) : Bool := (i ≤ 6 && w ≤ 6) || (i == 7 && w == 7) || (i == 8 && w == 8)

/-- FORMAT of MLOAD (03_bundles.md R104; 07_numerics.md R254). -/
def mloadBad (f : MatF) : Option Nat :=
  let w := f.wfmt.toNat
  let c := f.count.toNat
  if 9 ≤ w ∨ c = 0 ∨ 128 < c ∨ planeRows w < f.wrow.toNat + c ∨ 65536 < f.ibase.toNat * 64 + c * sideBytes w w then
    some rFormat else none

/-- FORMAT of MMUL (03_bundles.md R104). -/
def mmulBad (f : MatF) : Option Nat :=
  let i := f.ifmt.toNat
  let w := f.wfmt.toNat
  let c := f.count.toNat
  if pairLegal i w = false ∨ c = 0 ∨ 64 < c ∨ 64 < f.arow.toNat + c ∨ 65536 < f.ibase.toNat * 64 + c * sideBytes i w then
    some rFormat else none

/-- FORMAT of MCLR (03_bundles.md R104). -/
def mclrBad (f : MatF) : Option Nat :=
  let c := f.count.toNat
  if c = 0 ∨ 64 < c ∨ 64 < f.arow.toNat + c then some rFormat else none

/-- A matrix operation: effects whose latencies count from the CCLK in which it begins (R123). -/
def matOp (fr : Frame) (units : List Unit') (occ : Nat) (bad : Option Nat) (run : State → Core → (lag : Nat) → List Eff)
    (s : State) : Host.Outcome State Fault Refusal :=
  .next (s.slotOp fr
    { slot := 4, dests := [], bad := bad, units := units, occ := occ, matrix := true,
      run := fun s k => .ok (run s k (k.cyc % 2)) })

/-- The rows that MLOAD and MMUL read from the input buffer. -/
def inputRows (s : State) (c : CoreId) (base count n : Nat) : List (List Byte) :=
  (List.range count).map fun j => s.readMem (.min c) (base + j * n) n

/-- MLOAD, R103. Its rows have the size of WFMT paired with itself: for MXFP4 576 bytes, whatever IFMT an MMUL gives later (log
101). -/
def execMload (fr : Frame) (f : MatF) (s : State) : Host.Outcome State Fault Refusal :=
  let q := (f.count.toNat + 3) / 4
  let n := sideBytes f.wfmt.toNat f.wfmt.toNat
  let base := f.ibase.toNat * 64
  matOp fr [.mload] (2 * q) (mloadBad f)
    (fun s _ lag =>
      let rows := inputRows s fr.core base f.count.toNat n
      ((List.range rows.length).zip rows).map (fun p => Eff.land (lag + 2 * (2 + q)) (.plane (f.wrow.toNat + p.1) p.2)) ++
        ueEffs (.min fr.core) (s.uesIn (.min fr.core) base (f.count.toNat * n))) s

/-- MSWAP, R103: it needs both paths free (R126). -/
def execMswap (fr : Frame) (_f : MatF) (s : State) : Host.Outcome State Fault Refusal :=
  matOp fr [.mload, .mcomp] 2 none (fun _ _ lag => [.land (lag + 2) .swap]) s

/-- MMUL, R103, R255: the accumulator rows are final at 2 × (COUNT + 8). -/
def execMmul (fr : Frame) (f : MatF) (s : State) : Host.Outcome State Fault Refusal :=
  let c := f.count.toNat
  let n := sideBytes f.ifmt.toNat f.wfmt.toNat
  let base := f.ibase.toNat * 64
  matOp fr [.mcomp] (2 * c) (mmulBad f)
    (fun s k lag =>
      let rows := mmulRows k f.ifmt.toNat f.wfmt.toNat (inputRows s fr.core base c n)
      ((List.range rows.length).zip rows).map (fun p =>
          Eff.land (lag + 2 * (c + 8)) (.accRow (f.arow.toNat + p.1) p.2 f.acc)) ++
        ueEffs (.min fr.core) (s.uesIn (.min fr.core) base (c * n))) s

/-- MCLR, R103. -/
def execMclr (fr : Frame) (f : MatF) (s : State) : Host.Outcome State Fault Refusal :=
  let q := (f.count.toNat + 7) / 8
  matOp fr [.mcomp] (2 * q) (mclrBad f)
    (fun _ _ lag =>
      [.land (lag + 2 * q + 2) (.mem 4 (f.arow.toNat * 2048) (List.replicate (f.count.toNat * 2048) 0))]) s

end Sys2Proof.Machine
end

