-- ==== Sys2Proof/Machine/Mover.lean ====
section
/-!
DEFINITION. The data-mover slot (03_bundles.md R96-R98, R105-R107, R681; 04_contract.md R126-R145; 09_weave.md R339, R340,
R347; 11_press.md R392, R393).
-/
namespace Sys2Proof.Machine

open Reg

/-! Tiles and tags. -/

/-- A tile that an operation names: PARAM for a SPACE that it does not accept, a tile outside its space or a misaligned
handle (R73, R74); `cmem` applies the rules of tile moves on CMEM (R133). -/
def State.tile (s : State) (c : CoreId) (k : Core) (t : BitVec 6) (accept : List Nat) (cmem : Bool) : Except Flaw Handle :=
  let h := Handle.of (k.rt t)
  if accept.contains h.space && s.handleOk c h &&
      !(cmem && h.space == 0 && (h.base % 512 != 0 || h.rowLen % 512 != 0 || h.stride % 512 != 0)) then .ok h
  else .error badParam

/-- UNDECLARED_SLOT for a TAGGED handle whose slot has READS 0 (R141). -/
def Handle.declared (h : Handle) (k : Core) : Except Flaw Unit :=
  if h.tagged && (k.slot h.bslot).reads == 0 then .error (contract rUndeclared) else .ok ()

/-- The checks of a read through a handle (R141, R143). -/
def Handle.readable (h : Handle) (k : Core) : Except Flaw Unit := do
  h.declared k
  if h.tagged && (k.slot h.bslot).tag != .full then .error (contract rReadUnfilled) else .ok ()

/-- The checks of a write through a handle (R141, R144). -/
def Handle.writable (h : Handle) (k : Core) : Except Flaw Unit := do
  h.declared k
  if h.tagged && (k.slot h.bslot).tag != .empty then .error (contract rOverwrite) else .ok ()

/-- Tag effects of a read that ends after `b` CCLK and of a write that completes after `l` (R142). -/
def Handle.readEffs (h : Handle) (b : Nat) : List Eff := if h.tagged then [.tagRead h.bslot, .land b (.empty h.bslot)] else []
def Handle.writeEffs (h : Handle) (l : Nat) : List Eff := if h.tagged then [.tagWrite h.bslot, .land l (.full h.bslot)] else []

/-- PARAM unless a condition holds. -/
def need (b : Bool) (x : Flaw) : Except Flaw Unit := if b then .ok () else .error x

/-- Every contiguous piece of a tile. -/
def Handle.pieces (h : Handle) : List (Nat × Nat) := h.spans (h.rows + 1) 0 h.bytes

/-- The bytes of a tile in a memory of the core, and its uncorrectable words. -/
def State.tileBytes (s : State) (m : MemId) (h : Handle) : List Byte × List Nat :=
  (h.pieces.flatMap fun p => s.readMem m p.1 p.2, h.pieces.flatMap fun p => s.uesIn m p.1 p.2)

/-- The landing of bytes at `l` in a tile of a memory of the core, from its first byte on, as far as it reaches. -/
def Handle.landEffs (h : Handle) (l : Nat) (data : List Byte) : List Eff :=
  (h.pieces.foldl (fun (r : List Byte × List Eff) p =>
    (r.1.drop p.2, if r.1.isEmpty then r.2 else Eff.land l (.mem (BitVec.ofNat 4 h.space) p.1 (r.1.take p.2)) :: r.2))
    (data, [])).2.reverse

/-- The 512-byte blocks of a CMEM tile, ascending (R133). -/
def Handle.blocks (h : Handle) : List Nat := h.pieces.flatMap fun p => (List.range (p.2 / 512)).map fun i => p.1 + 512 * i

/-! The scratchpad as a core reads it. -/

/-- The segment that a core's read of a granted segment goes to: in a model's window the bank that is active for the core;
none for a segment of bank 1, or of a model that the core is not bound to (11_press.md R392, R393). -/
def State.windowSeg (s : State) (c : CoreId) (part g : Nat) : Option Nat :=
  match s.bankOf part g with
  | none => some g
  | some (m, bank) =>
    if bank = 0 ∧ (s.hg m HANGER_CFG_CORES).testBit c.1 then
      some (if (s.hanger m).ptr.getLsbD c.1 then g - s.hg m HANGER_SEGS_BANK0 + s.hg m HANGER_SEGS_BANK1 else g)
    else none

/-- XMEM pieces (physical address, length) of scratchpad bytes that a core reads. -/
def State.windowPieces (s : State) (c : CoreId) (part a n : Nat) : Option (List (Nat × Nat)) :=
  let segs := s.grantedSegs part
  (pieces segBytes 130 a (List.replicate n 0)).mapM fun p => do
    let g ← segs[p.1 / segBytes]?
    let g ← s.windowSeg c part g
    some (g * segBytes + p.1 % segBytes, p.2.length)

/-- The bytes of an XMEM tile as a core reads it, at most `n`, and its uncorrectable words. -/
def State.scratchBytes (s : State) (c : CoreId) (h : Handle) (n : Nat) : Except Flaw (List Byte × List Nat) :=
  match s.partOf c with
  | none => .error badParam
  | some part =>
    match (h.spans (h.rows + 1) 0 n).mapM fun p => s.windowPieces c part p.1 p.2 with
    | none => .error badParam
    | some l =>
      let l := l.flatten
      .ok (l.flatMap fun p => s.readMem .xmem p.1 p.2, l.flatMap fun p => s.uesIn .xmem p.1 p.2)

/-- The segments of a partition's scratchpad that the XMEM accesses of `n` tile bytes go to: one access for 2,048 bytes, to the
segment of its first byte; with `reads` in a model's window, to the bank active for the core (04_contract.md R139; log 5). -/
def State.beatSegs (s : State) (c : CoreId) (h : Handle) (n : Nat) (reads : Bool) : List Nat :=
  match s.partOf c with
  | none => []
  | some part =>
    let segs := s.grantedSegs part
    (List.range ((n + 2047) / 2048)).filterMap fun j => do
      let g ← segs[h.at (2048 * j) / segBytes]?
      if reads then s.windowSeg c part g else some g

/-- The landing of bytes at `l` in a tile of the scratchpad; PARAM for a segment of a hanger bank (11_press.md R393). -/
def State.scratchLand (s : State) (c : CoreId) (h : Handle) (l : Nat) (data : List Byte) : Except Flaw (List Eff) :=
  match s.partOf c with
  | none => .error badParam
  | some part =>
    if h.pieces.any fun p => s.namesBank part p.1 p.2 then .error badParam
    else
      let segs := s.grantedSegs part
      .ok (h.pieces.foldl (fun (r : List Byte × List Eff) p =>
        let es := (pieces segBytes 130 p.1 (r.1.take p.2)).filterMap fun q =>
          (scratchPhys segs q.1).map fun a => Eff.land l (.xmem a q.2)
        (r.1.drop p.2, r.2 ++ es)) (data, [])).2

/-! TMOV, XLD, XST. -/

/-- A row of FP32 accumulator values converted to a format, MX rows in the layout of 07_numerics.md R247 (R251): bytes and
counted saturations; none for a reserved format, or an MX row with more blocks than its scale record holds. -/
def convertRow (fmt : Nat) (row : List Byte) : Option (List Byte × Nat) :=
  match EFmt.ofCode fmt with
  | none => none
  | some f =>
    let xs := (List.range (row.length / 4)).map fun j => FV.of (rowWord row 0 j)
    if f.mx then
      let nb := (xs.length + 31) / 32
      if 64 < nb then none
      else
        let bs := (List.range nb).map fun b => mxBlock f ((xs.drop (32 * b)).take 32)
        let el := packCodes f.bits (bs.flatMap fun b => b.2.1)
        some (slice el 0 ((el.length + 63) / 64 * 64) ++ slice (bs.map fun b => BitVec.ofNat 8 b.1) 0 64,
          (bs.map fun b => b.2.2).sum)
    else
      let cs := xs.map (convert f)
      some (packCodes f.bits (cs.map (·.1)), (cs.filter (·.2)).length)

/-- The spaces that TMOV names: CMEM and the operand buffers (R72, R105). -/
def coreSpaces : List Nat := [0, 3, 4, 5, 6]

/-- What TMOV writes: the tile's bytes, or an accumulator source converted to TD's FMT (R105, R251), with counted
saturations; FORMAT for a reserved FMT. -/
def tmovData (ts td : Handle) (data : List Byte) : Except Flaw (List Byte × Nat) :=
  if ts.space = 4 then
    match (List.range ts.rows).mapM fun r => convertRow td.fmt (slice data (r * ts.rowLen) ts.rowLen) with
    | some l => .ok (l.flatMap (·.1), (l.map (·.2)).sum)
    | none => .error (contract rFormat)
  else .ok (data, 0)

/-- The bytes that a move between two tiles of `m` and `n` bytes moves: those of the shorter one, in tile order (log 94). -/
def movedBytes (m n : Nat) : Nat := min m n

/-- The blocks of the CMEM side of a move that holds `n` bytes (R126, R133). -/
def Handle.movedBlocks (h : Handle) (n : Nat) : List Nat := h.blocks.take ((n + 511) / 512)

/-- The blocks of TMOV's CMEM side as its handles stand: `n` bytes reach it. -/
def tmovBlocks (ts td : Handle) (n : Nat) : List Nat := if ts.space = 0 then ts.movedBlocks n else td.movedBlocks n

/-- The number of blocks N of a TMOV whose source is `ts` and destination `td`: a source in the accumulator buffer comes to the
destination's size (R126). -/
def tmovCount (ts td : Handle) : Nat :=
  (tmovBlocks ts td (if ts.space = 4 then td.bytes else movedBytes ts.bytes td.bytes)).length

/-- TMOV, R105: between CMEM and an operand buffer (02_chip.md R64), PARAM otherwise (log 95). Its occupancy is N, its latency
3 + N, 2 more from the accumulator (R126). -/
def execTmov (fr : Frame) (f : MovF) (s : State) : Host.Outcome State Fault Refusal :=
  let k := s.core fr.core
  let n := tmovCount (Handle.of (k.rt f.ts)) (Handle.of (k.rt f.td))
  .next (s.slotOp fr
    { slot := 5, dests := [], bad := none, units := [.d], occ := n,
      run := fun s k => do
        let ts ← s.tile fr.core k f.ts coreSpaces true
        let td ← s.tile fr.core k f.td coreSpaces true
        need ((ts.space == 0) != (td.space == 0)) badParam
        let m := memOfSpace fr.core ts.space
        let src := s.tileBytes m ts
        let (data, sat) ← tmovData ts td src.1
        ts.readable k
        td.writable k
        let data := data.take (movedBytes data.length td.bytes)
        let l := 3 + n + (if ts.space = 4 then 2 else 0)
        .ok ([.banks .tmov 1 ((tmovBlocks ts td data.length).map wideBanks), .saturated sat] ++ ts.readEffs n ++
          td.landEffs l data ++ td.writeEffs l ++ ueEffs m src.2) })

/-- The CMEM accesses of XLD and XST: two consecutive blocks in each CCLK, one in each half (R133). -/
def pairBanks : List Nat → List (BitVec 16)
  | [] => []
  | [b] => [wideBanks b]
  | _ :: _ :: r => 0xFFFF#16 :: pairBanks r

/-- Pairs of blocks that an XLD or XST moves between two tiles, for its occupancy. -/
def movedPairs (cmem xmem : Handle) : Nat := (((cmem.movedBlocks (movedBytes cmem.bytes xmem.bytes)).length) + 1) / 2

/-- XLD, R105: XMEM to CMEM; a deferral in CMEM or XMEM slides what is still to come (R127, R135). -/
def execXld (fr : Frame) (f : MovF) (s : State) : Host.Outcome State Fault Refusal :=
  let k := s.core fr.core
  let n := movedPairs (Handle.of (k.rt f.td)) (Handle.of (k.rt f.ts))
  .next (s.slotOp fr
    { slot := 5, dests := [], bad := none, units := [.d], occ := n,
      run := fun s k => do
        let ts ← s.tile fr.core k f.ts [1] true
        let td ← s.tile fr.core k f.td [0] true
        let b := movedBytes td.bytes ts.bytes
        let src ← s.scratchBytes fr.core ts b
        ts.readable k
        td.writable k
        let l := 8 + n
        .ok ([.banks .xldLand 8 (pairBanks (td.movedBlocks b)), .beats 1 (s.beatSegs fr.core ts b true)] ++ ts.readEffs n ++
          td.landEffs l src.1 ++ td.writeEffs l ++ ueEffs .xmem src.2) })

/-- XST, R105: CMEM to XMEM, each access two CCLK after the CMEM reads of its bytes begin (log 5). -/
def execXst (fr : Frame) (f : MovF) (s : State) : Host.Outcome State Fault Refusal :=
  let k := s.core fr.core
  let n := movedPairs (Handle.of (k.rt f.ts)) (Handle.of (k.rt f.td))
  .next (s.slotOp fr
    { slot := 5, dests := [], bad := none, units := [.d], occ := n,
      run := fun s k => do
        let ts ← s.tile fr.core k f.ts [0] true
        let td ← s.tile fr.core k f.td [1] true
        let b := movedBytes ts.bytes td.bytes
        let src := s.tileBytes (.cmem fr.core) ts
        let l := 8 + n
        let es ← s.scratchLand fr.core td l (src.1.take b)
        ts.readable k
        td.writable k
        .ok ([.banks .xstSend 1 (pairBanks (ts.movedBlocks b)), .beats 3 (s.beatSegs fr.core td b false)] ++ ts.readEffs n ++
          es ++ td.writeEffs l ++ ueEffs (.cmem fr.core) src.2) })

/-! SEND and RECV. -/

/-- The port of a SEND or RECV: NOT_READY unless it is ACTIVE (R106). -/
def State.movPort (s : State) (f : MovF) : Except Flaw PortId :=
  match portOf? f.port.toNat with
  | some p => if s.portActive p then .ok p else .error (.notReady, 0)
  | none => .error (.notReady, 0)

/-- The flits of a SEND: 256 bytes each, in ascending FIDX (R105; 09_weave.md R330). DCORE is the low two bits of TD's BASE and
BSLOT is TD's (log 96). -/
def State.sendFlits (s : State) (c : CoreId) (f : MovF) (td : Handle) (data : List Byte) : List Flit :=
  let n := data.length / 256
  (List.range n).map fun i =>
    { vc := 0, mc := false, last := i + 1 == n, src := s.pcn, dst := BitVec.ofNat 12 (pathDst (s.pathEntry f.path.toNat)),
      dcore := BitVec.ofNat 2 td.base, bslot := td.bslot, fidx := BitVec.ofNat 12 i,
      part := BitVec.ofNat 12 ((s.partOf c).getD 0), path := f.path, lseq := 0, eng := 0, payload := slice data (256 * i) 256 }

/-- SEND, R105, R106, R681. -/
def execSend (fr : Frame) (f : MovF) (s : State) : Host.Outcome State Fault Refusal :=
  let n := (Handle.of ((s.core fr.core).rt f.ts)).bytes / 512
  .next (s.slotOp fr
    { slot := 5, dests := [], bad := none, units := [.d], occ := n,
      run := fun s k => do
        let p ← s.movPort f
        let e := s.pathEntry f.path.toNat
        need (pathValid e && !pathMc e && pathEgress e == p.1) badParam
        let ts ← s.tile fr.core k f.ts [0] true
        ts.readable k
        let src := s.tileBytes (.cmem fr.core) ts
        let fs := s.sendFlits fr.core f (Handle.of (k.rt f.td)) src.1
        need (decide (((s.port p).vc0.toList.map List.length).sum + fs.length ≤ 256)) (.noSpace, 0)
        .ok ([.banks .xstSend 1 (ts.blocks.map wideBanks), .send p fs] ++ ts.readEffs n ++ ueEffs (.cmem fr.core) src.2) })

/-- RECV, R105-R107, R681. -/
def execRecv (fr : Frame) (f : MovF) (s : State) : Host.Outcome State Fault Refusal :=
  .next (s.slotOp fr
    { slot := 5, dests := [], bad := none, units := [.d],
      run := fun s k => do
        let p ← s.movPort f
        let td ← s.tile fr.core k f.td [0] true
        need td.tagged badParam
        td.writable k
        .ok [.tagWrite td.bslot, .recv ⟨p, td.bslot, td.base, td.rows, td.rowLen, td.step⟩] })

/-! ENQ and ILOAD. -/

/-- The engine that ENGINE names (R105). -/
def engineOf (x : BitVec 2) : EngineId := if x = 0 then .tier else if x = 1 then .ring else if x = 2 then .press else .patch

/-- Descriptors that a core has outstanding at an engine, those in the hold queue of a firmware swap with them, and how many it may have (06_tiers.md R206; 11_press.md R410, R433;
12_serving.md R453). -/
def State.queued (s : State) (c : CoreId) : EngineId → Nat
  | .tier => (s.tier.queues[c.1]'(by omega)).length + (s.tier.hold.filter fun d => d.core == some c).length
  | .ring => (s.ringQ c).length
  | .press => (s.pressQ ⟨c.1, by omega⟩).length
  | .patch => (s.gatherQ c).length

def EngineId.limit : EngineId → Nat
  | .tier => 48 | .ring => 32 | .press => 16 | .patch => 4

/-- A core's descriptor as it is issued. -/
def State.coreDesc (s : State) (c : CoreId) (raw : List Byte) (slot : BitVec 8) : Desc :=
  Desc.new raw (some c) none 0 (some slot) (s.core c).life (BitVec.ofNat 12 ((s.partOf c).getD 0)) s.weave.wt

/-- ENQ, R105: the descriptor at TS's base; TD must be TAGGED and its slot EMPTY; NO_SPACE when the engine holds as many of
the core's descriptors as it may. -/
def execEnq (fr : Frame) (f : MovF) (s : State) : Host.Outcome State Fault Refusal :=
  .next (s.slotOp fr
    { slot := 5, dests := [], bad := none, units := [.d], occ := 2,
      run := fun s k => do
        let ts ← s.tile fr.core k f.ts [0] false
        let td := Handle.of (k.rt f.td)
        need td.tagged badParam
        ts.readable k
        td.writable k
        let e := engineOf f.engine
        need (decide (s.queued fr.core e < e.limit)) (.noSpace, 0)
        let m := MemId.cmem fr.core
        let d := s.coreDesc fr.core (s.readMem m ts.base 64) td.bslot
        .ok (ts.readEffs 2 ++ [.tagWrite td.bslot, .enq e d] ++ ueEffs m (s.uesIn m ts.base 64)) })

/-- FORMAT of ILOAD, R98. -/
def iloadBad (f : MovF) : Option Nat :=
  let b := f.ibase.toNat
  let n := f.nblk.toNat
  if b % 64 ≠ 0 ∨ n = 0 ∨ 32 < n ∨ 2048 < b + 64 * n then some rFormat else none

/-- ILOAD, R96: 8,192 bytes from TS's base for each block; the target blocks become invalid at issue, and block j is valid at
c + 8 + 8 (j + 1) (R126). What it reads follows from NBLK; TS's shape is not used (R680; log 97). -/
def execIload (fr : Frame) (f : MovF) (s : State) : Host.Outcome State Fault Refusal :=
  let n := f.nblk.toNat
  .next (s.slotOp fr
    { slot := 5, dests := [], bad := iloadBad f, units := [.d], occ := 8 * n,
      run := fun s k => do
        let h := Handle.of (k.rt f.ts)
        let ts : Handle := { h with stride := 0, rows := 2 * n, rowLen := 4096 }
        need (h.space == 1 && s.handleOk fr.core ts) badParam
        let src ← s.scratchBytes fr.core ts (8192 * n)
        ts.declared k
        let first := f.ibase.toNat / 64
        .ok ([.blocksInvalid first n, .beats 1 (s.beatSegs fr.core ts (8192 * n) true)] ++
          (List.range n).map (fun j =>
            .land (8 + 8 * (j + 1)) (.block (BitVec.ofNat 5 (first + j)) (slice src.1 (8192 * j) 8192))) ++
          ueEffs .xmem src.2) })

/-! Events of what is in flight. -/

/-- The CCLK that pass before an effect in flight lands. -/
def Core.untilLanding (k : Core) (p : Land → Bool) : Nat :=
  match k.flights.find? fun f => p f.what with
  | some f => f.due - k.cyc
  | none => 0

/-- An effect in flight of a held bundle's core lands: the ticks until then pass, and again those by which deferrals move it. A
running core passes its CCLK by its bundles, and the effect lands with them (04_contract.md R124, R147; log 98). -/
def State.untilLands (p : Land → Bool) (c : CoreId) : (fuel : Nat) → State → State
  | 0, s => s
  | fuel + 1, s =>
    let k := s.core c
    let n := k.untilLanding p
    if n = 0 ∨ k.held.isNone ∨ s.clock.paused then s
    else State.untilLands p c fuel (s.passTicks ((n + s.cclkPerTick - 1) / s.cclkPerTick))

/-- ILOAD_BLOCK_VALID: all 64 bundles of a block that an ILOAD fills are written (R96). -/
def execIloadBlockValid (core : CoreId) (blk : BitVec 5) (s : State) : Host.Outcome State Fault Refusal :=
  .next (State.untilLands (fun w => match w with | .block b _ => b == blk | _ => false) core 64 s)

/-- TAG_WRITE_COMPLETE: a core-private write to a slot completes: FILLING to FULL with RC = READS (04_contract.md R142). -/
def execTagWriteComplete (core : CoreId) (bslot : BitVec 8) (s : State) : Host.Outcome State Fault Refusal :=
  .next (State.untilLands (fun w => match w with | .full b => b == bslot | _ => false) core 64 s)

/-- TAG_READ_DRAIN: the last outstanding read of a DRAINING slot finishes (04_contract.md R142). -/
def execTagReadDrain (core : CoreId) (bslot : BitVec 8) (s : State) : Host.Outcome State Fault Refusal :=
  .next (State.untilLands (fun w => match w with | .empty b => b == bslot | _ => false) core 64 s)

end Sys2Proof.Machine
end

