-- ==== Sys2Proof/Machine/Extended.lean ====
section
/-!
DEFINITION. The extended slot (03_bundles.md R83-R85, R108-R116; 07_numerics.md R260-R274; 08_spin.md R285-R286;
10_mangle.md R360, R361; 11_press.md R402; 18_access.md R638), and the events of a held bundle.
-/
namespace Sys2Proof.Machine

open Reg

/-- FORMAT for an ID beyond its field (R109). -/
def idBad (f : ExtF) (top : Nat) : Option Nat := if f.id.toNat ≤ top then none else some rFormat

/-- FORMAT for a MODE that the operation does not list (R109). -/
def modeBad (f : ExtF) (top : Nat) : Option Nat := if f.mode.toNat ≤ top then none else some rFormat

/-! RAND. -/

/-- The values of one draw per lane (R285). -/
def randLanes (l : List (Nat × Lane)) (mode : Nat) : Lanes :=
  Vector.ofFn fun i => ((assocGet l i.1).bind fun x => randValue mode x.out).getD 0

/-- RAND, R108, R286. -/
def execRand (fr : Frame) (f : ExtF) (s : State) : Host.Outcome State Fault Refusal :=
  .next (s.slotOp fr
    { slot := 6, dests := [.v f.vd], bad := modeBad f 5, units := [.x],
      run := fun _ k =>
        if k.allSeeded then
          .ok [.land 3 (.regV f.vd (randLanes k.lanes f.mode.toNat) .none), .lanes (k.lanes.map fun x => (x.1, x.2.step)),
            .drawOp]
        else .error (.notReady, 0) })

/-! SAMPLE. -/

/-- Whether a top-k or top-p limit is set, and whether the temperature is +0.0 (R114, R115). -/
def Sample.limited (x : Sample) : Bool := x.topK != 0 || x.topP != 0x3F800000#32
def Sample.greedy (x : Sample) : Bool := x.temp == 0

/-- The parameters that BEGIN accepts (R116). -/
def Sample.legal (x : Sample) : Bool :=
  isFin x.temp && !x.temp.msb && decide (x.topK ≤ 256) && flt 0 x.topP && !(flt 0x3F800000#32 x.topP) &&
  decide (1 ≤ x.rows) && decide (x.rows ≤ 128)

/-- SAMPLE BEGIN, R113, R116. -/
def execSampleBegin (fr : Frame) (f : ExtF) (s : State) : Host.Outcome State Fault Refusal :=
  .next (s.slotOp fr
    { slot := 6, dests := [], bad := none, units := [.x], occ := 2,
      run := fun _ k => do
        let n := (k.rs f.sc).toNat
        let x : Sample :=
          { begun := true, temp := (k.rs f.sa).setWidth 32, topK := (k.rs f.sb).toNat % 512,
            topP := BitVec.ofNat 32 (bits (k.rs f.sb).toNat 63 32), rows := n, next := 0,
            seen := List.replicate (min n 128) [] }
        need x.legal badParam
        .ok [.sample x, .drawOp] })

/-- A logit as it is kept: a NaN counts as minus infinity (log 12). -/
def logitWord (w : Word) : Word := if isNan w then 0xFF800000#32 else w

/-- The logits of a row of a chunk: FP32 words, or BF16 widened. -/
def rowLogits (fmt : Nat) (row : List Byte) : List Word :=
  if fmt = 9 then (List.range (row.length / 4)).map fun j => logitWord (BitVec.ofNat 32 (field row (4 * j) 4))
  else (List.range (row.length / 2)).map fun j => logitWord (bfWord (field row (2 * j) 2))

/-- One row of a chunk, token by token; without a limit each token draws from the row's lane in presentation order (R114). -/
def presentRow (draws : Bool) (r : Nat) : (vs : List Word) → (token : Nat) → List (Nat × Lane) → List Logit × List (Nat × Lane)
  | [], _, l => ([], l)
  | v :: vs, t, l =>
    let (u, l) : Option Word × List (Nat × Lane) :=
      if draws then
        match drawLane l r with
        | some (o, l) => (some (uniform10 o), l)
        | none => (none, l)
      else (none, l)
    let x := presentRow draws r vs (t + 1) l
    (⟨t, v, u⟩ :: x.1, x.2)

/-- Every row of a chunk. -/
def presentRows (draws : Bool) (fmt first : Nat) (rowLen : Nat) (data : List Byte) (x : Sample) (l : List (Nat × Lane)) :
    Sample × List (Nat × Lane) :=
  let r := ((List.range x.rows).zip x.seen).foldl (fun (acc : List (List Logit) × List (Nat × Lane)) p =>
    let y := presentRow draws p.1 (rowLogits fmt (slice data (p.1 * rowLen) rowLen)) first acc.2
    (acc.1 ++ [p.2 ++ y.1], y.2)) ([], l)
  ({ x with seen := r.1 }, r.2)

/-- Columns of a chunk's tile. -/
def chunkCols (h : Handle) : Nat := if h.fmt = 9 then h.rowLen / 4 else h.rowLen / 2

/-- SAMPLE CHUNK, R113-R116. Its occupancy is 16 + 2 x rows (04_contract.md R126). -/
def execSampleChunk (fr : Frame) (f : ExtF) (s : State) : Host.Outcome State Fault Refusal :=
  .next (s.slotOp fr
    { slot := 6, dests := [], bad := none, units := [.x], occ := 16 + 2 * (s.core fr.core).sample.rows,
      run := fun s k => do
        let x := k.sample
        need x.begun badParam
        let h ← s.tile fr.core k f.th [0] false
        let first := (k.rs f.sc).toNat
        let cols := chunkCols h
        need ((h.fmt == 8 || h.fmt == 9) && decide (x.rows ≤ h.rows) && decide (1 ≤ cols) && decide (cols ≤ 512) &&
          decide (x.next ≤ first) && decide (first + cols ≤ 2 ^ 32)) badParam
        h.readable k
        let draws := !x.greedy && !x.limited
        need (!(draws && (List.range x.rows).any fun r => (assocGet k.lanes r).isNone)) (.notReady, 0)
        let m := MemId.cmem fr.core
        let src := s.tileBytes m h
        let r := presentRows draws h.fmt first h.rowLen src.1 { x with next := first + cols } k.lanes
        .ok ([.sample r.1, .lanes r.2, .drawOp] ++ ueEffs m src.2) })

/-- Logits in descending order, the lower token first among equals (R114). -/
def rankLogits (l : List Logit) : List Logit :=
  l.mergeSort fun a b => flt b.value a.value || (!flt a.value b.value && decide (a.token ≤ b.token))

/-- A token's logit divided by the temperature, in units of 2^-256; none for an infinite one (R114). -/
def scaled (temp logit : Word) : Option Int := quotFixed (FV.of logit) (FV.of temp)

/-- The weights e^((logit - maximum) / T) of logits, in units of 2^-256; none where the maximum is not finite. -/
def weights (temp : Word) (l : List Word) : Option (List Nat) :=
  match l.filterMap (scaled temp) with
  | [] => none
  | x :: xs =>
    let top := xs.foldl max x
    if l.any (fun w => FV.of w == .inf false) then none
    else some (l.map fun w => match scaled temp w with | some v => expFixed (v - top) | none => 0)

/-- The first prefix length of weights whose sum reaches a bound, all of them when none does. -/
def prefixFor (bound : Int) : List Nat → (n : Nat) → (sum : Int) → Nat
  | [], n, _ => n
  | w :: r, n, sum => if bound ≤ sum + w then n + 1 else prefixFor bound r (n + 1) (sum + w)

/-- The length of the smallest prefix of the candidates, in descending probability, whose cumulative probability under the full
temperature-scaled distribution is at least p (R114; log 12). -/
def topPrefix (temp : Word) (row cands : List Word) (p : Word) : Nat :=
  let open_ := Config.samplePrefix temp row cands p
  match weights temp (cands ++ row), FV.of p with
  | some ws, .fin _ m e =>
    let cs := ws.take cands.length
    let total := (ws.drop cands.length).sum
    let bound : Int := (total * m : Nat) / (2 ^ (-e).toNat : Nat)
    let lo := prefixFor (bound - slack) cs 0 0
    let hi := prefixFor (bound + slack) cs 0 0
    lo + open_ % (hi - lo + 1)
  | _, _ => open_

/-- The candidates of a row (R114): every token without a limit; else the top min(k, 256), cut to the prefix that reaches
p. -/
def Sample.candidates (x : Sample) (row : List Logit) : List Logit :=
  if x.limited then
    let top := (rankLogits row).take (if x.topK = 0 then 256 else x.topK)
    if x.topP = 0x3F800000#32 then top
    else top.take (max 1 (topPrefix x.temp (row.map (·.value)) (top.map (·.value)) x.topP))
  else row

/-- The draws of a row's candidates at END, in ascending token index (R114). -/
def drawCands (r : Nat) : List Logit → List (Nat × Lane) → List Logit × List (Nat × Lane)
  | [], l => ([], l)
  | x :: xs, l =>
    match drawLane l r with
    | some (o, l) => let y := drawCands r xs l; ({ x with draw := some (uniform10 o) } :: y.1, y.2)
    | none => let y := drawCands r xs l; (x :: y.1, y.2)

/-- A token's score logit / T - ln(-ln u) in units of 2^-256: below every number for a logit of minus infinity, above every
number for u = 1 or a logit of infinity, open where both meet (R114). -/
inductive Score where
  | below | num (x : Int) | above | noValue
  deriving DecidableEq, Repr

def scoreOf (temp : Word) (x : Logit) : Score :=
  let u := x.draw.getD 0
  match FV.of x.value, FV.of u with
  | .inf neg, _ => if u = 0x3F800000#32 && neg then .noValue else if neg then .below else .above
  | _, .fin _ m e =>
    let l := (-lnFixed m e).toNat
    match scaled temp x.value with
    | some q => if u = 0x3F800000#32 then .above else .num (q - lnFixed l (-256))
    | none => .noValue
  | _, _ => .noValue

/-- Whether the first token's score is the lesser: equal logits with equal draws tie (R114; log 12). -/
def scoreLess (temp : Word) (a b : Logit) : Bool :=
  let open_ := Config.sampleLess temp a.value (a.draw.getD 0) b.value (b.draw.getD 0)
  match scoreOf temp a, scoreOf temp b with
  | .num x, .num y =>
    if slack < y - x then true
    else if slack < x - y ∨ (a.value = b.value ∧ a.draw = b.draw) then false
    else open_
  | .noValue, _ => open_
  | _, .noValue => open_
  | .below, y => y != .below
  | .num _, y => y == .above
  | .above, _ => false

/-- The token chosen among candidates in ascending token order: the best score, the lower token first among equals. -/
def bestToken (temp : Word) : List Logit → Option Logit
  | [] => none
  | x :: xs => some (xs.foldl (fun b y => if scoreLess temp b y then y else b) x)

/-- The log-probability of a token among logits, within 1 ulp (R114; log 12): (logit - maximum) / T - ln of the weights' sum. -/
def logProb (temp logit : Word) (among : List Word) : Word :=
  match weights temp among, scaled temp logit, among.filterMap (scaled temp) with
  | some ws, some v, x :: xs =>
    nearFixed (v - xs.foldl max x - lnFixed ws.sum (-256)) (Config.sampleLogPick temp logit among)
  | _, _, _ => Config.sampleLogProb temp logit among

/-- One row at END: token and log-probability, and the lanes after its draws. -/
def Sample.finishRow (x : Sample) (truncated : Bool) (r : Nat) (row : List Logit) (l : List (Nat × Lane)) :
    Nat × Word × List (Nat × Lane) :=
  let cands := (x.candidates row).mergeSort fun a b => decide (a.token ≤ b.token)
  let (cands, l) := if x.limited && !x.greedy then drawCands r cands l else (cands, l)
  let best := if x.greedy then (rankLogits row).head? else bestToken x.temp cands
  match best with
  | .none => (0, 0, l)
  | .some b => (b.token, logProb x.temp b.value ((if truncated then cands else row).map (·.value)), l)

/-- Every row at END. -/
def Sample.finishRows (x : Sample) (truncated : Bool) (l : List (Nat × Lane)) : List Word × List (Nat × Lane) :=
  ((List.range x.rows).zip x.seen).foldl (fun (acc : List Word × List (Nat × Lane)) p =>
    let (t, lp, l) := x.finishRow truncated p.1 p.2 acc.2
    (acc.1 ++ [BitVec.ofNat 32 t, lp], l)) ([], l)

/-- SAMPLE END, R113-R116: lanes 2r and 2r + 1 of vD; the sequence is closed. -/
def execSampleEnd (fr : Frame) (f : ExtF) (s : State) : Host.Outcome State Fault Refusal :=
  let n := 24 + 4 * (s.core fr.core).sample.rows
  .next (s.slotOp fr
    { slot := 6, dests := [.v f.vd], bad := none, units := [.x], occ := n,
      run := fun _ k => do
        let x := k.sample
        need (x.begun && decide (0 < x.next)) badParam
        need (!(x.limited && !x.greedy && (List.range x.rows).any fun r => (assocGet k.lanes r).isNone)) (.notReady, 0)
        let (ws, l) := x.finishRows (f.imm8.getLsbD 0) k.lanes
        let v : Lanes := Vector.ofFn fun i => ws.getD i.1 0
        let mask : Lanes := Vector.ofFn fun i => if i.1 < 2 * x.rows then 1 else 0
        .ok [.land n (.regV f.vd v (some mask)), .lanes l, .sample Sample.none, .drawOp] })

/-! The scale unit and OPTIM. -/

/-- The magnitudes of a vector register under a FMT, as FP32 (07_numerics.md R260). -/
def fmtWords (fmt : BitVec 2) (v : Lanes) : List Word :=
  if fmt = 0 then v.toList
  else if fmt = 1 then v.toList.map fun x => (FV.ofInt x.toInt).word
  else halvesOf v

/-- SCAMAX, R108; 07_numerics.md R260. -/
def execScamax (fr : Frame) (f : ExtF) (vfmt : BitVec 2) (s : State) : Host.Outcome State Fault Refusal :=
  .next (s.slotOp fr
    { slot := 6, dests := [], bad := if vfmt = 3 then some rFormat else idBad f 255, units := [.x],
      run := fun s k => do
        need (s.scaleValid fr.core f.id.toNat) badParam
        let a := amaxOf (fmtWords vfmt (k.rv f.va))
        .ok [.land 4 (.amax f.id.toNat a.1 a.2)] })

/-- SCUPD, R108; 07_numerics.md R261, R262: on a slot that is not valid it changes nothing. -/
def execScupd (fr : Frame) (f : ExtF) (s : State) : Host.Outcome State Fault Refusal :=
  .next (s.slotOp fr
    { slot := 6, dests := [], bad := idBad f 255, units := [.x],
      run := fun s _ => .ok (if s.scaleValid fr.core f.id.toNat then [.scupd f.id.toNat] else []) })

/-- SCGET, R108; 07_numerics.md R262. -/
def execScget (fr : Frame) (f : ExtF) (s : State) : Host.Outcome State Fault Refusal :=
  .next (s.slotOp fr
    { slot := 6, dests := [.s f.sd], bad := idBad f 255, units := [.x],
      run := fun s _ =>
        let x := s.scaleOf fr.core f.id.toNat
        let y := if f.imm8.getLsbD 0 then fdiv 0x3F800000#32 x else x
        .ok [.land 2 (.regS f.sd (y.setWidth 64))] })

/-- E/512 rounded up, for a record of 128 elements a row (07_numerics.md R264). -/
def optimUnits (h : Handle) : Nat := (128 * h.rows + 511) / 512

/-- OPTIM, R108; 07_numerics.md R268-R274. -/
def execOptim (fr : Frame) (f : ExtF) (s : State) : Host.Outcome State Fault Refusal :=
  let e := optimUnits (Handle.of ((s.core fr.core).rt f.th))
  let reports := f.imm8.getLsbD 0
  .next (s.slotOp fr
    { slot := 6, dests := if reports then [.s f.sd] else [], bad := idBad f 63, units := [.x], occ := 2 * e,
      run := fun s k => do
        let c := fr.core
        let h := s.hyper f.id.toNat
        let t := (k.rs f.sa).toNat
        need (decide (1 ≤ t) && decide (t < 2 ^ 32) && h.valid) badParam
        let th ← s.tile c k f.th [0] false
        need (th.rowLen == 1472 && (h.out == 0 || s.scaleValid c h.slot)) badParam
        th.readable k
        let m := MemId.cmem c
        let src := s.tileBytes m th
        let rows := (List.range th.rows).map fun r => slice src.1 (1472 * r) 1472
        let l := 16 + 2 * e
        let count (n : Nat) : List Eff := if reports then [.land l (.regS f.sd (BitVec.ofNat 64 n))] else []
        let always : List Eff := (if h.sr then [.drawOp] else []) ++ ueEffs m src.2
        match optimRecord h t (s.scaleOf c h.slot) k.lanes rows with
        | .rejected n => .ok ([.gradNonfinite n] ++ count n ++ always)
        | .unseeded => .error (.notReady, 0)
        | .done out sat lanes a =>
          .ok ([.saturated sat, .lanes lanes] ++ (if h.out = 0 then [] else [.land l (.amax h.slot a.1 a.2)]) ++
            th.landEffs l out.flatten ++ count 0 ++ always) })

/-! COLL, FLIP, YIELD. -/

/-- The PARAM checks of COLL (10_mangle.md R360; 11_press.md R393). -/
def State.collOk (s : State) (c : CoreId) (desc : Nat) (h : Handle) : Bool :=
  let d := s.collDesc desc
  let g := s.grp d.grp
  h.tagged && d.valid && s.partOf c == some d.part && (s.grpRank g c).isSome && (h.space == 0 || h.space == 1) &&
  s.handleOk c h && decide (d.extent ≤ h.bytes) &&
  !(h.space == 1 && h.pieces.any fun p => s.namesBank d.part p.1 p.2)

/-- COLL, R108; 10_mangle.md R360, R361. -/
def execColl (fr : Frame) (f : ExtF) (s : State) : Host.Outcome State Fault Refusal :=
  .next (s.slotOp fr
    { slot := 6, dests := [], bad := idBad f 255, units := [.x], occ := 2,
      run := fun s k => do
        let c := fr.core
        let h := Handle.of (k.rt f.th)
        h.readable k
        need (s.collOk c f.id.toNat h) badParam
        need (decide ((s.mangle.colls.filter fun x => x.core == c).length < 4)) (.noSpace, 0)
        .ok [.coll f.id.toNat f.th] })

/-- The weight version that a core has active on a model, 0 when it is not bound to it (R110; 11_press.md R402). -/
def State.activeVersion (s : State) (m : Fin 16) (c : CoreId) : Nat :=
  if s.modelValid m && (s.hg m HANGER_CFG_CORES).testBit c.1 then s.hg m (HANGER_ACTIVE_VERSION.nth c.1) else 0

/-- FLIP, R108, R110. -/
def execFlip (fr : Frame) (f : ExtF) (s : State) : Host.Outcome State Fault Refusal :=
  .next (s.slotOp fr
    { slot := 6, dests := [.s f.sd], bad := idBad f 15, units := [.x],
      run := fun s _ =>
        let m := modelOf f.id.toNat
        let acts := s.flipActs m fr.core
        let ver := if acts then s.hg m HANGER_PEND_VER_VERSION else s.activeVersion m fr.core
        .ok ([.land 2 (.regS f.sd (BitVec.ofNat 64 (ver % 2 ^ 32 + (if acts then 2 ^ 32 else 0))))] ++
          (if acts then [.flip (f.id.setWidth 4)] else [])) })

/-- While QUIESCE_N is accepted low, a RUNNING core that comes to a YIELD or EPOCH bundle holds before it, and what is in
flight lands (18_access.md R638). -/
def State.quiesces (s : State) (c : CoreId) : Bool := s.pins.quiesceLow && s.mayIssue c && !(s.core c).bundle.opened
def State.quiet (s : State) (c : CoreId) : State :=
  ((s.drainStaging c).landAll c).updCore c fun k => { k with quiet := true }

/-- YIELD, R108, R111. -/
def execYield (fr : Frame) (f : ExtF) (s : State) : Host.Outcome State Fault Refusal :=
  .next (if s.quiesces fr.core then s.quiet fr.core
    else s.slotOp fr
      { slot := 6, dests := [], bad := none, yields := true, units := [.x],
        run := fun _ k => .ok (if k.evict then [.yieldTo f.tgt] else []) })

/-! WAIT and EPOCHW, and what ends a hold. -/

/-- WAIT, R83, R108. -/
def execWait (fr : Frame) (f : ExtF) (budget : Word) (s : State) : Host.Outcome State Fault Refusal :=
  .next (s.holdOp fr { slot := 6, dests := [], bad := idBad f 255, run := fun _ _ => .ok [] } budget
    (fun _ _ => .slot (f.id.setWidth 8)) none)

/-- EPOCHW, R83, R108, R112. -/
def execEpochw (fr : Frame) (f : ExtF) (budget : Word) (s : State) : Host.Outcome State Fault Refusal :=
  .next (if s.quiesces fr.core then s.quiet fr.core
    else s.holdOp fr { slot := 6, dests := [.s f.sd], bad := modeBad f 1, units := [.x], run := fun _ _ => .ok [] } budget
      (fun s k => .epoch (if f.mode = 0 then s.epochNo + 1 else (k.rs f.sa).toNat)) (some f.sd))

/-- A held bundle of a core meets its condition or not. -/
def State.retryHold (s : State) (c : CoreId) (p : HoldFor → Bool) : State :=
  match (s.core c).held with
  | some h => if p h.what && !s.clock.paused then s.tryHold c h else s
  | none => s

/-- WAIT_RELEASE: the slot that a held WAIT names reads FULL, or a status stands against it (R83, R84; 06_tiers.md R209). -/
def execWaitRelease (core : CoreId) (s : State) : Host.Outcome State Fault Refusal :=
  .next (s.retryHold core fun w => match w with | .slot _ => true | .epoch _ => false)

/-- EPOCH_RELEASE: the boundary that a held EPOCHW names has come (R83). -/
def execEpochRelease (core : CoreId) (s : State) : Host.Outcome State Fault Refusal :=
  .next (s.retryHold core fun w => match w with | .slot _ => false | .epoch _ => true)

/-- HOLD_BUDGET_TIMEOUT: a hold that has lasted longer than its budget, the clocks running, faults (R84; 04_contract.md R148). -/
def execHoldBudgetTimeout (core : CoreId) (s : State) : Host.Outcome State Fault Refusal :=
  .next (match (s.core core).held with
    | some h => if h.budget < h.ticks ∧ s.clock.paused = false then s.budgetOut core h else s
    | none => s)

/-- BREAKPOINT_HALT: the next bundle's header has BRK set, and BRK_EN is set (R85). -/
def execBreakpointHalt (core : CoreId) (s : State) : Host.Outcome State Fault Refusal :=
  .next (if s.mayIssue core && !(s.core core).bundle.opened && s.breaks core then s.debugHalt core else s)

end Sys2Proof.Machine
end

