-- ==== Sys2Proof/Machine/Links.lean ====
section
/-!
DEFINITION. Swijor ports (09_weave.md R305-R345, R350-R355): link states and training, latency measurement and pinning, weave
time over links, control words, replay, slots and their flits, landing of VC0.
-/
namespace Sys2Proof

/-- State codes of LINK_STATE, R352. -/
def Machine.LinkSt.code : Machine.LinkSt → Nat
  | .down => 0 | .train => 1 | .pin => 2 | .active => 3 | .retrain => 4 | .failed => 5

end Sys2Proof

namespace Sys2Proof.Machine

open Reg

/-! Causes of LINK_STATE.CAUSE, R352. -/

abbrev kLos : Nat := 1
abbrev kFecUe : Nat := 2
abbrev kDrift : Nat := 3
abbrev kReplayOvf : Nat := 4
abbrev kRefclk : Nat := 5
abbrev kSw : Nat := 6
abbrev kPeer : Nat := 7
abbrev kTrainFail : Nat := 8
abbrev kPinRange : Nat := 9
abbrev kTimeConflict : Nat := 10

/-- Registers of a port's LINK page. -/
def State.lk (s : State) (p : PortId) (f : Fld) : Nat := s.get (Page.link p.1) f
def State.lkSet (s : State) (p : PortId) (f : Fld) (x : Nat) : State := s.set (Page.link p.1) f x
def State.lkAdd (s : State) (p : PortId) (f : Fld) (x : Nat) : State := s.add (Page.link p.1) f x
def State.lkEvent (s : State) (p : PortId) (e : Ev) (args : List Word) : State := s.raise (Page.link p.1) e (byPort p) args

/-! Leaving ACTIVE, and what is held. -/

/-- VC0 flits in the FIFOs of a port that leaves ACTIVE are discarded (R351). -/
def State.dropVc0 (s : State) (p : PortId) : State :=
  let n := ((s.port p).vc0.toList.map List.length).sum
  if n = 0 then s
  else
    let s := (s.updPort p fun k => { k with vc0 := Vector.replicate 4 [] }).lkAdd p LINK_VC0_DROPPED_COUNT n
    s.lkEvent p Ev.VC0_DISCARDED (arg n)

/-- Engine flits of VC1-VC3 that no acknowledgement covers are held with the others (R314, R351). -/
def State.holdUnacked (s : State) (p : PortId) : State :=
  s.updPort p fun k =>
    { k with vcq := Vector.ofFn fun i => (k.replay.filter fun f => f.vc.toNat == i.1 + 1) ++ k.vcq[i],
             replay := [], resend := [] }

/-- A request whose flit is discarded completes NOT_READY: a remote tile (06_tiers.md R213), a collective (10_mangle.md
R375). -/
def State.failFlit (s : State) (f : Flit) : State :=
  let e := f.eng.toNat
  if e.testBit 15 then
    let ctl := bits e 14 13 == 2
    if ctl && field f.payload 0 1 != 1 then s
    else
      let hit := s.mangle.colls.filter fun x =>
        x.grp.toNat == f.bslot.toNat && (s.grp x.grp.toNat).part == f.part.toNat &&
        x.epoch.toNat % 128 == f.fidx.toNat / 32
      mangleRun mangleFuel (hit.map fun x => .fault x.core x.grp x.epoch cLinkDown) s
  else if bits e 14 12 = 5 ∧ f.fidx = 0 ∧ (bits e 11 8 = 1 ∨ bits e 11 8 = 3) then
    let tag := BitVec.ofNat 16 (field f.payload (if bits e 11 8 = 1 then 8 else 32) 2)
    match s.remoteOf f.part tag (bits e 11 8 == 3) with
    | some r => s.failRemote r .notReady
    | none => s
  else s

/-- Held VC1-VC3 flits are discarded and their requests complete NOT_READY (R351). -/
def State.dropHeld (s : State) (p : PortId) : State :=
  let l := (s.port p).vcq.toList.flatten
  (eachOf l (fun f s => s.failFlit f) (s.updPort p fun k => { k with vcq := Vector.replicate 3 [] })).flitsLost s p

/-! Changes of state. -/

/-- A port takes a new state, with a cause when one is recorded; a port that stays in its state logs nothing (R308, R351,
R352, R354). -/
def State.moveLink (s : State) (p : PortId) (st : LinkSt) (cause : Option Nat) : State :=
  let old := (s.port p).st
  let s := match cause with
    | some c => s.lkSet p LINK_STATE_CAUSE c
    | none => s
  if old = st then s
  else
    let s := (s.updPort p fun k => { k with st := st }).lkSet p LINK_STATE_STATE st.code
    let c := s.lk p LINK_STATE_CAUSE
    let s := s.lkEvent p Ev.LINK_STATE (arg st.code ++ arg c)
    let s := if old = .active then (s.holdUnacked p).dropVc0 p else s
    match st with
    | .failed => (s.lkEvent p Ev.LINK_FAILED (arg c)).dropHeld p
    | .retrain => (s.lkAdd p LINK_RETRAINS_COUNT 1).lkEvent p Ev.RETRAIN (arg c)
    | .down => s.updPort p fun k => { k with attempts := 0, fromDown := true }
    | _ => s

/-- A training attempt begins: LANES and PRESET apply (R309, R352). -/
def State.newAttempt (s : State) (p : PortId) : State :=
  s.updPort p fun k =>
    { k with locked := false, ident := none, sentRdy := false, gotRdy := false, rounds := [], pinned := false,
             sentPin := false, gotPin := false, timed := false, ctl := [], pinAt := none, stampIn := none,
             laneCfg := BitVec.ofNat 2 (s.lk p LINK_CTRL_LANES), presetCfg := BitVec.ofNat 8 (s.lk p LINK_CTRL_PRESET) }

/-- TRAIN, with a new attempt. -/
def State.enterTrain (s : State) (p : PortId) : State := (s.moveLink p .train none).newAttempt p

/-- A control word to send (R313). -/
def State.sendCtl (s : State) (p : PortId) (w : Ctl) : State := s.updPort p fun k => { k with ctl := k.ctl ++ [w] }

/-- The bytes of a control word with a KIND, SUB and ARG: what the port acknowledges, the credits that it returned, and the CRC
(R313-R315). -/
def Port.word (k : Port) (kind sub arg : Nat) : List Byte :=
  let b := leBytes 2 k.ackRx.toNat ++ leBytes 1 k.nakOut.toNat ++ (k.freed.toList.flatMap fun n => leBytes 1 n.toNat) ++
    leBytes 1 kind ++ leBytes 1 sub ++ leBytes 6 arg
  b ++ leBytes 2 (crc16 b)

/-- The link goes to RETRAIN and from there to TRAIN at once, keeping its latency; for its own cause other than LOS it
sends PEER_RETRAIN in its last control word (R308, R316, R327). -/
def State.retrainLink (s : State) (p : PortId) (cause : Nat) : State :=
  let s := if cause = kLos ∨ cause = kPeer then s else s.updPort p fun k => { k with wire := [k.word 5 cause 0] }
  (s.moveLink p .retrain (some cause)).enterTrain p

/-- A failed attempt: the third in a row ends in FAILED, else a new one starts at once; LOS and PEER in PIN are recorded
(R308, R309). -/
def State.attemptFailed (s : State) (p : PortId) (cause : Option Nat) : State :=
  let s := s.updPort p fun k => { k with attempts := k.attempts + 1 }
  if 3 ≤ (s.port p).attempts then s.moveLink p .failed (some kTrainFail)
  else
    let s := match cause with
      | some c => s.lkSet p LINK_STATE_CAUSE c
      | none => s
    s.enterTrain p

/-- RETRAIN written, or the reference changes: an ACTIVE port retrains; in TRAIN or PIN a new attempt starts that is not
counted as failed (R308, R322). -/
def State.restartLink (s : State) (p : PortId) (cause : Nat) : State :=
  match (s.port p).st with
  | .active => s.retrainLink p cause
  | .train | .pin => (s.lkSet p LINK_STATE_CAUSE cause).enterTrain p
  | _ => s

/-- ENABLE is cleared: DOWN (R308). -/
def State.linkDown (s : State) (p : PortId) : State := s.moveLink p .down none

/-- A port reset (16_reset.md R576, R578): held requests fail, both tables clear, an armed load for the port is dropped, and
the port is DOWN. -/
def State.resetPort (s : State) (p : PortId) : State :=
  let s := (s.moveLink p .down none).dropHeld p
  let s := s.setPort p Port.reset
  let mine (a : Option Armed) : Bool := match a with | some x => !x.path && x.port == p.1 | none => false
  if mine s.weave.armed then
    (s.updWeave fun w => { w with armed := none }).set Page.weave WEAVE_LOAD_STATUS_ARMED 0
  else s

/-- Whether a port takes part in anything: its page is not in reset. -/
def State.portUp (s : State) (p : PortId) : Bool := !s.inReset (Page.link p.1)

/-- A change of a port that is not in reset. -/
def State.onPort (s : State) (p : PortId) (f : Port → State → State) : State := if s.portUp p then f (s.port p) s else s

/-- Whether LINK_CTRL.LANES selects a lane (R352). -/
def laneOn (lanes : Nat) (i : Fin 4) : Bool := decide (i.1 < (match lanes with | 0 => 4 | 1 => 2 | _ => 1))

/-- What a lane of a port carries (R683): step 2 of training is reached with TRAIN_LOCK (log 113). -/
def State.laneOut (s : State) (p : PortId) (i : Fin 4) : LaneOut :=
  let k := s.port p
  if s.flag (Page.link p.1) LINK_CTRL_ENABLE = false ∨ k.st = .failed ∨ laneOn (s.lk p LINK_CTRL_LANES) i = false then .idle
  else if k.st = .down ∨ (k.st = .train ∧ k.locked = false) then .prbs31
  else .fec

/-- SIGNAL_DETECT: signal on every configured lane of a port that is DOWN and enabled (R308). -/
def execSignalDetect (p : PortId) (s : State) : Host.Outcome State Fault Refusal :=
  .next (s.onPort p fun k s =>
    if k.st = .down ∧ s.flag (Page.link p.1) LINK_CTRL_ENABLE then s.enterTrain p else s)

/-! Weave time over links. -/

def State.aligned (s : State) : Bool := s.flag Page.weave WEAVE_STATUS_ALIGNED

/-- WT bits [47:0]. -/
def State.wt48 (s : State) : Nat := s.weave.wt.toNat % 2 ^ 48

/-- Whether a port in PIN has exchanged PIN_DONE. -/
def Port.pinExchanged (k : Port) : Bool := k.st == .pin && k.sentPin && k.gotPin

/-- An ALIGNED end sends TIME after the PIN_DONE exchange, in two control words (R325). -/
def State.sendTime (s : State) (p : PortId) : State :=
  s.updPort p fun k => { k with ctl := k.ctl ++ [.timeLow, .timeHigh], pinAt := some s.weave.wt }

/-- Whether time is settled at a port (R319, R321): this chip is ALIGNED and has sent its TIME; and the peer has sent its own, or has
not within the ticks P in which it could (log 41). -/
def State.timeSettled (s : State) (p : PortId) : Bool :=
  let k := s.port p
  let waited := match k.pinAt with
    | some a => decide (s.lk p LINK_REPLAY_PENALTY_TICKS ≤ (s.weave.wt - a).toNat)
    | none => false
  s.aligned && !k.ctl.contains .timeLow && !k.ctl.contains .timeHigh && (k.timed || waited)

/-- PIN ends in ACTIVE once PIN_DONE is exchanged and time is settled (R308, R314-R316, R319, R321). -/
def State.settle (s : State) (p : PortId) : State :=
  if (s.port p).pinExchanged && s.timeSettled p then
    let s := s.updPort p fun k =>
      { k with attempts := 0, lseqTx := 0, ackRx := 0xFFFF, nakFor := none, nakOut := false, replay := [], resend := [], surplus := 0,
               lateRun := false, freed := Vector.replicate 3 0, owed := 0, seenCr := Vector.replicate 3 0, credits := Vector.replicate 3 64 }
    s.moveLink p .active none
  else s

/-- The chip has become ALIGNED: it serves as a time source to its other peers that wait in PIN (R319, R323). -/
def State.timeSource (s : State) (skip : Option PortId) : State :=
  eachOf allPorts (fun p s =>
    if (s.port p).pinExchanged && some p != skip then (s.sendTime p).settle p else s) s

/-- The chip becomes ALIGNED, by MASTER or through a port (R319, R320, R354). -/
def State.align (s : State) (parent master : Nat) (via : Option PortId) : State :=
  let s := ((s.set Page.weave WEAVE_STATUS_ALIGNED 1).set Page.weave WEAVE_STATUS_PARENT parent).set Page.weave
    WEAVE_STATUS_MASTER_PCN master
  (s.raise Page.weave Ev.TIME_ALIGNED byBlock (arg parent ++ arg master)).timeSource via

/-- A write of WEAVE_CTRL.MASTER (R320); `was` is MASTER before the write. -/
def State.masterWritten (s : State) (was now : Bool) : State :=
  if !now || was then s
  else if s.aligned || !s.flag Page.chip CHIP_PCN_VALID then
    (s.set Page.weave WEAVE_CTRL_MASTER 0).raise Page.weave Ev.MASTER_REFUSED
  else s.align 0xF s.pcn.toNat none

/-- The reference source changes: ALIGNED and MASTER clear, and every port but P0 and P1 retrains (R322). -/
def State.refChanged (s : State) : State :=
  let s := ((s.set Page.weave WEAVE_STATUS_ALIGNED 0).set Page.weave WEAVE_CTRL_MASTER 0).set Page.weave
    WEAVE_STATUS_PARENT 0xF
  eachOf (allPorts.drop 2) (fun p s => s.restartLink p kRefclk) s

/-! Training, R316. -/

/-- The ARG of this end's IDENT (R316). -/
def State.identArg (s : State) (p : PortId) : Nat :=
  s.pcn.toNat + 2 ^ 12 * p.1 + 2 ^ 16 * (s.port p).laneCfg.toNat + 2 ^ 18 * s.lk p LINK_PIN_TARGET_TARGET +
    2 ^ 28 * s.aligned.toNat + 2 ^ 29 * s.get Page.weave WEAVE_STATUS_MASTER_PCN

/-- TRAIN_LOCK: steps 1 and 2 end; from now on every control word is an IDENT until the peer's has come (R316). -/
def execTrainLock (p : PortId) (s : State) : Host.Outcome State Fault Refusal :=
  .next (s.onPort p fun k s => if k.st = .train ∧ k.locked = false then s.updPort p fun k => { k with locked := true } else s)

/-- Whether this end leads the measurement: the lower PCN (R324). -/
def State.leads (s : State) (k : Port) : Bool :=
  match k.ident with
  | some i => decide (s.pcn.toNat < i.pcn.toNat)
  | none => false

/-- The port enters PIN; the leading end sends its first marker (R316, R324, R325). -/
def State.enterPin (s : State) (p : PortId) : State :=
  let k := s.port p
  let target := if k.fromDown then BitVec.ofNat 10 (s.lk p LINK_PIN_TARGET_TARGET) else k.target
  let s := (s.moveLink p .pin none).updPort p fun k => { k with target := target }
  if s.leads (s.port p) then s.sendCtl p .marker else s

/-- The fields of an IDENT, R316. -/
def identOf (x : Nat) : Ident :=
  ⟨BitVec.ofNat 12 x, BitVec.ofNat 4 (bits x 15 12), BitVec.ofNat 2 (bits x 17 16), BitVec.ofNat 10 (bits x 27 18),
    x.testBit 28, BitVec.ofNat 12 (bits x 40 29)⟩

/-- The peer's IDENT is taken and compared (R316). -/
def State.gotIdent (s : State) (p : PortId) (arg : Nat) : State :=
  let k := s.port p
  if k.st = .train ∧ k.locked ∧ k.ident.isNone then
    let i := identOf arg
    let s := ((s.updPort p fun k => { k with ident := some i }).lkSet p LINK_STATE_PEER_PCN i.pcn.toNat).lkSet p
      LINK_STATE_PEER_PORT i.port.toNat
    if i.lanes ≠ k.laneCfg ∨ i.pcn = s.pcn then s.attemptFailed p none
    else
      let s := (s.updPort p fun k => { k with sentRdy := true }).sendCtl p (.train 2 0)
      if k.gotRdy then s.enterPin p else s
  else s

/-- IDENT: the peer's IDENT word (R316). -/
def execIdent (p : PortId) (arg : BitVec 48) (s : State) : Host.Outcome State Fault Refusal :=
  .next (s.onPort p fun _ s => s.gotIdent p arg.toNat)

/-- An end that has sent and received READY enters PIN (R316). -/
def State.gotReady (s : State) (p : PortId) : State :=
  let k := s.port p
  if k.st = .train ∧ k.locked then
    let s := s.updPort p fun k => { k with gotRdy := true }
    if k.sentRdy then s.enterPin p else s
  else s

/-- READY, R316. -/
def execReady (p : PortId) (s : State) : Host.Outcome State Fault Refusal := .next (s.onPort p fun _ s => s.gotReady p)

/-! Measurement and pinning, R324-R327. -/

/-- The latency that a direction pins for a measurement (R326). -/
def pinOf (target meas : Nat) : Nat := if target ≠ 0 then target else 4 * ((meas + 2 + 3) / 4)

/-- Pin the receive direction to a measurement: the latency is new at a PIN from DOWN, else kept and checked (R326, R327);
P follows from both directions (R335); then PIN_DONE is sent. -/
def State.pinLink (s : State) (p : PortId) (meas : Nat) : State :=
  let k := s.port p
  let old := s.lk p LINK_LAT_PIN
  let fresh := k.fromDown || old == 0
  let lpin := if fresh then pinOf k.target.toNat meas else old
  let s := (s.lkSet p LINK_LAT_MEAS meas).updPort p fun k => { k with fromDown := false }
  let s := if fresh then
      let peer := pinOf (match k.ident with | some i => i.target.toNat | none => 0) meas
      (s.lkSet p LINK_LAT_PIN lpin).lkSet p LINK_REPLAY_PENALTY_TICKS (lpin + peer + 16)
    else s
  if lpin < meas + 2 ∨ meas + 255 < lpin then s.moveLink p .failed (some kPinRange)
  else
    let s := (s.updPort p fun k => { k with pinned := true, sentPin := true }).sendCtl p (.train 4 0)
    let s := if (s.port p).pinExchanged && s.aligned then s.sendTime p else s
    s.settle p

/-- The end that does not lead answers a marker with an ECHO in its next control word (R325). -/
def State.gotMarker (s : State) (p : PortId) (arg : Nat) : State :=
  let k := s.port p
  if k.st = .pin ∧ s.leads k = false then s.updPort p fun k => { k with ctl := .echo arg s.weave.wt :: k.ctl } else s

/-- MARKER, R325. -/
def execMarker (p : PortId) (arg : BitVec 48) (s : State) : Host.Outcome State Fault Refusal :=
  .next (s.onPort p fun _ s => s.gotMarker p arg.toNat)

/-- One round trip: after 64 the leading end knows L_meas, sends PIN_RESULT and pins (R325). -/
def State.gotEcho (s : State) (p : PortId) (arg sub : Nat) : State :=
  let k := s.port p
  if k.st = .pin ∧ s.leads k ∧ k.rounds.length < 64 then
    let round := (s.wt48 + 2 ^ 49 - arg - sub % 8) % 2 ^ 48
    let s := s.updPort p fun k => { k with rounds := k.rounds ++ [round] }
    if k.rounds.length + 1 < 64 then s.sendCtl p .marker
    else
      let meas := ((s.port p).rounds.foldl max 0 + 1) / 2
      (s.sendCtl p (.train 3 (meas % 1024))).pinLink p meas
  else s

/-- ECHO, R325. -/
def execEcho (p : PortId) (arg : BitVec 48) (sub : BitVec 8) (s : State) : Host.Outcome State Fault Refusal :=
  .next (s.onPort p fun _ s => s.gotEcho p arg.toNat sub.toNat)

/-- The other end learns L_meas and pins (R326). -/
def State.gotPinResult (s : State) (p : PortId) (lmeas : Nat) : State :=
  let k := s.port p
  if k.st = .pin ∧ s.leads k = false ∧ k.pinned = false then s.pinLink p lmeas else s

/-- PIN_RESULT, R326. -/
def execPinResult (p : PortId) (lmeas : BitVec 10) (s : State) : Host.Outcome State Fault Refusal :=
  .next (s.onPort p fun _ s => s.gotPinResult p lmeas.toNat)

/-- The peer's PIN_DONE (R316). -/
def State.gotPinDone (s : State) (p : PortId) : State :=
  let k := s.port p
  if k.st = .pin ∧ k.gotPin = false then
    let s := s.updPort p fun k => { k with gotPin := true }
    let s := if (s.port p).pinExchanged && s.aligned then s.sendTime p else s
    s.settle p
  else s

/-- PIN_DONE, R316. -/
def execPinDone (p : PortId) (s : State) : Host.Outcome State Fault Refusal := .next (s.onPort p fun _ s => s.gotPinDone p)

/-- A stamp or master that disagrees: FAILED, TIME_CONFLICT (R321, R354). -/
def State.timeConflict (s : State) (p : PortId) (kind : Nat) : State :=
  let peer := match (s.port p).ident with
    | some i => i.pcn.toNat
    | none => 0
  (s.moveLink p .failed (some kTimeConflict)).raise Page.weave Ev.TIME_CONFLICT (byPort p) (arg kind ++ arg peer)

/-- The peer's stamp and its MASTER_PCN; its SUB 0 word was delivered `ago` ticks before (R319, R321, R325). A chip that is not ALIGNED
takes its time from it, and the boundaries before that time are past. -/
def State.gotTime (s : State) (p : PortId) (stamp : Dword) (masterPcn : Nat) (ago : Dword) : State :=
  let k := s.port p
  if k.pinExchanged && !k.timed then
    let wt := stamp + BitVec.ofNat 64 (s.lk p LINK_LAT_PIN) + ago
    if s.aligned then
      if s.weave.wt ≠ wt then s.timeConflict p 0
      else if masterPcn ≠ s.get Page.weave WEAVE_STATUS_MASTER_PCN then s.timeConflict p 1
      else (s.updPort p fun k => { k with timed := true }).settle p
    else
      let jump : Int := (wt.toNat : Int) - s.weave.wt.toNat
      let s := (s.updPort p fun k => { k with timed := true }).updWeave fun w =>
        { w with wt := wt, epoch := wt.toNat / epochTicks }
      let s := s.updClock fun k => { k with anchor := k.anchor + jump, decided := wt.toNat / epochTicks }
      let s := eachOf allPorts (fun p s => s.updPort p fun k => { k with txAt := none }) s
      (s.align p.1 masterPcn (some p)).settle p
  else s

/-- TIME: the peer's stamp as it is delivered, with its MASTER_PCN (R325). -/
def execTime (p : PortId) (stamp : Dword) (masterPcn : Pcn) (s : State) : Host.Outcome State Fault Refusal :=
  .next (s.onPort p fun _ s => s.gotTime p stamp masterPcn.toNat 0)

/-! Loss. -/

/-- The peer retrains: cause PEER (R308, R316). -/
def State.gotPeerRetrain (s : State) (p : PortId) : State :=
  let k := s.port p
  if k.st = .active then s.retrainLink p kPeer else if k.st = .pin then s.attemptFailed p (some kPeer) else s

/-- PEER_RETRAIN, R308, R316. -/
def execPeerRetrain (p : PortId) (_cause : Byte) (s : State) : Host.Outcome State Fault Refusal :=
  .next (s.onPort p fun _ s => s.gotPeerRetrain p)

/-- TRAIN_TIMEOUT: an attempt has not entered PIN within 2 ms (R316). -/
def execTrainTimeout (p : PortId) (s : State) : Host.Outcome State Fault Refusal :=
  .next (s.onPort p fun k s => if k.st = .train then s.attemptFailed p none else s)

/-- LOS: loss of signal or of FEC lock (R308). In TRAIN the lanes lock anew within the attempt. -/
def execLos (p : PortId) (s : State) : Host.Outcome State Fault Refusal :=
  .next (s.onPort p fun k s =>
    match k.st with
    | .active => s.retrainLink p kLos
    | .pin => s.attemptFailed p (some kLos)
    | .train => s.newAttempt p
    | _ => s)

/-- DRIFT: the elastic buffer's fill has moved by `ticks` from the fill set at pinning (R311). -/
def execDrift (p : PortId) (ticks : Int) (s : State) : Host.Outcome State Fault Refusal :=
  .next (s.onPort p fun k s => if k.st = .active ∧ 2 < ticks.natAbs then s.retrainLink p kDrift else s)

/-! Replay, R312, R314, R331-R337. -/

/-- A failure that the receive direction counts, in any state; more than 16 in one epoch retrain an ACTIVE link (R312, R352). -/
def State.rxFailure (s : State) (p : PortId) (asksReplay : Bool) : State :=
  let s := s.lkAdd p LINK_FEC_UE_COUNT 1
  let k := s.port p
  let e := s.epochNo
  let n := if k.faultEp = e then k.faults + 1 else 1
  let s := s.updPort p fun k => { k with faults := n, faultEp := e }
  if k.st = .active then
    if 16 < n then s.retrainLink p kFecUe
    else if asksReplay then s.updPort p fun k => { k with nakOut := true, lateRun := false }
    else s
  else s

/-- FEC_UNCORRECTABLE: a codeword, a header or a control word that fails, or a corrected codeword (R306, R312-R314,
R331). -/
def execFecUncorrectable (p : PortId) (kind : RxFault) (s : State) : Host.Outcome State Fault Refusal :=
  .next (s.onPort p fun _ s =>
    match kind with
    | .corrected => s.lkAdd p LINK_FEC_CE_COUNT 1
    | .codeword | .hcrc => s.rxFailure p true
    | .word => s.rxFailure p false)

/-- Free every kept flit up to an ACK_SEQ (R314). -/
def freeThrough (ack : BitVec 16) (l : List Flit) : List Flit :=
  match l.findIdx? fun f => f.lseq == ack with
  | some i => l.drop (i + 1)
  | none => l

/-- A NAK: the first one for an ACK_SEQ resends from ACK_SEQ + 1; a flit that is no longer kept retrains the link (R314, R334,
R337). -/
def State.nakLink (s : State) (p : PortId) (ack : BitVec 16) : State :=
  let k := s.port p
  if k.nakFor = some ack then s
  else
    let s := s.updPort p fun k => { k with nakFor := some ack, replay := freeThrough ack k.replay }
    let keep := (s.port p).replay
    if keep.any fun f => f.lseq == ack + 1 then
      s.updPort p fun k => { k with resend := keep.dropWhile fun f => f.lseq != ack + 1 }
    else if k.lseqTx = ack + 1 then s
    else s.retrainLink p kReplayOvf

/-- NAK, R334. -/
def execNak (p : PortId) (ackSeq : BitVec 16) (s : State) : Host.Outcome State Fault Refusal :=
  .next (s.onPort p fun k s => if k.st = .active then s.nakLink p ackSeq else s)

/-- Bytes of a control word, lowest first. -/
def ctlBytes (w : BitVec 128) : List Byte := leBytes 16 w.toNat

/-- What a good control word acknowledges and returns to an ACTIVE link's transmitter (R313-R315). -/
def State.gotAcks (s : State) (p : PortId) (w : BitVec 128) : State :=
  let b := ctlBytes w
  let ack := BitVec.ofNat 16 (field b 0 2)
  let nak := w.getLsbD 16
  let cr (i : Nat) : BitVec 8 := BitVec.ofNat 8 (field b (3 + i) 1)
  if (s.port p).st = .active then
    let s := s.updPort p fun k =>
      { k with replay := freeThrough ack k.replay
               credits := Vector.ofFn fun i => k.credits[i] + (cr i.1 - k.seenCr[i]).toNat
               seenCr := Vector.ofFn fun i => cr i.1
               nakFor := if nak then k.nakFor else none }
    if nak then s.nakLink p ack else s
  else s

/-- What the KIND, SUB and ARG of a good control word do (R313, R316, R325); reserved ones do nothing. -/
def State.gotKind (s : State) (p : PortId) (kind sub arg : Nat) : State :=
  match kind, sub with
  | 1, 1 => s.gotIdent p arg
  | 1, 2 => s.gotReady p
  | 1, 3 => s.gotPinResult p (arg % 1024)
  | 1, 4 => s.gotPinDone p
  | 2, _ => s.gotMarker p arg
  | 3, n => s.gotEcho p arg n
  | 4, 0 => s.updPort p fun k => { k with stampIn := some (arg, s.weave.wt) }
  | 4, 1 =>
    match (s.port p).stampIn with
    | some (low, got) => s.gotTime p (BitVec.ofNat 64 (low + 2 ^ 48 * (arg % 2 ^ 16))) (bits arg 27 16) (s.weave.wt - got)
    | none => s
  | 5, _ => s.gotPeerRetrain p
  | _, _ => s

/-- CONTROL_WORD: a word whose CRC fails is counted and discarded; else its acknowledgement, its credits and its KIND act
(R313-R316, R325). -/
def execControlWord (p : PortId) (w : BitVec 128) (s : State) : Host.Outcome State Fault Refusal :=
  let b := ctlBytes w
  .next (s.onPort p fun _ s =>
    if crc16 (b.take 14) ≠ field b 14 2 then s.rxFailure p false
    else (s.gotAcks p w).gotKind p (field b 6 1 % 16) (field b 7 1) (field b 8 6))

/-! Slots, R338-R345, R348. -/

/-- Q, the slots of the quiet window (R348, R353). -/
def State.quietLen (s : State) : Nat := 256 * min 64 (max 4 (s.get Page.weave WEAVE_QUIET_LEN))

/-- Whether flits may be sent in the current slot (R342, R348). -/
def State.slotOpen (s : State) (k : Port) : Bool :=
  let i := s.weave.wt.toNat % 4096
  !s.clock.paused && (if k.laneCfg = 1 then i % 2 == 0 else if k.laneCfg = 2 then i % 4 == 0 else true)

/-- The core that owns the current slot for VC0 (R338, R342, R348). -/
def State.slotOwner (s : State) (k : Port) : Option CoreId :=
  let wt := s.weave.wt.toNat
  if k.laneCfg ≠ 0 ∨ epochTicks ≤ wt % epochTicks + s.quietLen ∨ k.table.isEmpty then none
  else
    let e := k.table.getD (wt % 4096 % k.table.length) 0
    if e.getLsbD 0 then some (coreOf (bits e.toNat 2 1)) else none

/-- Weight of a VC, 0 acting as 1 (R345). -/
def Port.weight (k : Port) (v : Fin 3) : Nat := max 1 (k.weights[v]).toNat

/-- Whether a VC has a flit and a credit (R344). -/
def Port.vcReady (k : Port) (v : Fin 3) : Bool := !(k.vcq[v]).isEmpty && k.credits[v] != 0

/-- VC1, VC2, VC3 as a position of the round robin: 1, 2, 3. -/
def vcOf (n : Nat) : Fin 3 := ⟨(n + 2) % 3, Nat.mod_lt _ (by decide)⟩

/-- The next position after `n` that has something to send, and whether one was found. -/
def Port.nextVc (k : Port) : (fuel n : Nat) → Option Nat
  | 0, _ => none
  | fuel + 1, n =>
    let m := n % 3 + 1
    if k.vcReady (vcOf m) then some m else k.nextVc fuel m

/-- Deficit round robin: the flit to send in an available slot (R345). -/
def Port.drr (k : Port) : Option (Flit × Port) :=
  let pick : Option (Nat × Nat) :=
    if k.drrLeft ≠ 0 ∧ k.vcReady (vcOf k.drrP) then some (k.drrP, k.drrLeft)
    else (k.nextVc 3 k.drrP).map fun p => (p, k.weight (vcOf p))
  match pick with
  | none => none
  | some (p, left) =>
    let v := vcOf p
    match k.vcq[v] with
    | f :: r => some (f, { k with drrP := p, drrLeft := left - 1, vcq := k.vcq.set v r, credits := k.credits.set v (k.credits[v] - 1) })
    | [] => none

/-- Header bits [63:0] of a flit (R330). -/
def Flit.header (f : Flit) : Nat :=
  f.vc.toNat + 4 * f.mc.toNat + 8 * f.last.toNat + 2 ^ 4 * f.src.toNat + 2 ^ 16 * f.dst.toNat + 2 ^ 28 * f.dcore.toNat +
  2 ^ 30 * f.bslot.toNat + 2 ^ 38 * f.fidx.toNat + 2 ^ 50 * f.part.toNat

/-- The 272 bytes of a flit on a link: the header with its HCRC, and the payload (R330). -/
def Flit.bytes (f : Flit) : List Byte :=
  let h := leBytes 8 (Flit.header f) ++ leBytes 2 f.path.toNat ++ leBytes 2 f.lseq.toNat ++ leBytes 2 f.eng.toNat
  h ++ leBytes 2 (crc16 h) ++ slice f.payload 0 256

/-- A flit takes the next LSEQ, and the last 2,048 are kept (R314, R330, R334). -/
def Port.sent (k : Port) (f : Flit) : Port :=
  let l := k.replay ++ [{ f with lseq := k.lseqTx }]
  { k with lseqTx := k.lseqTx + 1, replay := l.drop (l.length - 2048) }

/-- What a slot selects: a VC0 flit of its owner, or a VC1-VC3 flit (R339, R344, R345). -/
def State.slotFlit (s : State) (k : Port) : Option Flit × Port :=
  let ready := match s.slotOwner k with
    | none => none
    | some c =>
      match k.vc0[c] with
      | x :: r => if x.ready ≤ s.clock.cclk then some (c, x.flit, r) else none
      | [] => none
  match ready with
  | some (c, f, r) => (some { f with lseq := k.lseqTx }, { k with vc0 := k.vc0.set c r }.sent f)
  | none =>
    match k.drr with
    | some (f, k) => (some { f with lseq := k.lseqTx }, k.sent f)
    | none => (none, k)

/-- The current slot of a port: the selected flit leaves; while a replay is behind, it joins the flits to be resent, of which the line
carries one a tick and the surplus, 0.23 of a flit a tick, until it has caught up (R307, R334, R335). -/
def State.portSlot (s : State) (k : Port) : Port :=
  let (f, k) := s.slotFlit k
  match k.resend with
  | [] => { k with wire := k.wire ++ f.toList.map Flit.bytes }
  | late =>
    let late := late ++ f.toList
    let share := k.surplus + 23
    let n := if 100 ≤ share then 2 else 1
    { k with wire := k.wire ++ (late.take n).map Flit.bytes, resend := late.drop n,
             surplus := if (late.drop n).isEmpty then 0 else share % 100 }

/-- KIND, SUB and ARG of a control word as it leaves (R313, R316, R325). -/
def State.ctlFields (s : State) (k : Port) : Ctl → Nat × Nat × Nat
  | .train sub arg => (1, sub, arg)
  | .marker => (2, 0, s.wt48)
  | .echo arg got => (3, (s.weave.wt - got).toNat % 8, arg)
  | .timeLow => (4, 0, s.wt48)
  | .timeHigh => (4, 1, k.stampOut.toNat / 2 ^ 48 + 2 ^ 16 * s.get Page.weave WEAVE_STATUS_MASTER_PCN)

/-- The control word of a slot: an IDENT until the peer's has come, then what waits, else KIND NONE (R313, R316). -/
def State.portWord (s : State) (p : PortId) (k : Port) : Port :=
  if k.st = .train ∧ k.ident.isNone then { k with wire := [k.word 1 1 (s.identArg p)] }
  else
    match k.ctl with
    | [] => { k with wire := [k.word 0 0 0] }
    | w :: r =>
      let (kind, sub, arg) := s.ctlFields k w
      { k with ctl := r, wire := [k.word kind sub arg], stampOut := if w = .timeLow then s.weave.wt else k.stampOut }

/-- Whether a port sends control words: its lanes carry the FEC stream (R313, R683). -/
def State.wordsRun (s : State) (p : PortId) : Bool := s.laneOut p 0 == .fec

/-- SLOT_TRANSMIT: the current slot of a port, once a tick (R307, R338-R345); in every fourth one a control word leaves before the
flit. -/
def execSlotTransmit (p : PortId) (s : State) : Host.Outcome State Fault Refusal :=
  .next (s.onPort p fun k s =>
    if k.txAt = some s.weave.wt then s
    else
      let s := s.updPort p fun k => { k with txAt := some s.weave.wt, wire := [] }
      let s := if s.weave.wt.toNat % 4 = 0 ∧ s.wordsRun p then s.updPort p fun k => s.portWord p k else s
      let s := if k.st = .active && s.slotOpen k && !s.powerStopped then (s.updPort p fun k => s.portSlot k).flitsLeft else s
      s.settle p)

/-! Landing of VC0, R332, R333, R336; 04_contract.md R137, R138. -/

/-- A late VC0 flit: counted, and logged once for each replay (R336). -/
def State.lateFlit (s : State) (p : PortId) (late : Nat) : State :=
  if late = 0 then s
  else
    let s := (s.lkAdd p LINK_VC0_LATE_COUNT 1).lkSet p LINK_VC0_LATE_MAX_TICKS
      (max (s.lk p LINK_VC0_LATE_MAX_TICKS) (min late 65535))
    if (s.port p).lateRun then s
    else
      (s.updPort p fun k => { k with lateRun := true }).lkEvent p Ev.VC0_LATE
        (arg (s.lk p LINK_REPLAY_PENALTY_TICKS) ++ arg late)

/-- A VC0 flit that is discarded (R333). -/
def State.unclaimed (s : State) (p : PortId) (e : Ev) (f : Flit) : State :=
  (s.lkAdd p LINK_VC0_UNCLAIMED_COUNT 1).lkEvent p e (arg64 (Flit.header f))

/-- The RECV that a flit belongs to. -/
def Core.recvOf (k : Core) (p : PortId) (b : BitVec 8) : Option Recv := k.recvs.find? fun r => r.port == p && r.bslot == b

/-- A flit lands in a tile: in the mover staging buffer of a core whose CCLK run, else at once; with the buffer full the core
faults at its next bundle and the flit is lost (04_contract.md R137, R138). -/
def State.landFlit (s : State) (c : CoreId) (r : Recv) (f : Flit) : State :=
  let k := s.core c
  let o := 256 * f.fidx.toNat
  let a := r.base + o / r.rowBytes * r.stride + o % r.rowBytes
  let last := if f.last then some r.bslot else none
  let s := if f.last then s.updCore c fun k => { k with recvs := k.recvs.filter fun x => !(x == r) } else s
  let data := slice f.payload 0 256
  if k.st = .running ∨ k.st = .waiting then
    if k.staging.length < 64 then s.updCore c fun k => { k with staging := k.staging ++ [⟨a, data, last⟩] }
    else s.updCore c fun k => { k with overrun := true }
  else
    let s := s.writeMem (.cmem c) a data
    match last with
    | some b => s.tagEnd c b .ok
    | none => s

/-- The receiver's link layer takes a flit: after a failure it discards every one until the one that its NAK asks for; one that it
accepts is acknowledged, and one of VC1-VC3 is freed as its engine takes it (R314, R315; log 114), unless Mangle withholds VC1
credit on the port (10_mangle.md R384; log 61). -/
def State.acceptFlit (s : State) (p : PortId) (f : Flit) : Option State :=
  let k := s.port p
  let withheld := f.vc = 1 ∧ s.flag Page.mangle MANGLE_EARLY_STALLED ∧ (k.owed ≠ 0 ∨ f.eng.getLsbD 15)
  if k.nakOut ∧ f.lseq ≠ k.ackRx + 1 then none
  else some (s.updPort p fun k =>
    { k with ackRx := f.lseq, nakOut := false,
             owed := if withheld then k.owed + 1 else k.owed,
             freed := if f.vc = 0 ∨ withheld then k.freed
               else k.freed.set (vcOf f.vc.toNat) (k.freed[vcOf f.vc.toNat] + 1) })

/-- A VC0 flit goes to the RECV that it belongs to, or is discarded (R332, R333). -/
def State.deliverVc0 (s : State) (p : PortId) (f : Flit) : State :=
  let c := coreOf f.dcore.toNat
  if s.partOf c ≠ some f.part.toNat then s.unclaimed p Ev.VC0_FOREIGN f
  else
    match (s.core c).recvOf p f.bslot with
    | none => s.unclaimed p Ev.VC0_UNCLAIMED f
    | some r =>
      if r.rows * r.rowBytes < 256 * f.fidx.toNat + 256 then s.unclaimed p Ev.VC0_UNCLAIMED f else s.landFlit c r f

/-- VC0_FLIT_ARRIVAL: a flit of the sender's slot `slot` comes to an ACTIVE port. It is delivered at WT = slot + L_pin, to which time
passes while the elastic buffer holds it, or later after a replay; a flit of VC1-VC3 goes on to its engine by the engine's own row
(R314, R326, R328, R332, R333, R336; log 114). -/
def execVc0FlitArrival (p : PortId) (f : Flit) (slot : Dword) (s : State) : Host.Outcome State Fault Refusal :=
  let due := slot + BitVec.ofNat 64 (s.lk p LINK_LAT_PIN)
  let early := (due - s.weave.wt).toNat
  .next (s.onPort p fun k s =>
    if k.st = .active ∧ (early ≤ 255 ∨ 2 ^ 63 ≤ early) then
      let s := if early ≤ 255 then s.passTicks early else s
      match s.acceptFlit p f with
      | none => s
      | some s => if f.vc = 0 then (s.lateFlit p (s.weave.wt - due).toNat).deliverVc0 p f else s
    else s)

/-! COMMIT of LINK_CTRL, R352. -/

/-- The checks of a COMMIT of LANES and PRESET. -/
def State.linkCheck (s : State) (p : PortId) (lanes preset : Nat) : Status :=
  if lanes = 3 ∨ (15 < preset ∧ preset ≠ 0xFF) ∨ (lanes ≠ 0 ∧ (s.port p).table.any fun e => e.getLsbD 0) then .mismatch
  else .ok

/-- What a write of LINK_CTRL does: ENABLE cleared takes the port DOWN, RETRAIN restarts it (R308). -/
def State.linkCtrlWritten (s : State) (p : PortId) (retrain : Bool) : State :=
  if s.flag (Page.link p.1) LINK_CTRL_ENABLE = false then s.linkDown p
  else if retrain then s.restartLink p kSw
  else s

end Sys2Proof.Machine
end

