-- ==== Sys2Proof/Machine/Weave.lean ====
section
/-!
DEFINITION. Table loads of the weave (09_weave.md R338, R341, R343, R346, R353, R354).
-/
namespace Sys2Proof.Machine

open Reg

/-- A table load as its registers name it (R353). -/
structure WLoad where
  path  : Bool
  port  : Nat
  base  : Nat
  len   : Nat
  epoch : Nat
  deriving DecidableEq, Repr

/-- Bytes of a table: 1 for a slot entry, 8 for a path entry (R338, R346). -/
def WLoad.size (w : WLoad) : Nat := if w.path then 8 * w.len else w.len

/-- Whether a number is a power of two of at most 4,096. -/
def slotLen (n : Nat) : Bool := (List.range 13).any fun i => n == 2 ^ i

/-- The checks of a COMMIT of the load group (R353). -/
def State.weaveCheck (s : State) (w : WLoad) : Status :=
  if (w.path = false ∧ (11 < w.port ∨ slotLen w.len = false)) ∨ (w.path = true ∧ w.len ≠ 1024) ∨ w.base % 4096 ≠ 0 then
    .mismatch
  else if dramGeneral < w.base + w.size then .param
  else if s.weave.loading.isSome ∨ s.weave.armed.isSome then .busy
  else .ok

/-- An accepted load starts. -/
def State.weaveStart (s : State) (w : WLoad) : State :=
  (s.updWeave fun x => { x with loading := some ⟨w.path, w.port, w.epoch⟩ }).set Page.weave WEAVE_LOAD_STATUS_BUSY 1

/-- The checks of a slot table that was read (R343, R353). -/
def State.slotTableCheck (s : State) (port : PortId) (l : List Byte) : Status :=
  let vc0 := (l.filter fun e => e.getLsbD 0).length
  if l.any (fun e => decide (7 < e.toNat)) then .param
  else if vc0 ≠ 0 ∧ s.lk port LINK_CTRL_LANES ≠ 0 then .mismatch
  else if 4096 < vc0 * (4096 / l.length) + 256 then .noSpace
  else .ok

/-- Whether a path entry may be loaded: no reserved bit, and for a VALID one EGRESS at most 11 and LAT at most 512 (R346,
R353). -/
def pathLegal (x : Nat) : Bool :=
  bits x 31 18 == 0 && bits x 63 52 == 0 && (!pathValid x || (decide (pathEgress x ≤ 11) && decide (bits x 47 32 ≤ 512)))

/-- TABLE_LOAD_DONE: the load has read its table, which is armed or discarded with a status (R353, R354), ECC_FATAL when DRAM
answered so (05_buffers.md R174; 06_tiers.md R195, R196). -/
def execTableLoadDone (link : LinkRead) (s : State) : Host.Outcome State Fault Refusal :=
  .next (match s.weave.loading with
    | none => s
    | some a =>
      let len := s.get Page.weave WEAVE_LOAD_LEN_LEN
      let base := s.pair Page.weave 0 WEAVE_LOAD_BASE_LO_BASE WEAVE_LOAD_BASE_HI_BASE
      let (bs, bad, s) := s.readDramOver link base (if a.path then 8 * len else len)
      let entries := (List.range len).map fun i => field bs (8 * i) 8
      let port : PortId := (portOf? a.port).getD 0
      let st := if bad then .eccFatal else if a.path then (if entries.all pathLegal then Status.ok else .param) else s.slotTableCheck port bs
      let st := if st = .ok ∧ a.epoch ≠ 0 ∧ a.epoch ≤ s.epochNo then .timeout else st
      let s := s.updWeave fun w => { w with loading := none }
      let s := (s.set Page.weave WEAVE_LOAD_STATUS_BUSY 0).setStatus Page.weave WEAVE_LOAD_STATUS_STATUS st
      if st = .ok then
        let a := { a with epoch := if a.epoch = 0 then s.epochNo + 1 else a.epoch }
        let s := if a.path then s.updWeave fun w =>
            { w with shadow := (List.range len).map fun i => (i, BitVec.ofNat 64 (entries.getD i 0)) }
          else s.updPort port fun k => { k with shadow := bs }
        (s.updWeave fun w => { w with armed := some a }).set Page.weave WEAVE_LOAD_STATUS_ARMED 1
      else s.raise Page.weave Ev.TABLE_LOAD_FAIL byBlock (arg st.code))

/-- At the first slot of its epoch an armed table becomes active (R341, R354). -/
def State.swapTables (s : State) : State :=
  match s.weave.armed with
  | none => s
  | some a =>
    if s.epochNo < a.epoch then s
    else
      let s := if a.path then
          let s := eachOf s.weave.shadow (fun e s =>
            (s.setI Page.weave e.1 WEAVE_PATH_LO_ENTRY (e.2.toNat % 2 ^ 32)).setI Page.weave e.1 WEAVE_PATH_HI_ENTRY
              (e.2.toNat / 2 ^ 32)) s
          s.updWeave fun w => { w with shadow := [] }
        else s.updPort ((portOf? a.port).getD 0) fun k => { k with table := k.shadow, shadow := k.table }
      let s := (s.updWeave fun w => { w with armed := none }).set Page.weave WEAVE_LOAD_STATUS_ARMED 0
      s.raise Page.weave Ev.TABLE_SWAP byBlock (arg (a.path.toNat + 16 * a.port) ++ arg64 a.epoch)

end Sys2Proof.Machine
end

