-- ==== Sys2Proof/Machine/Power.lean ====
section
/-!
DEFINITION. Clocks, gears, voltage, power, temperature and the power-fail sequence (15_clocks_power.md).
-/
namespace Sys2Proof.Machine

open Reg

/-! Limits, R543. -/

def State.calValid (s : State) : Bool := s.flag Page.chip CHIP_STATUS_CAL_VALID

/-- The calibration limit: G2 while CAL_VALID is clear. -/
def State.calGear (s : State) : Nat := if s.calValid then 0 else 2

def State.capGear (s : State) : Nat := s.get Page.pwr PWR_CAP_IN_FORCE_CAP_GEAR

/-- Whether every sensor of some core is excluded (R562). -/
def blindCore (excluded : Nat) : Bool := [0, 1, 2, 3].any fun n => bits excluded (3 * n + 2) (3 * n) == 7

/-- The thermal limit (R562, R563). -/
def State.thermalGear (s : State) : Nat :=
  if blindCore (s.get Page.therm THERM_STATE_EXCLUDED) then 4 else s.clock.thGear

/-- The effective gear that the limits ask for with a requested gear: the slowest of them (R543). -/
def State.wantGear (s : State) (req : Nat) : Nat :=
  max req (max s.capGear (max s.thermalGear (max s.calGear s.clock.voltGear)))

/-- CLK_STATUS.LIMITS: the limits that are slower than the requested gear (R543). -/
def State.limits (s : State) : Nat :=
  let r := s.clock.reqGear
  let b (i g : Nat) : Nat := if r < g then 2 ^ i else 0
  b 1 s.capGear + b 2 s.thermalGear + b 3 s.calGear + b 4 s.clock.voltGear

def State.gear (s : State) : Nat := s.get Page.clk CLK_STATUS_GEAR

/-- THERM_STATE shows the thermal gear; THROTTLING is a level of its page (R572; 14_pages.md R513). -/
def State.showThermal (s : State) : State :=
  let g := s.thermalGear
  let s := (s.set Page.therm THERM_STATE_TGEAR g).set Page.therm THERM_STATE_THROTTLING (if g = 0 then 0 else 1)
  if g = 0 then s else s.latch Page.therm 8

/-- Throttle and release in quarters of a degree (R563). -/
def State.throttleAt (s : State) : Int := if s.calValid then 380 else 340
def State.releaseAt (s : State) : Int := if s.calValid then 360 else 320

/-! Gear commands, R546-R550. -/

/-- WT's offset in its epoch. -/
def State.epochOffset (s : State) : Nat := s.weave.wt.toNat % epochTicks

/-- The offset at which a boundary's gear is decided (R547, R552). -/
abbrev decideOffset : Nat := 130880

/-- The first boundary that a change can still meet (R547). -/
def State.nextMeet (s : State) : Nat :=
  if s.epochOffset ≤ decideOffset ∧ s.clock.decided ≤ s.epochNo then s.epochNo + 1 else s.epochNo + 2

/-- A gear command: it replaces the pending one, and is late when it cannot meet its epoch (R546, R547). -/
def State.gearCommand (s : State) (g e : Nat) : State :=
  let m := s.nextMeet
  let s := if e < m then s.raise Page.clk Ev.GEAR_LATE else s
  let s := (s.set Page.clk CLK_GEAR_PEND_GEAR g).set Page.clk CLK_GEAR_PEND_VALID 1
  s.updClock fun c => { c with pendE := max e m, pendLogged := false }

def State.gearPending (s : State) : Bool := s.flag Page.clk CLK_GEAR_PEND_VALID

/-! The power cap, R558-R560. -/

/-- F of a gear, R558. -/
def gearF (g : Nat) : Nat := [256, 189, 138, 94, 60].getD g 60

/-- The cap is in force (R559, R573). -/
def State.capInForce (s : State) (cap : Nat) : State :=
  (s.set Page.pwr PWR_CAP_IN_FORCE_CAP cap).raise Page.pwr Ev.CAP_IN_FORCE byBlock (arg cap)

/-- The power of the last epoch, 0.1 W. -/
def State.lastPower (s : State) : Nat := s.get Page.pwr PWR_MEAS_DECIW

/-- A new cap is committed: an increase, or a cap that the last epoch's power meets, is in force at once; else the cap gear has
a target (R559). -/
def State.capCommand (s : State) (old cap : Nat) : State :=
  let p := s.lastPower
  if old ≤ cap ∨ p ≤ 10 * cap then
    (s.updClock fun c => { c with capDec := none, capForce := none }).capInForce cap
  else
    let fits (g : Nat) : Bool := decide (p * gearF g ≤ 10 * cap * gearF s.clock.runGear)
    let target := ((List.range 5).find? fits).getD 4
    s.updClock fun c => { c with capDec := some (target, s.nextMeet), capForce := none }

/-- GEAR: a received GEAR flit acts as a COMMIT of the CLK_GEAR group, of PWR_CAP with a nonzero CAP, and is relayed (R549,
R550). -/
def execGear (part : BitVec 12) (payload : List Byte) (s : State) : Host.Outcome State Fault Refusal :=
  let g := field payload 0 1
  let relay := (payload.getD 1 0).getLsbD 0
  let cap := field payload 2 1
  let e := field payload 8 8
  let store (s : State) : State :=
    ((s.set Page.clk CLK_GEAR_GEAR g).set Page.clk CLK_GEAR_E_LO_E (e % 2 ^ 32)).set Page.clk CLK_GEAR_E_HI_E (e / 2 ^ 32)
  let copy (n : Nat) (s : State) : State :=
    let dst := s.get Page.clk (CLK_RELAY_PCN.nth n)
    if s.flag Page.clk (CLK_RELAY_VALID.nth n) then
      if (s.route dst false).isNone then (s.add Page.clk CLK_RELAY_FAIL_COUNT 1).raise Page.clk Ev.RELAY_FAIL
      else
        let fwd := BitVec.ofNat 8 (s.get Page.clk (CLK_RELAY_FWD.nth n))
        (s.sendEng vc3 false dst 0 (engWord .gear 0 0) [payload.set 1 fwd]).getD s
    else s
  .next (if s.inReset Page.clk ∨ part ≠ 0 then s
    else if 4 < g ∨ (cap ≠ 0 ∧ (cap < 60 ∨ 150 < cap)) then s.raise Page.clk Ev.GEAR_BAD
    else
      let early := decide (s.epochNo < e)
      let s := (store s).gearCommand g e
      let s := if cap = 0 then s
        else
          let old := s.get Page.pwr PWR_CAP_CAP
          (s.set Page.pwr PWR_CAP_CAP cap).capCommand old cap
      if relay && early && !s.clock.relayed.contains (g, e) then
        eachOf (List.range 16) copy (s.updClock fun c => { c with relayed := c.relayed ++ [(g, e)] })
      else s)

/-! Carrying out a change, R544, R551-R553. -/

/-- A frame of 200 root cycles in 84ths of a tick (R540). -/
def frame84 (g : Nat) : Nat := [525, 600, 700, 840, 1050].getD g 1050

/-- The first frame boundary of a grid at or after a time, both in 84ths of a tick. -/
def nextFrame (anchor84 : Int) (frame : Nat) (t : Nat) : Nat :=
  let d := (t : Int) - anchor84
  (anchor84 + ((d + (frame : Int) - 1) / frame) * frame).toNat

/-- Scheduled limits take effect for the boundary that is decided (R544, R556, R559, R563). -/
def State.takeLimits (s : State) (n : Nat) : State :=
  let s := match s.clock.capNext with
    | some g => s.set Page.pwr PWR_CAP_IN_FORCE_CAP_GEAR g
    | none => s
  let s := match s.clock.capDec with
    | some (g, b) =>
      if b ≤ n then
        (s.set Page.pwr PWR_CAP_IN_FORCE_CAP_GEAR (max s.capGear g)).updClock fun c =>
          { c with capDec := none, capForce := some g }
      else s
    | none => s
  let s := match s.clock.thNext with
    | some 0 => if s.clock.thGear = 0 then s else s.raise Page.therm Ev.THROTTLE_END
    | _ => s
  (s.updClock fun c =>
    { c with capNext := none, thNext := none, voltNext := none, thGear := c.thNext.getD c.thGear,
             voltGear := c.voltNext.getD c.voltGear, decided := n }).showThermal

/-- The clocks stop for a change of gear, at the first frame boundary of the running grid (R552). -/
def State.pauseClocks (s : State) (g : Nat) : State :=
  let t := nextFrame (84 * s.clock.anchor) (frame84 s.gear) (84 * s.weave.wt.toNat)
  let s := s.passTicks (t / 84 - s.weave.wt.toNat)
  (s.updClock fun c => { c with paused := true, nextGear := g, pausedAt := t }).set Page.clk CLK_STATUS_LOCKED 0

/-- GEAR_PAUSE: at offset 130,880 the gear of the next boundary is decided; a faster one waits for its voltages (R544, R551,
R552; log 120). -/
def execGearPause (voltReady : Bool) (s : State) : Host.Outcome State Fault Refusal :=
  let n := s.epochNo + 1
  .next (if s.inReset Page.clk ∨ s.clock.paused ∨ n ≤ s.clock.decided then s
    else
      let s := (s.passTicks (decideOffset - s.epochOffset)).takeLimits n
      let use := s.gearPending && decide (s.clock.pendE ≤ n)
      let req := if use then s.get Page.clk CLK_GEAR_PEND_GEAR else s.clock.reqGear
      let new := s.wantGear req
      if new < s.gear ∧ voltReady = false then
        let logged := if use then s.clock.pendLogged else s.clock.limLogged
        let s := if logged then s else s.raise Page.clk Ev.GEAR_REFUSED
        s.updClock fun c => if use then { c with pendLogged := true } else { c with limLogged := true }
      else
        let s := s.updClock fun c => { c with limLogged := false, reqGear := req }
        let s := if use then (s.set Page.clk CLK_GEAR_PEND_VALID 0).set Page.clk CLK_GEAR_PEND_GEAR 0 else s
        if new = s.gear then s else s.pauseClocks new)

/-- The clocks restart at the new gear on its first frame boundary at or after offset 131,008 at which the PLL is locked, the
grid being anchored at the epoch in which the pause falls (R552, R553). -/
def State.restartClocks (s : State) (lockOffset : Nat) : State :=
  let c := s.clock
  let start := c.pausedAt / 84 / epochTicks * epochTicks
  let g := c.nextGear
  let s := if 131008 < lockOffset then s.raise Page.clk Ev.PLL_LATE else s
  let t := nextFrame (84 * start) (frame84 g) (84 * (start + max 131008 lockOffset))
  let s := s.passTicks (t / 84 - s.weave.wt.toNat)
  let old := s.gear
  let s := s.updClock fun c =>
    { c with paused := false, anchor := start, pause84 := c.pause84 + (t - c.pausedAt) }
  let s := (s.set Page.clk CLK_PAUSE_TICKS_TICKS (min (s.clock.pause84 / 84) (2 ^ 32 - 1))).set Page.clk CLK_STATUS_GEAR g
  let s := (s.set Page.clk CLK_STATUS_LOCKED 1).add Page.clk CLK_CHANGES_COUNT 1
  s.raise Page.clk Ev.GEAR_CHANGE byBlock (arg old ++ arg g ++ arg s.limits)

/-! The end of an epoch: R556, R558-R560, R563. -/

/-- The cap loop at an epoch's end, with its power in 0.1 W. -/
def State.capLoop (s : State) (p : Nat) : State :=
  let s := s.set Page.pwr PWR_MEAS_DECIW (min p 4095)
  let p := s.lastPower
  let s := s.set Page.pwr PWR_PEAK_DECIW (max p (s.get Page.pwr PWR_PEAK_DECIW))
  let cap := 10 * s.get Page.pwr PWR_CAP_CAP
  let run := s.clock.runGear
  let n := if run = 4 then s.clock.overRun + 1 else 0
  let s := if p ≤ cap then
      (s.updClock fun c => { c with overRun := 0 }).set Page.pwr PWR_CAP_IN_FORCE_UNMET 0
    else
      let s := s.updClock fun c => { c with overRun := n }
      if 4 ≤ n ∧ s.flag Page.pwr PWR_CAP_IN_FORCE_UNMET = false then
        (s.set Page.pwr PWR_CAP_IN_FORCE_UNMET 1).raise Page.pwr Ev.CAP_UNMET
      else s
  let g := s.capGear
  let next :=
    if cap < p then some (min 4 (g + 1))
    else if 0 < g ∧ p * gearF (g - 1) + 50 * gearF run ≤ cap * gearF run then some (g - 1)
    else none
  let s := s.updClock fun c => { c with capNext := next }
  match s.clock.capForce with
  | some g =>
    if g ≤ s.gear then (s.updClock fun c => { c with capForce := none }).capInForce (s.get Page.pwr PWR_CAP_CAP) else s
  | none => s

/-- A reading of 11 bits, two's complement. -/
def signed11 (x : Nat) : Int := (BitVec.ofNat 11 x).toInt
def code11 (x : Int) : Nat := (x % 2048).toNat

/-- The working sensors (R561, R562). -/
def workingSensors (excluded : Nat) : List Nat := (List.range 24).filter fun i => !excluded.testBit i

/-- The thermal loop at an epoch's end (R563). -/
def State.thermalLoop (s : State) : State :=
  if (workingSensors (s.get Page.therm THERM_STATE_EXCLUDED)).isEmpty then s
  else
    let j := signed11 (s.get Page.therm THERM_MAX_TEMP)
    let g := s.clock.thGear
    if s.throttleAt ≤ j then
      let s := if g = 0 then s.raise Page.therm Ev.THROTTLE else s
      s.updClock fun c => { c with thNext := some (min 4 (g + 1)), coolRun := 0 }
    else if j < s.releaseAt then
      let n := s.clock.coolRun + 1
      if 8 ≤ n ∧ 0 < g then s.updClock fun c => { c with thNext := some (g - 1), coolRun := 0 }
      else s.updClock fun c => { c with coolRun := n }
    else s.updClock fun c => { c with coolRun := 0 }

/-- A core's voltage in 5 mV steps, as PWR_AVS shows it. -/
def State.coreVolt (s : State) (c : CoreId) : Nat := bits (s.get Page.pwr PWR_AVS_VOLT) (8 * c.1 + 7) (8 * c.1)

/-- The voltage limit moves one gear faster after 1 s with every core below 0.85 V (R556). -/
def State.voltLoop (s : State) : State :=
  if s.clock.voltGear ≠ 0 ∧ allCores.all fun c => decide (s.coreVolt c < 170) then
    let n := s.clock.voltRun + epochTicks
    if 1000 * ticksPerMs ≤ n then
      s.updClock fun c => { c with voltNext := some (c.voltGear - 1), voltRun := 0 }
    else s.updClock fun c => { c with voltRun := n }
  else s.updClock fun c => { c with voltRun := 0 }

/-- What the CLK, PWR and THERM blocks do at an epoch boundary. -/
def State.powerBoundary (s : State) (p : Nat) : State :=
  let s := ((s.capLoop p).thermalLoop).voltLoop
  s.updClock fun c => { c with runGear := s.gear }

/-! AVS and droop, R555-R557. -/

/-- AVS_STEP: one step of 5 mV, within 0.55 to 0.85 V (R555; log 120). -/
def execAvsStep (core : CoreId) (up : Bool) (s : State) : Host.Outcome State Fault Refusal :=
  let v := s.get Page.pwr PWR_AVS_VOLT
  let old := s.coreVolt core
  let new := if up then min 170 (old + 1) else max 110 (old - 1)
  .next (if s.inReset Page.pwr then s
    else s.set Page.pwr PWR_AVS_VOLT (v - old * 2 ^ (8 * core.1) + new * 2 ^ (8 * core.1)))

/-- AVS_LIMIT: a core has been at 0.85 V with its margin short for 1 ms (R556). -/
def execAvsLimit (core : CoreId) (s : State) : Host.Outcome State Fault Refusal :=
  .next (if s.inReset Page.pwr ∨ s.coreVolt core ≠ 170 then s
    else
      (s.updClock fun c => { c with voltNext := some (min 4 (c.voltGear + 1)), voltRun := 0 }).raise Page.pwr Ev.AVS_LIMIT
        byBlock (arg core.1))

/-- DROOP: a detector trips, and the stretch begins (R557). -/
def execDroop (s : State) : Host.Outcome State Fault Refusal :=
  .next (if s.inReset Page.pwr ∨ s.clock.stretched ∨ s.clock.paused then s
    else
      (s.updClock fun c => { c with stretched := true }).add Page.pwr PWR_STRETCH_CNT_COUNT 1)

/-- STRETCH_END: the stretch ends after `cycles` root cycles, at least 64, four of them to a CCLK; each took 1.25 periods, and
the added time counts in 1/64 tick (R540, R557; 04_contract.md R152, R153). -/
def execStretchEnd (cycles : Nat) (s : State) : Host.Outcome State Fault Refusal :=
  let n := max 64 cycles
  let t := 16 * n / (32 - 4 * s.gear)
  .next (if s.clock.stretched then
      let s := (s.updClock fun c => { c with stretched := false }).add Page.pwr PWR_STRETCH_TIME_TIME t
      eachOf allCores (fun c s =>
        (s.add (Page.core c.1) CORE_STRETCH_CNT_COUNT (n / 4)).add (Page.core c.1) CORE_STRETCH_TIME_TIME t) s
    else s)

/-! The power-fail sequence, R566-R569. -/

/-- Issue stops on every core; what is in flight lands (R564, R567). -/
def State.stopIssue (s : State) : State :=
  eachOf allCores (fun c s =>
    let st := (s.core c).st
    if st = .running ∨ st = .waiting then s.stopCore c .stopped else s) s

/-- A firmware swap in progress is abandoned and the previous image resumes (R567; 16_reset.md R595, R596). -/
def State.abandonSwap (s : State) : State :=
  if s.tier.swapping then s.endSwap.raise Page.chip Ev.SWAP_REVERT else s

/-- Step 1 of the sequence; a pending gear command is discarded (R567, R569). -/
def State.beginPowerFail (s : State) : State :=
  let s := (s.raise Page.pwr Ev.POWER_FAIL).set Page.pwr PWR_FAIL_STEP 1
  let s := (s.set Page.clk CLK_GEAR_PEND_VALID 0).set Page.clk CLK_GEAR_PEND_GEAR 0
  s.stopIssue.abandonSwap

/-- An accepted PWRFAIL_N, a low rail or a thermal trip starts the sequence, at the end of a gear pause; a running one is not
restarted (R566, R569). -/
def State.powerFail (s : State) : State :=
  if s.get Page.pwr PWR_FAIL_STEP ≠ 0 ∨ s.clock.failQueued then s
  else if s.clock.paused then s.updClock fun c => { c with failQueued := true }
  else s.beginPowerFail

/-- PWRFAIL: PWRFAIL_N has been low for 20 us (R566). -/
def execPwrfail (s : State) : Host.Outcome State Fault Refusal :=
  .next (if s.resets.cold then s else (({ s with pins := { s.pins with pwrfailLow := true } } : State)).powerFail)

/-- RAIL_LOW: VDD_SOC or VDDIO below its minimum for 10 us acts as an accepted PWRFAIL_N (19_signals.md R671). -/
def execRailLow (s : State) : Host.Outcome State Fault Refusal := .next (if s.resets.cold then s else s.powerFail)

/-- PWRFAIL_N_RETURN: PWRFAIL_N is high again before power is lost (R568). -/
def execPwrfailNReturn (s : State) : Host.Outcome State Fault Refusal :=
  let was := s.pins.pwrfailLow
  let s : State := { s with pins := { s.pins with pwrfailLow := false } }
  .next (if was ∧ s.get Page.pwr PWR_FAIL_STEP ≠ 0 then
      let first := !s.flag Page.pwr PWR_FAIL_RETURNED
      let s := s.set Page.pwr PWR_FAIL_RETURNED 1
      if first then s.set Page.pwr PWR_FAIL_LAST_STEP (s.get Page.pwr PWR_FAIL_STEP) else s
    else s)

/-! Temperature, R561-R564. -/

/-- THERMAL_SAMPLE: the 24 readings in quarters of a degree, and which sensors fail their trim check (R561, R562, R564,
R572). -/
def execThermalSample (readings : List Int) (trimBad : List Bool) (s : State) : Host.Outcome State Fault Refusal :=
  let r (i : Nat) : Int := readings.getD i 0
  let bad (i : Nat) : Bool := decide (r i < -160) || decide (600 < r i) || trimBad.getD i false
  let mask := ((List.range 24).map fun i => if bad i then 2 ^ i else 0).sum
  let old := s.get Page.therm THERM_STATE_EXCLUDED
  let work := workingSensors mask
  let hot := work.foldl (fun m i => if r m < r i then i else m) (work.headD 0)
  let clip (x : Int) : Nat := code11 (max (-1024) (min 1023 x))
  .next (if s.inReset Page.therm then s
    else
      let s := eachOf (List.range 24) (fun i s =>
        let s := s.set Page.therm (THERM_SENS_TEMP.nth i) (clip (r i))
        if bad i && !old.testBit i then s.raise Page.therm Ev.SENSOR_FAULT else s) s
      let s := s.set Page.therm THERM_STATE_EXCLUDED mask
      let s := if work.isEmpty then s
        else
          let s := (s.set Page.therm THERM_MAX_TEMP (clip (r hot))).set Page.therm THERM_MAX_SENSOR hot
          let peak := signed11 (s.get Page.therm THERM_PEAK_TEMP)
          s.set Page.therm THERM_PEAK_TEMP (clip (max peak (r hot)))
      let s := s.showThermal
      if !s.pins.thermtrip && work.any (fun i => decide (420 ≤ r i)) then
        let s : State := { s.stopIssue with pins := { s.pins with thermtrip := true } }
        (s.raise Page.therm Ev.THERMTRIP).powerFail
      else s)

/-! The reference, R542. -/

/-- A change of reference source. -/
def State.refSourceChanged (s : State) : State := (s.raise Page.clk Ev.REF_CHANGE).refChanged

/-- REFCLK_LOSS: the reference is absent for more than 1 us, and the PLL holds (R542). -/
def execRefclkLoss (s : State) : Host.Outcome State Fault Refusal :=
  .next (if s.resets.cold ∨ s.pins.refclk = false then s
    else
      let s : State := { s with pins := { s.pins with refclk := false } }
      (s.set Page.clk CLK_STATUS_REF_HOLD 1).refSourceChanged)

/-- REFCLK_RETURN: the hold ends, which is again a change of source (R542). -/
def execRefclkReturn (s : State) : Host.Outcome State Fault Refusal :=
  .next (if s.resets.cold ∨ s.pins.refclk then s
    else
      let s : State := { s with pins := { s.pins with refclk := true } }
      (s.set Page.clk CLK_STATUS_REF_HOLD 0).refSourceChanged)

/-! COMMIT of the CLK and PWR groups, R570, R571. -/

def gearCheck (g : Nat) : Status := if 4 < g then .param else .ok
def capCheck (cap : Nat) : Status := if cap < 60 ∨ 150 < cap then .param else .ok

end Sys2Proof.Machine
end

