-- ==== Sys2Proof/Machine/OnChip.lean ====
section
/-!
DEFINITION. The XMEM cache's switching, scrub, darning, map-outs and self-tests (05_buffers.md R162-R190), and the repair
page (18_access.md R653, R654).
-/
namespace Sys2Proof.Machine

open Reg

/-! Segments that change hands. -/

/-- Zero-fill a segment: its bytes and its uncorrectable words (R169; 13_partitions.md R473). -/
def State.zeroSeg (s : State) (seg : Nat) : State :=
  let a := seg * segBytes
  ({ s with xmem := s.xmem.erase a segBytes } : State).updEcc fun e =>
    { e with upset := e.upset.filter fun x => !(x.1 == .xmem && decide (a ≤ x.2) && decide (x.2 < a + segBytes)) }

/-- The segments of a cache region. -/
def regionSegs (steps base : Nat) : List Nat := (List.range (16 * steps)).map (base + ·)

/-! The cache, R168-R171. -/

/-- The checks of an XCACHE COMMIT (R168). -/
def State.xcacheCheck (s : State) (steps base : Nat) : Status :=
  let segs := regionSegs steps base
  if 4 < steps ∨ base % 16 ≠ 0 ∨ 128 < base + 16 * steps then .mismatch
  else if s.cacheState = 1 ∨ s.cacheState = 3 then .busy
  else if segs.any (fun g => s.segState g == 1) then .busy
  else if segs.any (fun g => s.segState g == 3) then .noSpace
  else .ok

/-- The cache's state changes, which is logged (R191). -/
def State.setCache (s : State) (st : Nat) : State := (s.set Page.xcache XCACHE_STATE_STATE st).raise Page.xcache Ev.CACHE_STATE

/-- After any drain the live region is initialised, or the cache is off (R169). -/
def State.cacheNext (s : State) : State :=
  if s.get Page.xcache XCACHE_CFG_STEPS = 0 then (if s.cacheState = 0 then s else s.setCache 0) else s.setCache 1

/-- An accepted XCACHE COMMIT; the live registers hold the new region, `steps` and `base` the old one (R169). -/
def State.xcacheApply (s : State) (steps base : Nat) : State :=
  let s := eachOf (regionSegs (s.get Page.xcache XCACHE_CFG_STEPS) (s.get Page.xcache XCACHE_CFG_BASE))
    (fun g s => s.setSeg g 2 0) s
  if s.cacheState = 2 then ({ s with xcache := ⟨steps, base⟩ } : State).setCache 3 else s.cacheNext

/-- Every valid way of a region, from the tag entries that memory lists: its place and way. -/
def State.validWays (s : State) (steps base : Nat) : List (Place × Nat) :=
  let cells := s.xmem.filter fun c =>
    decide (base * segBytes ≤ c.1) && decide (c.1 < (base + 16 * steps) * segBytes) && decide (0xFC0000 ≤ c.1 % segBytes)
  let entries := cells.foldl (fun l c => insertNat l (c.1 / 4)) []
  (entries.map fun x =>
    let a := 4 * x
    let o := a % segBytes - 0xFC0000
    (⟨a / segBytes, o / 64, 0⟩, o % 64 / 4)).filter fun p => tagValid (s.tagEntry p.1 p.2)

/-- The uncorrectable tag words of a region, each as the place of its set. -/
def State.lostSets (s : State) (steps base : Nat) : List Place :=
  let tags (seg : Nat) : List Nat := s.uesIn .xmem (seg * segBytes + 0xFC0000) 0x40000
  (regionSegs steps base).flatMap fun seg => (tags seg).map fun a => ⟨seg, (a % segBytes - 0xFC0000) / 64, 0⟩

/-- Write back every dirty line of a region and invalidate every line; a set whose tags are lost gives up their ways first
(R169, R174). -/
def State.drainRegion (s : State) (steps base : Nat) : State :=
  let s := eachOf (s.lostSets steps base) (fun p s => s.checkTags p (p.j * (16 * steps) + (p.seg - base))) s
  eachOf (s.validWays steps base) (fun p s => (s.writeBack steps base p.1 p.2).dropWay p.1 p.2) s

/-- XCACHE_DRAIN_DONE: the drain ends; segments that leave the region are zero-filled and FREE (R169). -/
def execXcacheDrainDone (s : State) : Host.Outcome State Fault Refusal :=
  .next (if s.cacheState = 3 then
      let new := regionSegs (s.get Page.xcache XCACHE_CFG_STEPS) (s.get Page.xcache XCACHE_CFG_BASE)
      let s := s.drainRegion s.xcache.oldSteps s.xcache.oldBase
      let left := (regionSegs s.xcache.oldSteps s.xcache.oldBase).filter fun g => !new.contains g
      let s := eachOf left (fun g s => (s.zeroSeg g).setSeg g 0 0) s
      s.cacheNext
    else s)

/-- XCACHE_INIT_DONE: every tag entry of the region is invalid, and the cache is ON (R169). -/
def execXcacheInitDone (s : State) : Host.Outcome State Fault Refusal :=
  .next (if s.cacheState = 1 then
      let segs := regionSegs (s.get Page.xcache XCACHE_CFG_STEPS) (s.get Page.xcache XCACHE_CFG_BASE)
      let s := eachOf segs (fun g s =>
        let a := g * segBytes + 0xFC0000
        ({ s with xmem := s.xmem.erase a 0x40000 } : State).updEcc fun e =>
          { e with upset := e.upset.filter fun x => !(x.1 == .xmem && decide (a ≤ x.2) && decide (x.2 < a + 0x40000)) }) s
      s.setCache 2
    else s)

/-! Scrub, R175-R177, R180, R181. -/

/-- A watch entry's corrections of the last 24 hours (R180). -/
def Watch.count (w : Watch) (hour : Nat) : Nat := ((w.hours.filter fun h => decide (hour < h.1 + 24)).map (·.2)).sum

/-- One more correction of a row in an hour. -/
def Watch.bump (w : Watch) (hour : Nat) : Watch :=
  match w.hours with
  | (h, n) :: r => if h = hour then { w with hours := (h, n + 1) :: r } else { w with hours := (hour, 1) :: (h, n) :: r }
  | [] => { w with hours := [(hour, 1)] }

/-- The entry that a full watch table gives up: the lowest count, the oldest among equals (R181). -/
def watchVictim (hour : Nat) : List Watch → Option Watch
  | [] => none
  | w :: r => some (r.foldl (fun m x => if x.count hour < m.count hour then x else m) w)

/-- A correction on a row: the watch table counts it, and the row becomes a darn candidate at 8 in 24 h (R180, R181). The table
is the management core's. -/
def State.watchRow (s : State) (r : RowId) : State :=
  let hour := s.weave.wt.toNat / ticksPerHour
  if s.mgmtUp = false then s
  else
    let s :=
      if s.ecc.watch.any (fun w => w.row == r) then
        s.updEcc fun e => { e with watch := e.watch.map fun w => if w.row = r then w.bump hour else w }
      else
        let new : Watch := ⟨r, [(hour, 1)]⟩
        if s.ecc.watch.length < 512 then s.updEcc fun e => { e with watch := e.watch ++ [new] }
        else
          let out := watchVictim hour s.ecc.watch
          (s.updEcc fun e => { e with watch := (e.watch.filter fun w => some w != out) ++ [new] }).raise Page.xmem Ev.WATCH_FULL
    match s.ecc.watch.find? (fun w => w.row == r) with
    | some w => if 8 ≤ w.count hour then s.candidate r else s
    | none => s

/-- A correction: counted, logged, named by LAST_ERR, and its row watched (R176, R180, R188, R189). -/
def State.corrected (s : State) (m : MemId) (a : Nat) : State :=
  let s := s.add m.page (match m with | .xmem => XMEM_ECC_CE_COUNT | _ => CMEM_ECC_CE_COUNT) 1
  let s := (s.setLastErr m a false).raise m.page Ev.ECC_CE
  match rowOf m a with
  | some r => s.watchRow r
  | none => s

/-- The page of a scrub domain and its level fields. -/
def domainPage (d : Option CoreId) : Nat × Fld × Fld :=
  match d with
  | some c => (Page.cmem c.1, CMEM_SCRUB_CTRL_LEVEL, CMEM_SCRUB_CTRL_MIN_LEVEL)
  | none => (Page.xmem, XMEM_SCRUB_CTRL_LEVEL, XMEM_SCRUB_CTRL_MIN_LEVEL)

/-- The level of a domain after a pass with `n` corrections (R177). -/
def State.scrubLevel (s : State) (d : Option CoreId) (n : Nat) : State :=
  let (pg, lv, mn) := domainPage d
  let old := s.get pg lv
  let run := if n = 0 then (assocGet s.ecc.cleanRun d).getD 0 + 1 else 0
  let down := decide (3 ≤ run ∧ s.get pg mn < old)
  let new := if 4 ≤ n then min 3 (old + 1) else if down then old - 1 else old
  let s := s.updEcc fun e => { e with cleanRun := assocSet e.cleanRun d (if 3 ≤ run then 0 else run) }
  if new = old then s else (s.set pg lv new).raise pg Ev.SCRUB_LEVEL

/-- Whether a memory belongs to a scrub domain. -/
def inDomain (d : Option CoreId) (m : MemId) : Bool :=
  match d, m with
  | none, .xmem => true
  | some c, .cmem k | some c, .min k | some c, .acc k | some c, .vec k | some c, .stg k | some c, .imem k => c == k
  | _, _ => false

/-- Whether scrub reads a memory's word: not instruction memory of a RUNNING core, nor a bank mapped out (R175). -/
def State.scrubbed (s : State) (d : Option CoreId) (m : MemId) (a : Nat) : Bool :=
  inDomain d m &&
  match m with
  | .imem c => (s.core c).st != .running
  | _ =>
    match rowOf m a with
    | some r => r.core.isSome || !s.ecc.banksOut.contains r.bank
    | none => true

/-- The words that a pass finds, each once: those that State holds as uncorrectable, and what else its reads met (R175,
R682). -/
def State.scrubFinds (s : State) (d : Option CoreId) (met : List Finding) : List Finding :=
  let held := (s.ecc.upset.filter fun x => s.scrubbed d x.1 x.2).map fun x => ⟨x.1, x.2, true, false⟩
  (met.filter fun f => s.scrubbed d f.mem f.addr).foldl (fun l f =>
    let w := f.addr / f.mem.eccWord * f.mem.eccWord
    if l.any (fun x => x.mem == f.mem && x.addr == w) then l else l ++ [{ f with addr := w }]) held

/-- SCRUB_PASS: one pass over a domain with what its reads found. A corrected word is written back, unless a write to it came
between, which leaves its contents as they are either way, and counts once; an uncorrectable one is left as found (R174-R177,
R180, R682). -/
def execScrubPass (domain : Option CoreId) (found : List Finding) (s : State) : Host.Outcome State Fault Refusal :=
  let (pg, _, _) := domainPage domain
  let found := s.scrubFinds domain found
  .next (if s.inReset pg then s
    else
      let s := eachOf found (fun f s =>
        if f.ue then
          let s := if s.ecc.upset.contains (f.mem, f.addr) then s
            else s.updEcc fun e => { e with upset := e.upset ++ [(f.mem, f.addr)] }
          s.foundUe f.mem [f.addr]
        else s.corrected f.mem f.addr) s
      let s := s.scrubLevel domain (found.filter fun f => !f.ue).length
      if domain.isNone then s.add Page.xmem XMEM_SCRUB_PASS_COUNT 1 else s)

/-! The repair page, 18_access.md R653, R654; 01_machine.md R16. -/

abbrev repairBase : Nat := 0x03010000

/-- The 8 bytes of entry `k`. -/
def State.repairEntry (s : State) (k : Nat) : List Byte := s.nor.read (repairBase + 64 + 8 * k) 8 norFill

/-- Entries held: those before the first of all ones. -/
def State.repairCount (s : State) : Nat :=
  ((List.range 8184).find? fun k => (s.repairEntry k).all (· == 0xFF)).getD 8184

/-- An entry with its boot count and CRC-16. -/
def repairBytes (entry boots : Nat) : List Byte :=
  let b := leBytes 4 entry ++ leBytes 2 boots
  b ++ leBytes 2 (crc16 b)

/-- Append an entry; a page that cannot be written, or is full, leaves the repair in effect until the next cold reset
(05_buffers.md R186). -/
def State.repairAppend (s : State) (page entry : Nat) (ok : Bool) : State :=
  let n := s.repairCount
  if ok ∧ n < 8184 then
    { s with nor := s.nor.write (repairBase + 64 + 8 * n) (repairBytes entry s.ecc.boots) norFill }
  else s.raise page Ev.REPAIR_WRITE_FAIL

/-! Darning, R178-R186. -/

/-- The first byte and the length of a row (R132, R159). -/
def rowBytes (r : RowId) : MemId × Nat × Nat :=
  match r.core with
  | some c => (.cmem c, (r.row * 16 + r.bank) * 64, 64)
  | none => (.xmem, r.bank / 4 * segBytes + r.row * 2048 + r.bank % 4 * 512, 512)

/-- Candidates leave the list, and the pending fields follow (R188, R189). -/
def State.dropCands (s : State) (p : RowId → Bool) : State :=
  let s := s.updEcc fun e => { e with cands := e.cands.filter fun r => !p r }
  let s := s.set Page.xmem XMEM_HEALTH_DARN_PEND (s.ecc.cands.filter (fun (x : RowId) => x.core == none)).length
  eachOf allCores (fun c s =>
    let banks := (s.ecc.cands.filter (fun (x : RowId) => x.core == some c)).foldl (fun m (x : RowId) => m ||| 2 ^ x.bank) 0
    s.set (Page.cmem c.1) CMEM_DARN_PEND_BANKS banks) s

/-- A row is redirected to the next spare of its bank, which is zeroed; a failing spare row too (R182, R183). -/
def State.redirect (s : State) (r : RowId) : State :=
  let used := s.sparesUsed r.core r.bank
  let s := s.updEcc fun e =>
    { e with spares := assocSet e.spares (r.core, r.bank) (used + 1), darned := assocSet e.darned r used }
  match r.core with
  | some c =>
    let f : Fld := if r.bank < 8 then CMEM_SPARE_LO_USED else CMEM_SPARE_HI_USED
    let w := s.get (Page.cmem c.1) f
    let sh := 4 * (r.bank % 8)
    s.set (Page.cmem c.1) f (w - bits w (sh + 3) sh * 2 ^ sh + (used + 1) * 2 ^ sh)
  | none => s

/-- DARN: a candidate is darned at its window by the management core; a bank with no spare left is FAILING, or its core leaves
service, instead (R182-R186). -/
def execDarn (row : RowId) (repairOk : Bool) (s : State) : Host.Outcome State Fault Refusal :=
  .next (if !s.ecc.cands.contains row || !s.darnWindow row || !s.mgmtUp then s
    else
      let used := s.sparesUsed row.core row.bank
      if spareRows row.core ≤ used then
        (if row.core.isSome then s else s.updEcc fun e => { e with failing := insertNat e.failing row.bank })
      else
        let (m, a, n) := rowBytes row
        let s := (s.redirect row).writeMem m a (List.replicate n 0)
        let entry := match row.core with
          | some c => 2 ^ 30 + c.1 * 2 ^ 28 + row.bank * 2 ^ 24 + row.row * 2 ^ 14 + used * 2 ^ 12
          | none => row.bank * 2 ^ 21 + row.row * 2 ^ 8 + used * 8
        let s := (s.dropCands fun r => r == row).updEcc fun e => { e with watch := e.watch.filter fun w => w.row != row }
        (s.repairAppend row.page entry repairOk).raise row.page Ev.DARN_DONE)

/-- Segments that hold a mapped-out bank (R184). -/
def State.withheldSegs (s : State) : List Nat := (List.range 128).filter fun g => s.ecc.banksOut.any fun b => b / 4 == g

/-- A bank is mapped out: its segment is WITHHELD and the XMEM and CHIP pages follow (R184; 02_chip.md R69; 14_pages.md
R532). -/
def State.mapOutBank (s : State) (bank : Nat) : State :=
  let s := s.updEcc fun e => { e with banksOut := insertNat e.banksOut bank, failing := e.failing.filter (· != bank) }
  let s := (s.dropCands fun r => r.core == none && r.bank == bank).setSeg (bank / 4) 3 0
  let out := s.withheldSegs
  let s := s.set Page.xmem XMEM_HEALTH_BANKS_OUT s.ecc.banksOut.length
  let s := eachOf (List.range 4) (fun w s =>
    s.set Page.xmem (XMEM_WITHHELD_SEG.nth w) ((out.filter fun g => g / 32 == w).map fun g => 2 ^ (g % 32)).sum) s
  let n := 128 - out.length
  if s.get Page.chip CHIP_XMEM_SEGMENTS = n then s
  else ((s.set Page.chip CHIP_XMEM_SEGMENTS n).set Page.chip CHIP_XMEM_MIB (16 * n)).raise Page.chip Ev.CAPACITY

/-- A FAILING bank is mapped out, recorded in the repair page and logged (R184, R186). -/
def State.bankOut (s : State) (bank : Nat) (repairOk : Bool) : State :=
  ((s.mapOutBank bank).repairAppend Page.xmem (2 * 2 ^ 30 + bank * 2 ^ 21) repairOk).raise Page.xmem Ev.BANK_MAPPED_OUT

/-- BANK_MAPPED_OUT: a FAILING bank is mapped out at its segment's darn window (R184, R186). -/
def execBankMappedOut (bank : Fin 512) (repairOk : Bool) (s : State) : Host.Outcome State Fault Refusal :=
  .next (if s.ecc.failing.contains bank.1 && s.darnWindow ⟨none, bank.1, 0⟩ && s.mgmtUp then s.bankOut bank.1 repairOk else s)

/-- A core is withheld (R185, R188; 14_pages.md R532). -/
def State.withholdCore (s : State) (c : CoreId) : State :=
  let was := s.get Page.chip CHIP_STATUS_CORES_USABLE
  let s := s.set (Page.cmem c.1) CMEM_DARN_PEND_MAPPED_OUT 1
  if was.testBit c.1 then (s.set Page.chip CHIP_STATUS_CORES_USABLE (was - 2 ^ c.1)).raise Page.chip Ev.CAPACITY else s

/-- CORE_MAPPED_OUT: a CMEM bank needs a darn and has no spare left (R185, R186). -/
def execCoreMappedOut (core : CoreId) (bank : Fin 16) (repairOk : Bool) (s : State) : Host.Outcome State Fault Refusal :=
  let mine (r : RowId) : Bool := r.core == some core && r.bank == bank.1
  .next (if s.ecc.cands.any mine && decide (4 ≤ s.sparesUsed (some core) bank.1) && s.darnWindow ⟨some core, bank.1, 0⟩ && s.mgmtUp
    then
      let s := (s.dropCands mine).withholdCore core
      let s := s.repairAppend (Page.cmem core.1) (3 * 2 ^ 30 + core.1 * 2 ^ 28 + bank.1 * 2 ^ 24) repairOk
      s.raise (Page.cmem core.1) Ev.CORE_MAPPED_OUT
    else s)

/-- The factory's darns and map-outs, from fuses (R179, R188, R189). -/
def State.applyFuses (s : State) (env : BootEnv) : State :=
  let s := eachOf env.fuseRows (fun r s => s.redirect r) s
  let s := eachOf env.fuseBanks (fun b s => s.mapOutBank b.1) s
  eachOf (allCores.filter fun c => env.fuseCores.getLsbD c.1) (fun c s => s.withholdCore c) s

/-- A field darn of the repair page: one for a row that a fuse darns already is ignored and logged (R179; log 105). -/
def State.fieldDarn (s : State) (env : BootEnv) (r : RowId) : State :=
  if env.fuseRows.contains r then s.raise Page.repair Ev.REPAIR_ENTRY_BAD else s.redirect r

/-- Read the repair page at cold reset, entry by entry (R179; 18_access.md R654): darns take their spare, map-outs withhold; an
entry whose CRC fails is skipped. -/
def State.applyRepairs (s : State) (env : BootEnv) : State :=
  eachOf (List.range s.repairCount) (fun k s =>
    let b := s.repairEntry k
    let x := field b 0 4
    if crc16 (b.take 6) ≠ field b 6 2 then s.raise Page.repair Ev.REPAIR_ENTRY_BAD
    else match bits x 31 30 with
      | 0 => s.fieldDarn env ⟨none, bits x 29 21, bits x 20 8⟩
      | 1 => s.fieldDarn env ⟨some (coreOf (bits x 29 28)), bits x 27 24, bits x 23 14⟩
      | 2 => s.mapOutBank (bits x 29 21)
      | _ => s.withholdCore (coreOf (bits x 29 28))) s

/-! Self-tests, R187; 13_partitions.md R495. -/

/-- A write of CMEM_BIST.START. -/
def State.cmemBist (s : State) (c : CoreId) : State :=
  let pg := Page.cmem c.1
  if s.ecc.cmemTest.getLsbD c.1 then s
  else if (s.partOf c).isSome then (s.setStatus pg CMEM_BIST_STATUS .busy).set pg CMEM_BIST_DONE 1
  else (s.updEcc fun e => { e with cmemTest := e.cmemTest ||| BitVec.ofNat 4 (2 ^ c.1) }).set pg CMEM_BIST_DONE 0

/-- A write of XMEM_BIST.START, for the segment of XMEM_BIST.SEG. -/
def State.xmemBist (s : State) : State :=
  let seg := s.get Page.xmem XMEM_BIST_SEG
  if s.ecc.xmemTest.isSome then s
  else if s.segState seg ≠ 0 then (s.setStatus Page.xmem XMEM_BIST_STATUS .busy).set Page.xmem XMEM_BIST_DONE 1
  else
    (s.updEcc fun e => { e with xmemTest := some ⟨seg % 128, Nat.mod_lt _ (by decide)⟩ }).set Page.xmem XMEM_BIST_DONE 0

/-- CMEM_BIST_DONE: the contents are destroyed (log 7); failing rows become candidates, and `bufFailed` says that a row without
spares failed. -/
def execCmemBistDone (core : CoreId) (failed : List RowId) (bufFailed : Bool) (s : State) : Host.Outcome State Fault Refusal :=
  let pg := Page.cmem core.1
  let bad := failed.filter fun r => r.core == some core
  .next (if s.ecc.cmemTest.getLsbD core.1 then
      let s := s.updEcc fun e =>
        { e with cmemTest := e.cmemTest &&& ~~~(BitVec.ofNat 4 (2 ^ core.1)), upset := e.upset.filter fun x => !(x.1.page == pg) }
      let s := s.updCore core fun k => { k with cmem := [], min := [], acc := [], vec := [], stg := [], imem := [] }
      let s := eachOf bad (fun r s => s.candidate r) s
      (s.setStatus pg CMEM_BIST_STATUS (if bad.isEmpty && !bufFailed then .ok else .eccFatal)).set pg CMEM_BIST_DONE 1
    else s)

/-- XMEM_BIST_DONE: as CMEM_BIST_DONE, for a segment. -/
def execXmemBistDone (failed : List RowId) (s : State) : Host.Outcome State Fault Refusal :=
  .next (match s.ecc.xmemTest with
    | none => s
    | some seg =>
      let bad := failed.filter fun (r : RowId) => r.core == none && r.bank / 4 == seg.1
      let s := (s.updEcc fun e => { e with xmemTest := none }).zeroSeg seg.1
      let s := eachOf bad (fun r s => s.candidate r) s
      (s.setStatus Page.xmem XMEM_BIST_STATUS (if bad.isEmpty then .ok else .eccFatal)).set Page.xmem XMEM_BIST_DONE 1)

end Sys2Proof.Machine
end

