-- ==== Sys2Proof/Machine/Parts.lean ====
section
/-!
DEFINITION. Partitions, grants, contexts with their queues, and eviction (13_partitions.md); the reset of a core as these rules
and 16_reset.md R575-R585 give it.
-/
namespace Sys2Proof.Machine

open Reg

/-! Reset of a block's page, 14_pages.md R524, R526. -/

/-- The registers of a page return to their reset values, READY 0 among them; words at the offsets `keep`, PAGE_LOCK and
write-once fields stay, and so does a locked RWL field. -/
def State.resetBlock (s : State) (page : Nat) (keep : List Nat := []) : State :=
  let locked := s.flag page PAGE_LOCK_LOCK
  let fields := match kindOf page with
    | some k => k.fields
    | none => []
  let held := (fields.filter fun f => (f.acc == .rwl && locked) || f.acc == .woc).flatMap fun f =>
    (List.range f.cnt).map fun n => (f.nth n, s.get page (f.nth n))
  let keep := PAGE_LOCK_LOCK.off :: keep
  let mine (k : Nat) : Bool := k / 2 ^ 28 == page
  let s : State :=
    { s with regs := s.regs.filter (fun e => !mine e.1 || keep.contains (e.1 % 2 ^ 12)),
             staged := s.staged.filter (fun e => !mine e.1),
             touched := s.touched.filter (fun g => g.1 != page) }
  eachOf held (fun h s => s.set page h.1 h.2) s

/-- The causes of a reset, as RESET_ENTER and RESET_EXIT name them (16_reset.md R581; the codes are log 30's). -/
abbrev causeRequest : Nat := 0
abbrev causePart : Nat := 1
abbrev causeEvict : Nat := 2
abbrev causePower : Nat := 3

/-- RESET_ENTER or RESET_EXIT, naming domain, mask and cause (16_reset.md R581). -/
def State.resetEvent (s : State) (e : Ev) (domain mask cause : Nat) : State :=
  s.raise Page.chip e byBlock (arg domain ++ arg mask ++ arg cause)

/-- A core enters reset (16_reset.md R575, R576, R585): its collectives originate MEMBER_FAULT (10_mangle.md R375), a core that is
evicted or changes partition takes its descriptors with it, ABORTED (06_tiers.md R211), and one that changes partition is wiped
(13_partitions.md R471). -/
def State.enterCore (s : State) (c : CoreId) (cause : Nat) : State :=
  let s := s.resetEvent Ev.RESET_ENTER 2 (2 ^ c.1) cause
  let s := s.mangleCoreAbort c cMemberFault
  let s := if cause = causePart ∨ cause = causeEvict then s.abortEngines c else s
  let s := if cause = causePart then s.wipeCore c else s.resetCore c
  let s := s.resetBlock (Page.core c.1) ((List.range 256).map fun n => (CORE_BSLOT_READS.nth n).off)
  let s := s.resetBlock (Page.cmem c.1) [CMEM_SPARE_LO_USED.off, CMEM_SPARE_HI_USED.off, CMEM_DARN_PEND_BANKS.off]
  let s := s.updEcc fun e => { e with cmemTest := e.cmemTest &&& ~~~(BitVec.ofNat 4 (2 ^ c.1)) }
  let s := s.updCore c fun k => { k with wiping := cause = causePart }
  s.updResets fun r => { r with core := r.core ||| BitVec.ofNat 4 (2 ^ c.1), causes := assocSet r.causes (2, c.1) cause }

/-- A core leaves reset, and its pages are READY. -/
def State.leaveCore (s : State) (c : CoreId) : State :=
  let cause := (assocGet s.resets.causes (2, c.1)).getD causeRequest
  let s := s.updResets fun r =>
    { r with core := r.core &&& ~~~(BitVec.ofNat 4 (2 ^ c.1)), causes := assocDel r.causes (2, c.1) }
  let s := (s.updCore c fun k => { k with wiping := false }).set (Page.core c.1) PAGE_STATUS_READY 1
  (s.set (Page.cmem c.1) PAGE_STATUS_READY 1).resetEvent Ev.RESET_EXIT 2 (2 ^ c.1) cause

/-! Partitions, R469-R472, R496. -/

/-- An entry of PART_COREn. -/
structure Member where
  part  : Nat
  rank  : Nat
  valid : Bool
  deriving DecidableEq, Repr

/-- An entry from its register word. -/
def Member.of (w : Word) : Member := ⟨PART_CORE_PART.of w, PART_CORE_RANK.of w, PART_CORE_VALID.of w == 1⟩

/-- The partition that an entry names. -/
def Member.partition (m : Member) : Option Nat := if m.valid then some m.part else none

def State.member (s : State) (c : CoreId) : Member := Member.of (s.word Page.part 0 (PART_CORE_PART.nth c.1).off)

/-- Whether a core is STOPPED or FAULTED. -/
def Core.idle (k : Core) : Bool := k.st == .stopped || k.st == .faulted

/-- Whether a core has an EVICT pending (R489). -/
def State.evictNames (s : State) (c : CoreId) : Bool := (s.core c).evict

/-- Whether a VALID hanger model or serving unit of a partition names a core (R496). -/
def State.boundIn (s : State) (c : CoreId) (part : Nat) : Bool :=
  (List.finRange 16).any fun m =>
    (s.modelValid m && s.hg m HANGER_CFG_PART == part && (s.hg m HANGER_CFG_CORES).testBit c.1) ||
    ((s.instInfo m.1).valid && (s.instInfo m.1).part == part && (s.instInfo m.1).cores.testBit c.1)

/-- The checks of a PART_CORE COMMIT (R496). -/
def State.partCoreCheck (s : State) (new : CoreId → Member) : Status :=
  let usable (c : CoreId) : Bool := (s.get Page.chip CHIP_STATUS_CORES_USABLE).testBit c.1
  let wrong (c : CoreId) : Bool :=
    let m := new c
    m.valid && (m.part == 0 || decide (16383 < m.rank) || !usable c ||
      allCores.any fun d => d != c && (new d).valid && (new d).part == m.part && (new d).rank == m.rank)
  let busy (c : CoreId) : Bool :=
    let old := s.member c
    old != new c && (!(s.core c).idle || s.evictNames c ||
      (old.valid && (new c).partition != some old.part && s.boundIn c old.part))
  if allCores.any wrong then .mismatch else if allCores.any busy then .busy else .ok

/-- An accepted PART_CORE COMMIT; the live registers hold the new entries (R471). -/
def State.partCoreApply (s : State) (old : CoreId → Member) : State :=
  eachOf allCores (fun c s =>
    if (old c).partition = (s.member c).partition then s else s.enterCore c causePart) s

/-- CORE_WIPE_DONE: the reset and wipe of a core that changed partition end, within 20 us (R471). -/
def execCoreWipeDone (core : CoreId) (s : State) : Host.Outcome State Fault Refusal :=
  .next (if (s.core core).wiping then s.leaveCore core else s)

/-! Grants, R473, R497. -/

/-- A request of PART_GRANT. -/
structure GrantReq where
  first   : Nat
  count   : Nat
  part    : Nat
  release : Bool
  deriving DecidableEq, Repr

def GrantReq.of (w : Word) : GrantReq :=
  ⟨PART_GRANT_FIRST.of w, PART_GRANT_COUNT.of w, PART_GRANT_PART.of w, PART_GRANT_OP.of w == 1⟩

def GrantReq.segs (g : GrantReq) : List Nat := (List.range g.count).map (g.first + ·)

/-- Whether a segment lies in a VALID hanger bank or patch residency area (R497). -/
def State.segBound (s : State) (seg : Nat) : Bool :=
  (List.finRange 16).any fun m =>
    (s.modelValid m && ([s.hg m HANGER_SEGS_BANK0, s.hg m HANGER_SEGS_BANK1].any fun b =>
      decide (b ≤ seg) && decide (seg < b + s.hg m HANGER_SEGS_NSEG))) ||
    ((s.instInfo m.1).valid && (s.instInfo m.1).segs.contains seg)

/-- Whether a segment holds a FAILING bank, which keeps it from being granted (05_buffers.md R184). -/
def State.segFailing (s : State) (seg : Nat) : Bool := s.ecc.failing.any fun b => b / 4 == seg

def State.segZeroing (s : State) (seg : Nat) : Bool := s.getI Page.part seg PART_SEG_INFO_ZEROING == 1

/-- The checks of a PART_GRANT COMMIT (R497). -/
def State.grantCheck (s : State) (g : GrantReq) : Status :=
  let held (x : Nat) : Bool := s.segState x == 1 && s.getI Page.part x PART_SEG_INFO_PART == g.part
  if g.count = 0 ∨ 128 < g.first + g.count ∨ g.part = 0 ∨ (g.release ∧ g.segs.any fun x => !held x) then .mismatch
  else if (!g.release && g.segs.any fun x => s.segState x == 1 || s.segState x == 2) ||
      (g.release && g.segs.any s.segZeroing) || !s.jobStopped g.part || g.segs.any s.segBound then .busy
  else if !g.release && g.segs.any fun x => s.segState x == 3 || s.segFailing x then .noSpace
  else .ok

/-- An accepted PART_GRANT COMMIT (R473). -/
def State.grantApply (s : State) (g : GrantReq) : State :=
  eachOf g.segs (fun x s => if g.release then s.setI Page.part x PART_SEG_INFO_ZEROING 1 else s.setSeg x 1 g.part) s

/-- ZERO_FILL_DONE: a released segment's zero-fill ends, and it is FREE (R473). -/
def execZeroFillDone (seg : Fin 128) (s : State) : Host.Outcome State Fault Refusal :=
  .next (if s.segZeroing seg.1 then (s.zeroSeg seg.1).setSeg seg.1 0 0 else s)

/-! Eviction, R489-R494, R498. -/

/-- A request of the EVICT group. -/
structure EvictReq where
  cores    : Nat
  deadline : Nat
  epoch    : Nat
  save     : Nat
  deriving DecidableEq, Repr

/-- The checks of an EVICT COMMIT (R498). -/
def State.evictCheck (s : State) (r : EvictReq) : Status :=
  if r.cores = 0 ∨ (coresOf r.cores).any (fun c => (s.partOf c).isNone) ∨ 10000 < r.deadline then .mismatch
  else if r.save % 16384 ≠ 0 ∨ dramGeneral < r.save + 16384 * (coresOf r.cores).length then .param
  else if s.evict.isSome then .busy
  else .ok

/-- The EVICT becomes pending on its cores; one that is STOPPED or FAULTED counts as yielded (R489, R492). -/
def State.evictBegin (s : State) (e : Evict) : State :=
  let s : State := { s with evict := some { e with pending := true } }
  eachOf (coresOf e.cores.toNat) (fun c s =>
    if (s.core c).idle then s.abortWork c else s.updCore c fun k => { k with evict := true }) s

/-- In the first tick of its epoch, or at once when that has begun, an EVICT becomes pending (R489). -/
def State.evictTick (s : State) : State :=
  match s.evict with
  | some e => if e.pending = false ∧ e.epoch ≤ s.epochNo then s.evictBegin e else s
  | none => s

/-- An accepted EVICT COMMIT (R489, R494). -/
def State.evictApply (s : State) (r : EvictReq) : State :=
  let e : Evict := ⟨BitVec.ofNat 4 r.cores, r.epoch, if r.deadline = 0 then 100 else r.deadline, r.save, false⟩
  (({ s with evict := some e } : State).set Page.part PART_EVICT_STATUS_BUSY 1).evictTick

/-- The cores of a list in ascending partition rank; a core of no partition takes its place by number (R485, R493). -/
def State.byRank (s : State) (l : List CoreId) : List CoreId :=
  let key (c : CoreId) : Nat := (match s.partOf c with | some _ => s.rankOf c | none => 2 ^ 20) * 4 + c.1
  l.mergeSort fun a b => decide (key a ≤ key b)

/-- An eviction completes: lanes are saved, host descriptors of the partitions end ABORTED, EVICTED is posted, and the
partitions' pending hanger versions and residencies go (R493, R494; 11_press.md R401; 12_serving.md R468). -/
def State.evictEnd (s : State) (e : Evict) (st : Status) (forced : List CoreId) : State :=
  let named := coresOf e.cores.toNat
  let order := s.byRank named
  let s := eachOf ((List.range order.length).zip order) (fun x s =>
    if forced.contains x.2 then s else s.writeDram (e.save + 16384 * x.1) (laneImage (s.core x.2).lanes)) s
  let parts := (named.filterMap s.partOf).eraseDups
  let host (d : Desc) : Bool := d.core.isNone && parts.contains d.part.toNat
  let s := (s.abortTier 4 host .aborted).abortPress host
  let s := eachOf parts (fun p s => (s.hangerPartReset p).emptyResidency p) s
  let s := eachOf named (fun c s => s.updCore c fun k => { k with evict := false }) s
  let s := ({ s with evict := none } : State).set Page.part PART_EVICT_STATUS_BUSY 0
  let s := (s.setStatus Page.part PART_EVICT_STATUS_STATUS st).set Page.part PART_EVICT_STATUS_FORCED
    ((forced.map fun c => 2 ^ c.1).sum)
  let s := eachOf allCtxs (fun n s =>
    match named.find? (fun c => (s.core c).owner == some n) with
    | some c => s.post n (cplEntry st 5 0 0 c.1 0 0 0)
    | none => s) s
  (s.raise Page.part Ev.EVICT_DONE).latch Page.part 8

/-- EVICT_DONE: every named core has halted (R493). -/
def execEvictDone (s : State) : Host.Outcome State Fault Refusal :=
  .next (match s.evict with
    | some e =>
      if e.pending && (coresOf e.cores.toNat).all fun c => (s.core c).idle then s.evictEnd e .ok [] else s
    | none => s)

/-- EVICT_FORCED: the deadline passes with a named core not halted, which is reset (R494). -/
def execEvictForced (s : State) : Host.Outcome State Fault Refusal :=
  .next (match s.evict with
    | some e =>
      let forced := (coresOf e.cores.toNat).filter fun c => !(s.core c).idle
      if e.pending && !forced.isEmpty then
        let s := eachOf forced (fun c s => (s.enterCore c causeEvict).raise Page.part Ev.EVICT_FORCED (byCore c)) s
        s.evictEnd e .timeout forced
      else s
    | none => s)

/-! Contexts, R475, R476, R499. -/

/-- A binding as its registers name it. -/
structure Binding where
  part  : Nat
  cores : Nat
  valid : Bool
  wins  : List (Nat × Nat)
  deriving DecidableEq, Repr

/-- A binding from its five register words. -/
def Binding.of (w : Nat → Word) : Binding :=
  { part := CTX_BIND_PART.of (w 0x040), cores := CTX_BIND_CORES.of (w 0x040), valid := CTX_BIND_VALID.of (w 0x040) == 1
    wins := (List.range 4).filterMap fun i =>
      let x := w (0x044 + 4 * i)
      if CTX_WIN_LEN.of x = 0 then none else some (CTX_WIN_BASE.of x * 2 ^ 21, CTX_WIN_LEN.of x * 2 ^ 21) }

def State.binding (s : State) (n : CtxId) : Binding := Binding.of fun off => s.word (Page.ctx n.1) 0 off

/-- The checks of a binding COMMIT; only that of PART asks for VALID (R499). -/
def State.bindCheck (s : State) (n : CtxId) (b : Binding) : Status :=
  let other (m : CtxId) : Bool :=
    let o := s.binding m
    m != n && o.valid && o.part != b.part && b.wins.any fun w => o.wins.any fun v => overlap w.1 w.2 v.1 v.2
  if (b.valid && b.part == 0) || (coresOf b.cores).any (fun c => s.partOf c != some b.part) || allCtxs.any other ||
      b.wins.any (fun w => decide (dramGeneral < w.1 + w.2)) || decide (16384 * 2 ^ 21 < (b.wins.map (·.2)).sum) then .mismatch
  else if !(s.ctx n).cmds.isEmpty || allCores.any (fun c => (s.core c).owner == some n && !(s.core c).idle) then .busy
  else .ok

/-- An accepted binding COMMIT: VALID 0 also clears ENABLE (R499). -/
def State.bindApply (s : State) (n : CtxId) : State :=
  if s.flag (Page.ctx n.1) CTX_BIND_VALID then s else s.set (Page.ctx n.1) CTX_QCTRL_ENABLE 0

/-- The checks of a queue COMMIT (R499). -/
def State.queueCheck (s : State) (n : CtxId) (sqLo cqLo : Nat) : Status :=
  if sqLo % 4096 ≠ 0 ∨ cqLo % 4096 ≠ 0 then .mismatch
  else if s.ctxEnabled n ∧ (s.sqDepth n ≠ 0 ∨ s.cqDepth n ≠ 0) then .busy
  else .ok

/-- An accepted queue COMMIT: indices 0, PHASE 1; with ENABLE set completions are posted again (R499; 14_pages.md R536). -/
def State.queueApply (s : State) (n : CtxId) : State :=
  let pg := Page.ctx n.1
  let s := (s.setWord pg 0 CTX_SQ_STATE_HEAD.off 0).setWord pg 0 CTX_CQ_STATE_HEAD.off 0
  let s := s.updCtx n fun x => { x with phase := true, flr := x.flr && !s.ctxEnabled n }
  s.drainCq 512 n

/-! Doorbells, R480, R481. -/

/-- A doorbell that is not obeyed. -/
def State.badDoorbell (s : State) (n : CtxId) (path : Path) : State :=
  (s.add (Page.ctx n.1) CTX_ERR_DB_BAD 1).raise (Page.ctx n.1) Ev.DOORBELL_BAD (byPath path)

/-- A write of CTX_SQ_DB. -/
def State.sqTail (s : State) (n : CtxId) (path : Path) (tail : Nat) : State :=
  let pg := Page.ctx n.1
  let d := qDepth (s.get pg CTX_SQ_STATE_HEAD) tail
  if d < s.sqDepth n ∨ 256 < d then s.badDoorbell n path else s.set pg CTX_SQ_STATE_TAIL tail

/-- A write of CTX_CQ_DB; completions that wait are posted in order (R487). -/
def State.cqHead (s : State) (n : CtxId) (path : Path) (head : Nat) : State :=
  let pg := Page.ctx n.1
  if s.cqDepth n < qDepth (s.get pg CTX_CQ_STATE_HEAD) head then s.badDoorbell n path
  else
    let s := s.set pg CTX_CQ_STATE_HEAD head
    (s.set pg CTX_CQ_STATE_FULL (if s.cqDepth n = 256 then 1 else 0)).drainCq 512 n

/-! Commands of a submission queue, R482-R485. -/

def Cmd.code (k : Cmd) : Nat := field k.raw 0 1
def Cmd.cookie (k : Cmd) : Nat := field k.raw 4 4
/-- Whether a command is accepted work that completes when its work ends (R482). -/
def Cmd.works (k : Cmd) : Bool := k.begun && k.result.isNone && (k.code == 3 || k.code == 5)

/-- Post the completions that are due, in SQ order (R482). -/
def State.flushCmds : (fuel : Nat) → State → CtxId → State
  | 0, s, _ => s
  | fuel + 1, s, n =>
    match (s.ctx n).cmds.find? (fun k => !k.works) with
    | none => s
    | some k =>
      match k.result with
      | none => s
      | some st =>
        let s := s.updCtx n fun x => { x with cmds := x.cmds.filter fun y => y.idx != k.idx }
        State.flushCmds fuel (s.post n (cplEntry st 1 k.idx.toNat k.cookie 0 0 0 0)) n

/-- SQ_FETCH: the context fetches its next entry, with at most 8 in progress and none while its CQ is full; an entry of no known
CMD is rejected (R482, R483, R487). -/
def execSqFetch (ctx : CtxId) (s : State) : Host.Outcome State Fault Refusal :=
  let pg := Page.ctx ctx.1
  let head := s.get pg CTX_SQ_STATE_HEAD
  .next (if s.inReset pg ∨ s.powerStopped ∨ s.ctxEnabled ctx = false ∨ (s.ctx ctx).flr ∨ s.sqDepth ctx = 0 ∨
      8 ≤ (s.ctx ctx).cmds.length ∨ 256 ≤ s.cqDepth ctx then s
    else
      let raw := s.hostRead (s.pair pg 0 (CTX_SQ_ADDR.nth 0) (CTX_SQ_ADDR.nth 1) + 64 * (head % 256)) 64
      let code := field raw 0 1
      let bad := decide (code = 0 ∨ 5 < code)
      let k : Cmd := ⟨BitVec.ofNat 9 head, raw, bad, if bad then some .param else none⟩
      ((s.set pg CTX_SQ_STATE_HEAD ((head + 1) % 512)).updCtx ctx fun x => { x with cmds := x.cmds ++ [k] }).flushCmds 8 ctx)

/-- Begin a context's next command when its CMD is `code`: `f` answers its status, or none for work that goes on (R482). -/
def State.beginCmd (s : State) (n : CtxId) (code : Nat) (f : Cmd → State → Option Status × State) : State :=
  match (s.ctx n).cmds.find? (fun k => !k.begun) with
  | none => s
  | some k =>
    if k.code ≠ code ∨ s.inReset (Page.ctx n.1) ∨ s.powerStopped then s
    else
      let (st, s) := f k s
      let s := s.updCtx n fun x =>
        { x with cmds := x.cmds.map fun y => if y.idx = k.idx then { y with begun := true, result := st } else y }
      s.flushCmds 8 n

/-- The checks that commands with named cores share (R484): PARAM by `bad`, then NOT_READY, then a core in reset (16_reset.md
R582), then BUSY. -/
def State.cmdCheck (s : State) (n : CtxId) (bad : Bool) (named : List CoreId) : Status :=
  if bad then .param
  else if (s.binding n).valid = false ∨ named.any (fun c => (s.core c).wiping) then .notReady
  else if named.any (fun c => s.inReset (Page.core c.1)) then .resetNack
  else if named.any (fun c => !(s.core c).idle || s.evictNames c) then .busy
  else .ok

/-- LOAD_IMEM: blocks of instruction memory from host memory (R483; 03_bundles.md R95, R98). -/
def execLoadImem (ctx : CtxId) (s : State) : Host.Outcome State Fault Refusal :=
  .next (s.beginCmd ctx 1 fun k s =>
    let core := field k.raw 8 1
    let blk := field k.raw 9 1
    let n := field k.raw 10 1
    let c := coreOf core
    let bad := decide (3 < core) || !(s.binding ctx).cores.testBit core || decide (n = 0 ∨ 32 < n ∨ 32 < blk + n)
    match s.cmdCheck ctx bad [c] with
    | .ok =>
      let data := s.hostRead (field k.raw 16 8) (8192 * n)
      let s := s.writeMem (.imem c) (8192 * blk) data
      (some .ok, s.updCore c fun k => { k with imemOk := k.imemOk ||| (BitVec.ofNat 32 (2 ^ n - 1) <<< blk) })
    | st => (some st, s))

/-- A core starts at a bundle with an argument in s0, for a context, its CYC 0 falling on the next clock frame boundary; HALT_REQ
set before halts it before its first bundle (R485; 03_bundles.md R117; 04_contract.md R121, R142, R153). -/
def State.startCore (s : State) (n : CtxId) (pc : Nat) (x : Dword) (c : CoreId) : State :=
  let s := ((s.clearCounters c).loadSlots c).set (Page.core c.1) CORE_FAULT_VALID 0
  let s := s.updCore c fun k =>
    { (k.setS 0 x) with st := .running, pc := BitVec.ofNat 11 pc, start := s.frameCclk, cyc := 0, br := none, yld := none,
                        bundle := Bundle.none, held := none, owner := some n, flights := [], access := [], beats := [],
                        lost := 0, took := none, clash := none, busy := [], overrun := false, stepping := false }
  if s.flag (Page.core c.1) CORE_CTRL_HALT_REQ then s.debugHalt c else s

/-- The lanes of the cores that a START restores: their images are read first (R485; 08_spin.md R295). -/
def State.restoreAll (s : State) (addr : Nat) : (cores : List (Nat × CoreId)) → Bool × State
  | [] => (true, s)
  | (j, c) :: r =>
    let (bs, bad, s) := s.readDram (addr + 16384 * j) 16384
    if bad then (false, s) else (s.loadLanes c (lanesOfImage bs)).restoreAll addr r

/-- START: named cores begin together (R483-R485). -/
def execStart (ctx : CtxId) (s : State) : Host.Outcome State Fault Refusal :=
  .next (s.beginCmd ctx 2 fun k s =>
    let mask := field k.raw 8 1
    let restore := (field k.raw 9 1).testBit 0
    let pc := field k.raw 10 2
    let addr := field k.raw 24 8
    let named := coresOf mask
    let b := s.binding ctx
    let bad := mask == 0 || decide (15 < mask) || named.any (fun c => !b.cores.testBit c.1) || decide (2047 < pc) ||
      (restore && !inWindows b.wins addr (16384 * named.length))
    match s.cmdCheck ctx bad named with
    | .ok =>
      let order := s.byRank named
      let (ok, s) := if restore then s.restoreAll addr ((List.range order.length).zip order) else (true, s)
      if ok then (some .ok, eachOf named (fun c s => s.startCore ctx pc (BitVec.ofNat 64 (field k.raw 16 8)) c) s)
      else (some .eccFatal, s)
    | st => (some st, s))

/-- ENGINE: a host descriptor for the tier controller or the press engine (R483, R484; 06_tiers.md R207; 11_press.md R410). -/
def execEngine (ctx : CtxId) (s : State) : Host.Outcome State Fault Refusal :=
  .next (s.beginCmd ctx 3 fun k s =>
    let e := field k.raw 8 1
    let b := s.binding ctx
    let q : Fin 5 := 4
    let full := if e = 0 then decide (64 ≤ s.tier.queues[q].length + (s.tier.hold.filter fun d => d.queue == q).length)
      else decide (16 ≤ (s.pressQ q).length)
    match s.cmdCheck ctx (decide (e ≠ 0 ∧ e ≠ 2)) [] with
    | .ok =>
      if full then (some .busy, s)
      else if s.inReset (if e = 0 then Page.tier else Page.press) then (some .resetNack, s)
      else
        let d := Desc.new (s.hostRead (field k.raw 16 8) 64) none (some ctx) k.idx none 0 (BitVec.ofNat 12 b.part) s.weave.wt
        (none, if e = 0 then s.pushTier q d else s.setPressQ q (s.pressQ q ++ [d]))
    | st => (some st, s))

/-- BATCH: a step is posted to a serving unit (R483; 12_serving.md R445). -/
def execBatch (ctx : CtxId) (s : State) : Host.Outcome State Fault Refusal :=
  .next (s.beginCmd ctx 4 fun k s =>
    match s.cmdCheck ctx false [] with
    | .ok =>
      if s.inReset Page.patch then (some .resetNack, s)
      else let r := s.batchPost ctx (field k.raw 8 1) (field k.raw 16 8); (some r.1, r.2)
    | st => (some st, s))

/-- COPY: a transfer between host memory and DRAM begins (R483, R484); a write into the side store or the mapping table is READ_ONLY
(06_tiers.md R194, R244; log 109). -/
def execCopy (ctx : CtxId) (s : State) : Host.Outcome State Fault Refusal :=
  .next (s.beginCmd ctx 5 fun k s =>
    let len := field k.raw 12 4
    let addr := field k.raw 24 8
    let form := decide (1 < field k.raw 8 1 ∨ len % 64 ≠ 0 ∨ 2 ^ 30 < len)
    let guarded := field k.raw 8 1 == 0 && decide (dramGeneral < addr + len) && decide (addr < dramBytes) && decide (0 < len)
    if form = false ∧ guarded then (some .readOnly, s)
    else
      match s.cmdCheck ctx (form || !inWindows (s.binding ctx).wins addr len) [] with
      | .ok => (none, s)
      | st => (some st, s))

/-- COPY_DONE: a context's oldest COPY in progress ends: its bytes are moved (R483; 05_buffers.md R162, R174; 06_tiers.md R195). -/
def execCopyDone (ctx : CtxId) (link : LinkRead) (s : State) : Host.Outcome State Fault Refusal :=
  .next (if s.powerStopped then s else match (s.ctx ctx).cmds.find? (fun k => k.works && k.code == 5) with
    | none => s
    | some k =>
      let len := field k.raw 12 4
      let host := field k.raw 16 8
      let addr := field k.raw 24 8
      let (st, s) : Status × State :=
        if field k.raw 8 1 = 0 then (.ok, s.writeDram addr (s.hostRead host len))
        else
          let (bs, bad, s) := s.readDramOver link addr len
          if bad then (.eccFatal, s) else (.ok, { s with host := s.host.write host bs })
      let s := s.updCtx ctx fun x => { x with cmds := x.cmds.filter fun y => y.idx != k.idx }
      s.post ctx (cplEntry st 1 k.idx.toNat k.cookie 0 0 0 0))

end Sys2Proof.Machine
end

