-- ==== Sys2Proof/Machine/Readout.lean ====
section
/-!
DEFINITION. What a read of a register returns (14_pages.md R503-R506, R511-R514): the live or staged word of the selected
entry, with the fields that show state held elsewhere filled in. A read has no effect on the state (R504).
-/
namespace Sys2Proof.Machine

open Reg

/-! Selected entries. -/

/-- The index of the entry that the register at `off` of a page shows or sets: the selected one of a _SEL page, the path's own
of the LINT read registers (17_lint.md R624), 0 elsewhere. -/
def State.entryIdx (s : State) (path : Path) (page off : Nat) : Nat :=
  let between (a b n : Nat) : Nat := if a ≤ off ∧ off ≤ b then n else 0
  match kindOf page with
  | some .scale =>
    if off = SCALE_CFG_LEN.off ∨ off = SCALE_VALUE_SCALE.off ∨ off = SCALE_PENDING_AMAX.off ∨ off = SCALE_NONFINITE_COUNT.off then
      scaleIdx (coreOf (s.get page SCALE_SEL_CORE)) (s.get page SCALE_SEL_SLOT)
    else 0
  | some .optim => between 0x044 0x05C (s.get page OPTIM_SEL_SET)
  | some .shelf => between 0x058 0x064 (s.get page SHELF_NS_SEL_NS)
  | some .tier => between 0x058 0x068 (s.get page TIER_SH_SEL_ENTRY)
  | some .mangle =>
    if off < 0x058 then between 0x044 0x054 (s.get page MANGLE_SEL_INDEX)
    else between 0x058 0x068 (grpIdx (s.get page MANGLE_SEL_INDEX))
  | some .hanger => between 0x044 0x07C (s.get page HANGER_SEL_MODEL)
  | some .press => between 0x044 0x044 (s.get page PRESS_MC_SEL_ENTRY)
  | some .xring => between 0x044 0x06C (s.get page XRING_SEL_RING)
  | some .patch => between 0x044 0x05C (s.get page PATCH_SEL_INST)
  | some .part => between 0x058 0x058 (s.get page PART_SEG_SEL_SEG)
  | some .cal => between 0x048 0x048 (256 * s.get page CAL_SEL_SECTION + s.get page CAL_SEL_INDEX)
  | some .lintsnap => between 0x044 0x064 (s.get page LINTSNAP_SEL_ENTRY)
  | some .weave => between 0x0B4 0x0B8 (s.get page WEAVE_PATH_SEL_ENTRY)
  | some .lint => between 0x060 0x0BC path.code
  | _ => 0

/-! Interrupts, R512-R514. -/

/-- The level-type conditions of a page that hold (R513). -/
def State.levels (s : State) (page : Nat) : Nat :=
  let block : Bool := match kindOf page with
    | some .therm => s.flag page THERM_STATE_THROTTLING
    | some .chip => s.flag page CHIP_ALERT_PEND
    | some .lint => s.get page LINT_LASTGASP_CODE != 0
    | some .shelf => s.shelfRo
    | _ => false
  (if block then 2 ^ 8 else 0) + (if s.word page 0 VIOLATION_LOCK_WRITE.off = 0 then 0 else 2 ^ 31)

/-- INT_STATUS: what is latched, and the levels that hold (R512). -/
def State.intStatus (s : State) (page : Nat) : Nat := s.get page INT_STATUS_STATUS ||| s.levels page

/-- Level-type bits among the block bits of a page. -/
def levelBits (page : Nat) : Nat :=
  match kindOf page with
  | some .therm | some .chip | some .lint | some .shelf => 2 ^ 8 + 2 ^ 31
  | _ => 2 ^ 31

/-- INT_RAW: events as latched (clearing the status bit clears both), levels as they stand (R512). -/
def State.intRaw (s : State) (page : Nat) : Nat :=
  let st := s.get page INT_STATUS_STATUS
  (st - (st &&& levelBits page)) ||| s.levels page

/-- A page's interrupt line (R514). -/
def State.line (s : State) (page : Nat) : Bool :=
  !s.inReset page && s.flag page PAGE_CTRL_INT_EN && (s.intStatus page &&& s.get page INT_ENABLE_ENABLE) != 0

/-! The repair page, 18_access.md R653: what lies in the SPI NOR. -/

/-- A word of the entry that REPAIR_SEL names. -/
def State.repairWord (s : State) (n : Nat) : Nat := field (s.repairEntry (s.get Page.repair REPAIR_SEL_ENTRY)) (4 * n) 4

/-! QUIESCE_N and lamps, 18_access.md R638, R655-R657. -/

/-- Whether a core counts as held while QUIESCE_N is accepted low: before a YIELD or EPOCH bundle, or not issuing (R638). -/
def Core.heldQuiet (k : Core) : Bool := k.quiet || k.idle || k.st == .debugHalt

/-- The cores held, as a mask. -/
def State.heldMask (s : State) : Nat :=
  if s.pins.quiesceLow then ((allCores.filter fun c => (s.core c).heldQuiet).map fun c => 2 ^ c.1).sum else 0

/-- Whether LAMP0 is forced on (R657). -/
def State.lampForced (s : State) : Bool :=
  s.flag Page.lamp LAMP_CTRL_AUTO && (s.flag Page.chip CHIP_STATUS_FATAL_SEEN || s.pins.thermtrip)

/-- The state of a lamp: 0 OFF, 1 OK, 2 OPEN, 3 SHORT, 4 NOT_MEASURED (R656). -/
def State.lampState (s : State) (n : Fin 2) : Nat :=
  let duty := if n = 0 ∧ s.lampForced then 1000 else s.get Page.lamp (LAMP_CFG_DUTY.nth n.1)
  if duty = 0 then 0
  else if duty < 30 ∧ s.flag Page.lamp LAMP_CTRL_STRETCH_EN = false then 4
  else if s.mgmt.lampBad[n] ≠ 0 then s.mgmt.lampBad[n]
  else 1

/-! Fields that show state held elsewhere. -/

/-- Numbers packed `w` bits apart, first lowest. -/
def packed (w : Nat) : List Nat → Nat
  | [] => 0
  | x :: r => x % 2 ^ w + 2 ^ w * packed w r

/-- Outstanding descriptors of a tier queue, held ones included. -/
def State.tierDepth (s : State) (q : Fin 5) : Nat :=
  s.tier.queues[q].length + (s.tier.hold.filter fun d => d.queue == q).length

/-- The computed fields of the common header (14_pages.md R511, R679). -/
def State.headerShows (s : State) (k : Kind) (page off : Nat) : List (Fld × Nat) :=
  if off = PAGE_ID_PAGE.off then [(PAGE_ID_PAGE, page), (PAGE_ID_BLOCK, k.block)]
  else if off = PAGE_STATUS_LOCKED.off then
    [(PAGE_STATUS_LOCKED, s.get page PAGE_LOCK_LOCK), (PAGE_STATUS_STAGED, (s.touched.any fun t => t.1 == page).toNat)]
  else if off = INT_RAW_RAW.off then [(INT_RAW_RAW, s.intRaw page), (INT_RAW_VIOL, s.intRaw page / 2 ^ 31)]
  else if off = INT_STATUS_STATUS.off then [(INT_STATUS_STATUS, s.intStatus page)]
  else []

/-- The computed fields of a CORE page (03_bundles.md R117, R96; 04_contract.md R153, R154). -/
def State.coreShows (s : State) (c : CoreId) (off : Nat) : List (Fld × Nat) :=
  let k := s.core c
  let st := match k.st with
    | .stopped => 0 | .running => 1 | .waiting => 2 | .debugHalt => 3 | .faulted => 4
  if off = CORE_STATE_STATE.off then [(CORE_STATE_STATE, st), (CORE_STATE_PC, k.pc.toNat)]
  else if off = CORE_IMEM_VALID_VALID.off then [(CORE_IMEM_VALID_VALID, k.imemOk.toNat)]
  else if off = CORE_CYC_LO_CYC.off then [(CORE_CYC_LO_CYC, k.cyc)]
  else if off = CORE_CYC_HI_CYC.off then [(CORE_CYC_HI_CYC, k.cyc / 2 ^ 32)]
  else if CORE_BSLOT_TAG.off ≤ off ∧ off < CORE_BSLOT_TAG.off + 1024 then
    let n := (off - CORE_BSLOT_TAG.off) / 4
    let b := k.slot (BitVec.ofNat 8 n)
    [(CORE_BSLOT_TAG.nth n, b.tag.code), (CORE_BSLOT_RC.nth n, b.rc.toNat)]
  else []

/-- The computed fields of the LINT page (17_lint.md R627). -/
def State.lintShows (s : State) (off : Nat) : List (Fld × Nat) :=
  if off = LINT_USED_RECORDS.off then [(LINT_USED_RECORDS, s.lint.slots.length), (LINT_USED_BAD, s.lint.bad.length)]
  else []

/-- The image of a patch entry that PATCH_SEL names, as the store of its serving unit holds it (12_serving.md R450, R466). -/
def State.patchShows (s : State) (off : Nat) : List (Fld × Nat) :=
  let i := s.get Page.patch PATCH_SEL_INST
  let v := s.serve (modelOf i)
  if 0x060 ≤ off ∧ off ≤ 0x074 then
    let id := s.get Page.patch PATCH_SEL_ENTRY
    let e := PatchEntry.of (s.readDram ((s.instInfo i).store + 32 * id) 32).1
    [(PATCH_E_CFG_RANK, e.rank), (PATCH_E_CFG_FMT, e.fmt), (PATCH_E_CFG_BLK, e.blk), (PATCH_E_CFG_VALID, e.valid.toNat),
     (PATCH_E_ALPHA_ALPHA, e.alpha), (PATCH_E_IMG_LO_IMG, e.img), (PATCH_E_IMG_HI_IMG, e.img / 2 ^ 32),
     (PATCH_E_TILES_TILES, e.tiles), (PATCH_E_GEN_GEN, e.gen)].filter fun f => f.1.off == off
  else if off = PATCH_I_POSTED_STEP.off then [(PATCH_I_POSTED_STEP, v.posted - 1)]
  else if off = PATCH_I_LATCHED_STEP.off then [(PATCH_I_LATCHED_STEP, s.latchedAll (modelOf i) - 1)]
  else []

/-- The computed fields of the register at `off` of a page. -/
def State.shows (s : State) (page off : Nat) : List (Fld × Nat) :=
  match kindOf page with
  | none => []
  | some k =>
    if off < 0x040 then s.headerShows k page off
    else
      match k with
      | .core => s.coreShows (coreOf (page - 0x010)) off
      | .chip =>
        if off = CHIP_STATUS_SHELF_RO.off then
          [(CHIP_STATUS_SHELF_RO, s.shelfRo.toNat), (CHIP_STATUS_ALIGNED, s.get Page.weave WEAVE_STATUS_ALIGNED)]
        else if CHIP_INT_SUM_PAGES.off ≤ off ∧ off < CHIP_INT_SUM_PAGES.off + 32 then
          let w := (off - CHIP_INT_SUM_PAGES.off) / 4
          [(CHIP_INT_SUM_PAGES.nth w, packed 1 ((List.range 32).map fun b => (s.line (32 * w + b)).toNat))]
        else []
      | .clk => if off = CLK_STATUS_LIMITS.off then [(CLK_STATUS_LIMITS, s.limits)] else []
      | .therm =>
        if off = THERM_LIMITS_THROTTLE.off then
          [(THERM_LIMITS_THROTTLE, (s.throttleAt / 4).toNat), (THERM_LIMITS_RELEASE, (s.releaseAt / 4).toNat)]
        else []
      | .mgmt =>
        if off = MGMT_QSC_LINE.off then [(MGMT_QSC_LINE, s.pins.quiesceLow.toNat), (MGMT_QSC_HELD, s.heldMask)]
        else if off = MGMT_FW_ERASING.off then [(MGMT_FW_ERASING, s.mgmt.erasing.isSome.toNat)]
        else []
      | .cal => if off = CAL_STATUS_CAL_VALID.off then [(CAL_STATUS_CAL_VALID, s.get Page.chip CHIP_STATUS_CAL_VALID)] else []
      | .repair =>
        if off = REPAIR_STATUS_ENTRIES.off then
          [(REPAIR_STATUS_ENTRIES, s.repairCount), (REPAIR_STATUS_FULL, (decide (8184 ≤ s.repairCount)).toNat)]
        else if off = REPAIR_ENTRY_DATA.off then [(REPAIR_ENTRY_DATA, s.repairWord 0)]
        else if off = REPAIR_ENTRY_DATA.off + 4 then [(REPAIR_ENTRY_DATA.nth 1, s.repairWord 1)]
        else []
      | .lamp =>
        if off = LAMP_STATUS_LAMP0.off then [(LAMP_STATUS_LAMP0, s.lampState 0), (LAMP_STATUS_LAMP1, s.lampState 1)] else []
      | .shelf =>
        if off = SHELF_PROG_TIME_US.off then [(SHELF_PROG_TIME_US, min 65535 s.meanProgUs)]
        else if s.get page SHELF_NS_SEL_NS = 0 then
          [(SHELF_NS_BASE_LBA, (s.nsInfo 0).base), (SHELF_NS_LEN_BLOCKS, (s.nsInfo 0).len), (SHELF_NS_OWNER_PART, (s.nsInfo 0).part),
           (SHELF_NS_OWNER_VALID, (s.nsInfo 0).valid.toNat)].filter fun f => f.1.off == off
        else []
      | .tier =>
        if off = TIER_QUEUE_CORE.off then [(TIER_QUEUE_CORE, packed 6 ([0, 1, 2, 3].map s.tierDepth))]
        else if off = TIER_HOSTQ_DEPTH.off then [(TIER_HOSTQ_DEPTH, s.tierDepth 4)]
        else if off = TIER_SH_STATE_DIRTY.off then [(TIER_SH_STATE_DIRTY, s.shadowDirty (s.get page TIER_SH_SEL_ENTRY))]
        else []
      | .scale =>
        if off = SCALE_HIST_USED_ENTRIES.off then [(SCALE_HIST_USED_ENTRIES, s.histUsed (coreOf (s.get page SCALE_SEL_CORE)))] else []
      | .spin =>
        if off = SPIN_STATUS_SEEDED.off then [(SPIN_STATUS_SEEDED, packed 1 (allCores.map fun c => (s.core c).allSeeded.toNat))]
        else if off = SPIN_SRC_HEALTH_HEALTHY.off then
          [(SPIN_SRC_HEALTH_HEALTHY, packed 1 (s.spin.sources.toList.map fun x => x.healthy.toNat)),
           (SPIN_SRC_HEALTH_OFF, packed 1 (s.spin.sources.toList.map fun x => x.off.toNat))]
        else []
      | .weave =>
        if off = WEAVE_TIME_LO_WT.off then [(WEAVE_TIME_LO_WT, s.weave.wt.toNat)]
        else if off = WEAVE_TIME_HI_WT.off then [(WEAVE_TIME_HI_WT, s.weave.wt.toNat / 2 ^ 32)]
        else []
      | .mangle =>
        if off = MANGLE_G_EPOCH_EPOCH.off then [(MANGLE_G_EPOCH_EPOCH, s.groupEpoch (s.get page MANGLE_SEL_INDEX % 64))]
        else if off = MANGLE_EARLY_FLITS.off then [(MANGLE_EARLY_FLITS, min earlyFlits s.mangle.early.length)]
        else []
      | .press =>
        if off = PRESS_QUEUE_CORE.off then [(PRESS_QUEUE_CORE, packed 5 ([0, 1, 2, 3].map fun q => (s.pressQ q).length))] else []
      | .xring =>
        if off = XRING_HELD_RECORDS.off then [(XRING_HELD_RECORDS, (s.ring (s.get page XRING_SEL_RING)).held)] else []
      | .patch => s.patchShows off
      | .ctx =>
        if off = CTX_HELD_COUNT.off then
          [(CTX_HELD_COUNT, min 64 (if h : page - 0x080 < 64 then (s.ctx ⟨page - 0x080, h⟩).held.length else 0))]
        else []
      | .lint => s.lintShows off
      | _ => []

/-- The live word of the register at `off` of a page, as `path` sees it. -/
def State.liveWord (s : State) (path : Path) (page off : Nat) : Word :=
  (s.shows page off).foldl (fun w f => f.1.into w f.2) (s.word page (s.entryIdx path page off) off)

/-! Staged groups, R518. -/

/-- Whether a group of a page is touched. -/
def State.isTouched (s : State) (page g : Nat) : Bool := s.touched.contains (page, g)

/-- A staged word. -/
def State.stagedWord (s : State) (page off : Nat) : Word := Sparse.get resetOfKey s.staged (regKey page 0 off)

/-- The bits of the register at `off` that a predicate on fields covers. -/
def coverMask (k : Kind) (off : Nat) (p : Fld → Bool) : Word :=
  (((fieldsAt k off).filter p).map Fld.mask).foldl (· ||| ·) 0

/-- Bits that read as 0: those of write-only fields and of no field (00_scope.md R5, R6). -/
def readMask (k : Kind) (off : Nat) : Word := coverMask k off fun f => f.acc != .wo

/-- A word of a page that is not in reset, as a read returns it: RWS fields of a touched group read their staged copy
(R518), undefined offsets read 0 (R506). -/
def State.pageWord (s : State) (path : Path) (page off : Nat) : Word :=
  match kindOf page with
  | none => 0
  | some k =>
    let live := s.liveWord path page off
    let w := match k.groupAt off with
      | some g =>
        if s.isTouched page g then
          let m := coverMask k off fun f => f.acc == .rws
          (live &&& ~~~m) ||| (s.stagedWord page off &&& m)
        else live
      | none => live
    w &&& readMask k off

/-- A read of a register word as Lint's snapshot makes it: a page in reset reads all ones, and nothing is counted
(R505, R525; 17_lint.md R610). -/
def State.readWord (s : State) (path : Path) (page off : Nat) : Word :=
  if (kindOf page).isNone then 0
  else if s.inReset page then 0xFFFFFFFF
  else s.pageWord path page off

end Sys2Proof.Machine
end

