-- ==== Sys2Proof/Machine/Paths.lean ====
section
/-!
DEFINITION. An access on its way to a register: what every write meets before its register is decoded (14_pages.md R503-R508,
R517, R525).
-/
namespace Sys2Proof.Machine

open Reg

/-- A violation with its event: VF_DENIED logs the CTX page's VF_WRITE_DENIED (R516, R517). -/
def State.violation (s : State) (page : Nat) (f : Fld) (e : Ev) (path : Path) (off : Nat) : State :=
  (s.violate page f path off).raise page e (byPath path)

/-- The path that last wrote a page. -/
def State.lastPath (s : State) (page : Nat) (path : Path) : State :=
  (s.set page PAGE_STATUS_LAST_PATH path.code).set page PAGE_STATUS_LAST_VF path.vfNum

/-- An access to a page in reset: counted, recorded and logged (R525). -/
def State.resetAccess (s : State) (path : Path) (page : Nat) (write : Bool) : State :=
  if s.resets.cold then s
  else
    let s := (s.add Page.chip CHIP_RESET_DROP_COUNT 1).set Page.chip CHIP_RESET_LAST_PAGE page
    let s := (s.set Page.chip CHIP_RESET_LAST_PATH path.code).set Page.chip CHIP_RESET_LAST_WRITE write.toNat
    s.raise Page.chip Ev.RESET_ACCESS (byPath path)

/-- The header registers that a VF may write (R508). -/
def vfHeader : List Nat :=
  [PAGE_CTRL_INT_EN.off, INT_STATUS_STATUS.off, INT_ENABLE_ENABLE.off, COMMIT_APPLY.off, VIOLATION_LOCK_WRITE.off, SCRATCH_DATA.off]

/-- Whether a VF may write the register at `off` of its CTX page (R508). -/
def vfMay (off : Nat) : Bool :=
  vfHeader.contains off || (decide (CTX_SQ_ADDR.off ≤ off) && decide (off ≤ CTX_CQ_DB_HEAD.off))

/-- Whether a path reaches a page: a VF only its own CTX page (R507). -/
def reaches (path : Path) (page : Nat) : Bool :=
  match path with
  | .vf n => page == Page.ctx n.1
  | _ => true

/-- A write access: unassigned pages (R505), pages in reset (R525), partial writes (R503), undefined offsets (R506) and what a VF
may not write (R508) come before the write itself, which is `f`. -/
def State.writeAccess (s : State) (path : Path) (page off be : Nat) (f : State → State) : State :=
  if reaches path page = false then s
  else
    match kindOf page with
    | none => (s.add Page.chip CHIP_UNMAPPED_COUNT 1).raise Page.chip Ev.UNMAPPED_ACCESS (byPath path)
    | some k =>
      if s.inReset page then s.resetAccess path page true
      else if be % 16 ≠ 15 then
        (s.lastPath page path).violation page VIOLATION_PARTIAL Ev.PARTIAL_WRITE path off
      else if (fieldsAt k off).isEmpty then s
      else
        let s := s.lastPath page path
        match path with
        | .vf _ =>
          if vfMay off then f s else s.violation page VIOLATION_VF_DENIED Ev.VF_WRITE_DENIED path off
        | _ => f s

/-- A whole-word write of the register that `r` lies in. -/
def State.writeReg (s : State) (path : Path) (page : Nat) (r : Fld) (f : State → State) : State :=
  s.writeAccess path page r.off 15 f

/-- A read access: the word, and what reading it records (R525). -/
def State.readAccess (s : State) (path : Path) (page off : Nat) : Word × State :=
  if reaches path page = false then (0, s)
  else (s.readWord path page off, if (kindOf page).isSome && s.inReset page then s.resetAccess path page false else s)

end Sys2Proof.Machine
end

