-- ==== Sys2Proof/Machine/Lint.lean ====
section
/-!
DEFINITION. Lint, the event recorder (17_lint.md): the arbiter, records and snapshots, its own memory's failures, the mirror,
reading and clearing.
-/
namespace Sys2Proof.Machine

open Reg

/-! Sequence numbers and records, R601-R607. -/

/-- The last SEQ assigned. -/
def State.lintSeq (s : State) : Nat := s.pair Page.lint 0 LINT_SEQ_LO_SEQ LINT_SEQ_HI_SEQ

def State.setLintSeq (s : State) (n : Nat) : State :=
  (s.set Page.lint LINT_SEQ_LO_SEQ n).set Page.lint LINT_SEQ_HI_SEQ (n / 2 ^ 32)

/-- A record's 64 bytes (R604). -/
def Rec.bytes (r : Rec) : List Byte :=
  let flag (b : Bool) (i : Nat) : Nat := if b then 2 ^ i else 0
  leBytes 6 r.seq.toNat ++ leBytes 3 r.event.toNat ++
    [BitVec.ofNat 8 (r.sev % 8 + 8 + flag r.aligned 4 + flag r.repSat 5 + flag r.snapCut 6), r.trig,
     BitVec.ofNat 8 (r.args.length + 16 * r.snap.length)] ++
    leBytes 2 r.rep.toNat ++ leBytes 2 r.origin.toNat ++ leBytes 8 r.tFirst.toNat ++ leBytes 8 r.tLast.toNat ++
    slice (wordBytes (r.args ++ r.snap)) 0 32

/-- Where a record is held: in a slot of the store, or in an entry of the degraded ring. -/
inductive RecAt where
  | slot (k : Nat)
  | entry (k : Nat)
  deriving DecidableEq, Repr

/-- Every held record with its place. -/
def Lint.held (l : Lint) : List (RecAt × Rec) :=
  l.slots.map (fun x => (.slot x.1, x.2)) ++ l.ring.map (fun x => (.entry x.1, x.2))

/-- The most recent record: the valid one with the highest SEQ (R607). -/
def Lint.latest (l : Lint) : Option (RecAt × Rec) :=
  l.held.foldl (fun m x =>
    match m with
    | none => some x
    | some y => if y.2.seq.toNat < x.2.seq.toNat then some x else some y) none

/-- Put a record in its place. -/
def Lint.putRec (l : Lint) (a : RecAt) (r : Rec) : Lint :=
  match a with
  | .slot k => { l with slots := assocSet l.slots k r }
  | .entry k => { l with ring := assocSet l.ring k r }

def State.degraded (s : State) : Bool := s.flag Page.lint LINT_MODE_DEGRADED

/-- Count dropped events (R600, R602, R611, R621). -/
def State.lintDrop (s : State) : State := s.add Page.lint LINT_DROPPED_COUNT 1

/-! Lint's own memory, R620-R622. -/

/-- A slot is found uncorrectable: it is mapped out and its record is lost (R620, R621). -/
def State.lintMapOut (s : State) (slot : Nat) : State :=
  if 4096 ≤ slot ∨ s.lint.bad.contains slot then s
  else
    let s := s.updLint fun l => { l with slots := assocDel l.slots slot, bad := insertNat l.bad slot }
    let s := (s.set Page.lint LINT_LASTGASP_SLOT slot).set Page.lint LINT_LASTGASP_CODE (if s.degraded then 2 else 1)
    let s := (s.latch Page.lint 8).raise Page.lint Ev.LOG_STORE_FAULT byBlock (arg slot)
    if 1024 < s.lint.bad.length ∧ s.degraded = false then
      ((s.set Page.lint LINT_MODE_DEGRADED 1).set Page.lint LINT_LASTGASP_CODE 2).raise Page.lint Ev.LOG_DEGRADED
    else s

/-! New records, R602-R612. -/

/-- The registers that entry `e` of the trigger table names: page and offset (R609, R629). -/
def State.trigRegs (s : State) (e : Nat) : List (Nat × Nat) :=
  (List.range (s.getI Page.lintsnap e LINTSNAP_MATCH_NREG)).map fun n =>
    (s.getI Page.lintsnap e (LINTSNAP_REG_PAGE.nth n), 4 * s.getI Page.lintsnap e (LINTSNAP_REG_WORD.nth n))

/-- The lowest-numbered VALID entry that matches an event (R609). -/
def State.trigOf (s : State) (event : Nat) : Option Nat :=
  (List.range 64).find? fun e =>
    let m := s.getI Page.lintsnap e LINTSNAP_MATCH_EVENT
    s.getI Page.lintsnap e LINTSNAP_MATCH_VALID == 1 &&
      (if s.getI Page.lintsnap e LINTSNAP_MATCH_PAGE_ONLY = 1 then m / 4096 == event / 4096 else m == event)

/-- A new record of an event with its snapshot, read as path code 3 reads (R603, R604, R609, R610). -/
def State.lintRec (s : State) (x : Event) (seq : Nat) : Rec :=
  let args := x.args.take 8
  let (trig, regs) := match s.trigOf x.id.toNat with
    | some e => (e, s.trigRegs e)
    | none => (0xFF, [])
  let room := 8 - args.length
  { seq := BitVec.ofNat 48 seq, event := x.id, sev := x.sev, aligned := s.aligned, repSat := false,
    snapCut := decide (room < regs.length), trig := BitVec.ofNat 8 trig, rep := 0, origin := x.origin,
    tFirst := s.weave.wt, tLast := s.weave.wt, args := args,
    snap := (regs.take room).map fun r => s.readWord .fw r.1 r.2 }

/-- The place of a new record: the lowest empty one, or the one of the lowest SEQ that it may overwrite: a lower severity in the
store (R611), one below FATAL in the degraded ring (R621). -/
def State.lintPlace (s : State) (sev : Nat) : Option RecAt :=
  let lowest (l : List (Nat × Rec)) : Option Nat :=
    (l.foldl (fun (m : Option (Nat × Rec)) x =>
      match m with
      | none => some x
      | some y => if x.2.seq.toNat < y.2.seq.toNat then some x else some y) none).map (·.1)
  if s.degraded then
    match (List.range 16).find? (fun k => (assocGet s.lint.ring k).isNone) with
    | some k => some (.entry k)
    | none => (lowest (s.lint.ring.filter fun x => decide (x.2.sev < 5))).map .entry
  else
    match (List.range 4096).find? (fun k => (assocGet s.lint.slots k).isNone && !s.lint.bad.contains k) with
    | some k => some (.slot k)
    | none => (lowest (s.lint.slots.filter fun x => decide (x.2.sev < sev))).map .slot

/-- The event takes the next SEQ, whether its record is written or dropped (R611, R612). -/
def State.lintWrite (s : State) (x : Event) : State :=
  let seq := s.lintSeq + 1
  let r := s.lintRec x seq
  let s := s.setLintSeq seq
  match s.lintPlace x.sev with
  | some a => s.updLint fun l => l.putRec a r
  | none => s.lintDrop

/-- An event of the LINT page that takes the next record without waiting in a buffer (R602, R626): its interrupt and ALERT_N
effects. -/
def State.announce (s : State) (e : Ev) : State :=
  let s := s.latch Page.lint e.sev
  let s := if e.sev = 5 then s.set Page.chip CHIP_STATUS_FATAL_SEEN 1 else s
  s.alert Page.lint e

/-- The LINT page's own event. -/
def lintEvent (e : Ev) (org : BitVec 16) (args : List Word) : Event :=
  ⟨BitVec.ofNat 24 (Page.lint * 4096 + e.num), e.sev, org, args⟩

/-- An event needs a new record. The record of SEQ 2^48 - 1 is SEQ_EXHAUSTED, and none is made after it (R602). -/
def State.lintNew (s : State) (x : Event) : State :=
  if s.flag Page.lint LINT_MODE_SEQ_EXHAUSTED then s.lintDrop
  else if s.lintSeq + 1 = 2 ^ 48 - 1 then
    ((s.lintDrop.set Page.lint LINT_MODE_SEQ_EXHAUSTED 1).announce Ev.SEQ_EXHAUSTED).lintWrite
      (lintEvent Ev.SEQ_EXHAUSTED byBlock [])
  else s.lintWrite x

/-- One more occurrence merges into the most recent record (R607). -/
def Rec.again (r : Rec) (wt : Dword) : Rec :=
  if r.rep = 0xFFFF then { r with repSat := true, tLast := wt } else { r with rep := r.rep + 1, tLast := wt }

/-- The arbiter takes an event (R599, R607, R621, R622). -/
def State.lintTake (s : State) (x : Event) : State :=
  if s.degraded ∧ x.sev < 4 then s.lintDrop
  else
    match s.lint.latest with
    | some (a, r) =>
      if r.event = x.id ∧ r.sev = x.sev ∧ r.origin = x.origin then s.updLint fun l => l.putRec a (r.again s.weave.wt)
      else s.lintNew x
    | none => s.lintNew x

/-- LINT_ACCEPT: the arbiter takes the oldest event of a page's buffer; `upset` are the slots that its reads find uncorrectable
(R599, R600, R620). -/
def execLintAccept (page : BitVec 12) (upset : List Nat) (s : State) : Host.Outcome State Fault Refusal :=
  .next (match assocGet s.lint.bufs page.toNat with
    | some (x :: r) =>
      let s := s.updLint fun l => { l with bufs := if r.isEmpty then assocDel l.bufs page.toNat else assocSet l.bufs page.toNat r }
      (eachOf upset (fun k s => s.lintMapOut k) s).lintTake x
    | _ => s)

/-! The mirror, R614-R618; R619 stands with the tier controller's checks. -/

/-- Namespace 0's block of tile `i` of a mirror image: the ring of 64 images of 65 tiles begins at block 0 (log 31). -/
def imageBlock (image i : Nat) : Nat := 65 * image + i

/-- Write a mirror tile, sealed with a zero side record (06_tiers.md R198; log 31). -/
def State.mirrorTile (s : State) (image i : Nat) (data : List Byte) : State :=
  s.shelfWrite (imageBlock image i) data (sealSide data [])

/-- The 64 slots of a tile; an empty slot reads as zeros (R604, R615). -/
def Lint.tile (l : Lint) (i : Nat) : List Byte :=
  (List.range 64).flatMap fun k =>
    match assocGet l.slots (64 * i + k) with
    | some r => r.bytes
    | none => List.replicate 64 0

/-- The header tile's items in the order of R615, each at an offset of the model's, the 16 entries of the degraded ring in its
last KiB (log 31). -/
def State.mirrorHeader (s : State) : List Byte :=
  let seqs := s.lint.held.map fun x => x.2.seq.toNat
  let low := match seqs with
    | [] => 0
    | x :: r => r.foldl min x
  let items := leBytes 8 Config.lintMagic ++ leBytes 8 (s.pair Page.chip 0 CHIP_SERIAL_LO_SERIAL CHIP_SERIAL_HI_SERIAL) ++
    leBytes 8 s.lint.boot ++ leBytes 8 s.lint.warms ++ leBytes 8 s.lint.image ++ leBytes 8 s.weave.wt.toNat ++
    leBytes 8 low ++ leBytes 8 (seqs.foldl max 0) ++ leBytes 8 (s.get Page.lint LINT_DROPPED_COUNT) ++
    leBytes 8 (s.word Page.lint 0 LINT_LASTGASP_CODE.off).toNat
  slice items 0 3072 ++ (List.range 16).flatMap fun k =>
    match assocGet s.lint.ring k with
    | some r => r.bytes
    | none => List.replicate 64 0

/-- A mirror ends in failure (R617). -/
def State.mirrorFail (s : State) (st : Status) : State :=
  let s := (s.setStatus Page.lint LINT_MIRROR_STATUS_STATUS st).set Page.lint LINT_MIRROR_STATUS_IMAGE s.lint.image
  s.raise Page.lint Ev.MIRROR_FAIL byBlock (arg st.code)

/-- A mirror begins: the slots are copied, in slot order; one that cannot complete ends (R614, R616, R617, R620). -/
def State.mirrorBegin (s : State) (upset : List Nat) : State :=
  if s.shelfRo then s
  else if s.inReset Page.tier then s.mirrorFail .resetNack
  else if s.flag Page.shelf PAGE_STATUS_READY = false then s.mirrorFail .notReady
  else
    let s := eachOf upset (fun k s => s.lintMapOut k) s
    let l := s.lint
    let s := eachOf (List.range 64) (fun i s => s.mirrorTile l.image (i + 1) (l.tile i)) s
    s.set Page.lint LINT_MODE_MIRROR_BUSY 1

/-- LINT_MIRROR: a trigger (R614). MIRROR_EN clear stops all but the power-fail mirror (R617). -/
def execLintMirror (upset : List Nat) (s : State) : Host.Outcome State Fault Refusal :=
  .next (if s.resets.cold then s
    else if s.flag Page.lint LINT_CTRL_MIRROR_EN = false ∧ s.get Page.pwr PWR_FAIL_STEP = 0 then s
    else if s.flag Page.lint LINT_MODE_MIRROR_BUSY then s.updLint fun l => { l with again := true }
    else s.mirrorBegin upset)

/-! Clearing, R625, R626. -/

/-- A clear runs as one step: records up to `upto` are discarded, and CLEARED takes the next SEQ. -/
def State.lintClear (s : State) (path : Path) (upto : Nat) : State :=
  let keep (x : Nat × Rec) : Bool := decide (upto < x.2.seq.toNat)
  let before := s.lint.held.length
  let s := s.updLint fun l => { l with slots := l.slots.filter keep, ring := l.ring.filter keep, clear := none }
  let n := before - s.lint.held.length
  let x := lintEvent Ev.CLEARED (byPath path) (arg n ++ arg64 upto ++ arg (s.get Page.lint LINT_DROPPED_COUNT))
  let s := (s.announce Ev.CLEARED).lintNew x
  let s := (s.set Page.lint LINT_DROPPED_COUNT 0).set Page.lint LINT_FILTERED_COUNT 0
  s.setStatus Page.lint LINT_CLEAR_STATUS_STATUS .ok

/-- A write of LINT_CLEAR.REQ (R625, R626): refused without the clear authorisation, and waiting while a mirror runs. -/
def State.clearRequest (s : State) (path : Path) : State :=
  if s.flag Page.access ACCESS_STATE_CLEAR_AUTH = false then
    (s.setStatus Page.lint LINT_CLEAR_STATUS_STATUS .authFail).raise Page.lint Ev.CLEAR_DENIED (byPath path) (arg path.code)
  else
    let upto := s.pair Page.lint 0 LINT_CLEAR_UPTO_LO_SEQ LINT_CLEAR_UPTO_HI_SEQ
    if s.flag Page.lint LINT_MODE_MIRROR_BUSY then s.updLint fun l => { l with clear := some (path, BitVec.ofNat 48 upto) }
    else s.lintClear path upto

/-- LINT_CLEAR: a write of LINT_CLEAR.REQ. -/
def execLintClear (path : Path) (s : State) : Host.Outcome State Fault Refusal :=
  .next (s.writeReg path Page.lint LINT_CLEAR_REQ fun s => s.clearRequest path)

/-- READ_ONLY_PRESERVE stops a running mirror, whose image stays incomplete; a waiting clear request acts (R615, R617, R626;
06_tiers.md R238). -/
def State.stopMirror (s : State) : State :=
  if s.flag Page.lint LINT_MODE_MIRROR_BUSY = false then s
  else
    let s := (s.set Page.lint LINT_MODE_MIRROR_BUSY 0).updLint fun l => { l with again := false }
    match s.lint.clear with
    | some (path, upto) => s.lintClear path upto.toNat
    | none => s

/-- BLOCK_RETIRED: a NAND block is retired (06_tiers.md R234-R237); the one that brings READ_ONLY_PRESERVE stops Lint's mirror
(R238). -/
def execBlockRetired (blk : Nat) (progUs : BitVec 16) (s : State) : Host.Outcome State Fault Refusal :=
  let s := s.retire blk progUs.toNat
  .next (if s.shelfRo then s.stopMirror else s)

/-- The running mirror ends, well or with the failure `fail`; a waiting clear request acts, and an event asks for another
mirror (R614-R619). -/
def State.mirrorEnd (s : State) (fail : Option Status) : State :=
  if s.flag Page.lint LINT_MODE_MIRROR_BUSY = false then s
  else
    let s := s.set Page.lint LINT_MODE_MIRROR_BUSY 0
    let s := match fail with
      | some st => s.mirrorFail st
      | none =>
        let s := s.mirrorTile s.lint.image 0 s.mirrorHeader
        let s := (s.setStatus Page.lint LINT_MIRROR_STATUS_STATUS .ok).set Page.lint LINT_MIRROR_STATUS_IMAGE s.lint.image
        (s.add Page.lint LINT_MIRRORS_COUNT 1).updLint fun l => { l with image := (l.image + 1) % 64 }
    let s := match s.lint.clear with
      | some (path, upto) => s.lintClear path upto.toNat
      | none => s
    if s.lint.again then (s.updLint fun l => { l with again := false }).mirrorBegin [] else s

/-- LINT_MIRROR_END: the header tile is written last; or the mirror fails with a status. A waiting clear runs, and one further
mirror starts when a trigger came meanwhile (R614, R615, R617, R626). -/
def execLintMirrorEnd (fail : Option Status) (s : State) : Host.Outcome State Fault Refusal := .next (s.mirrorEnd fail)

/-- The items of an image's header that say which is newest, when the tile checks: BOOT, WARMS, WT, image number (R615, R618). -/
def headerItems (b : List Byte × List Byte) : Option (Nat × Nat × Nat × Nat) :=
  if sideOk b.1 b.2 && field b.1 0 8 == Config.lintMagic % 2 ^ 64 then
    some (field b.1 16 8, field b.1 24 8, field b.1 40 8, field b.1 32 8)
  else none

/-- Whether one header is older than another. -/
def olderImage (a b : Nat × Nat × Nat × Nat) : Bool :=
  decide (a.1 < b.1) || (a.1 == b.1 && (decide (a.2.1 < b.2.1) || (a.2.1 == b.2.1 && decide (a.2.2.1 < b.2.2.1))))

/-- Read the ring's headers: the newest valid one; the reads of the images in `bad` stay uncorrectable (06_tiers.md R233). -/
def State.newestImage (bad : List Nat) : (n : Nat) → State → Option (Nat × Nat × Nat × Nat) × State
  | 0, s => (none, s)
  | n + 1, s =>
    let (best, s) := State.newestImage bad n s
    let (b, s) := s.shelfRead (imageBlock n 0) (bad.contains n)
    match b.bind headerItems, best with
    | none, _ => (best, s)
    | some h, none => (some h, s)
    | some h, some o => (some (if olderImage o h then h else o), s)

/-- LINT_SHELF_READY: the Shelf is READY for the first time after cold reset; BOOT is set and the next image follows the newest
(R618). -/
def execLintShelfReady (bad : List Nat) (s : State) : Host.Outcome State Fault Refusal :=
  .next (if s.lint.shelfOk ∨ s.inReset Page.shelf ∨ s.flag Page.shelf PAGE_STATUS_READY = false then s
    else
      let (h, s) := State.newestImage bad 64 s
      s.updLint fun l =>
        match h with
        | some x => { l with shelfOk := true, boot := x.1 + 1, image := (x.2.2.2 + 1) % 64 }
        | none => { l with shelfOk := true, boot := 1, image := 0 })

/-! Reading, R624. -/

/-- A write of LINT_RD_SEL latches a slot or ring entry into the path's copy; `upset` says that the slot's read is
uncorrectable (R620, R624). -/
def State.lintLatch (s : State) (path : Path) (val : Word) (upset : Bool) : State :=
  let i := path.code
  let slot := LINT_RD_SEL_SLOT.of val
  let ring := LINT_RD_SEL_RING.of val == 1
  let s := if upset ∧ ring = false then s.lintMapOut slot else s
  let (st, r) : Status × Option Rec :=
    if ring then (if 16 ≤ slot then (.param, none) else (.ok, if s.degraded then assocGet s.lint.ring slot else none))
    else if s.lint.bad.contains slot then (.eccFatal, none)
    else (.ok, assocGet s.lint.slots slot)
  let b := match r with
    | some r => r.bytes
    | none => List.replicate 64 0
  let s := (s.setI Page.lint i LINT_RD_SEL_SLOT slot).setI Page.lint i LINT_RD_SEL_RING ring.toNat
  let s := s.setI Page.lint i LINT_RD_STATUS_STATUS st.code
  eachOf (List.range 16) (fun n s => s.setI Page.lint i (LINT_RD_DATA_DATA.nth n) (field b (4 * n) 4)) s

/-- LINT_RD_SEL_WRITE: a write to LINT_RD_SEL. -/
def execLintRdSelWrite (path : Path) (val : Word) (upset : Bool) (s : State) : Host.Outcome State Fault Refusal :=
  .next (s.writeReg path Page.lint LINT_RD_SEL_SLOT fun s => s.lintLatch path val upset)

/-! LINT_LASTGASP and the trigger table. -/

/-- LASTGASP_ACK: clears CODE and releases its ALERT_N cause (R627). -/
def State.gaspAck (s : State) : State := s.set Page.lint LINT_LASTGASP_CODE 0

def execLastgaspAck (path : Path) (s : State) : Host.Outcome State Fault Refusal :=
  .next (s.writeReg path Page.lint LINT_LASTGASP_ACK fun s => s.gaspAck)

/-- The checks of a LINTSNAP COMMIT (R629). -/
def snapCheck (w : Word) : Status :=
  if 8 < LINTSNAP_MATCH_NREG.of w ∨ (LINTSNAP_MATCH_PAGE_ONLY.of w = 1 ∧ LINTSNAP_MATCH_EVENT.of w % 4096 ≠ 0) then .mismatch
  else .ok

end Sys2Proof.Machine
end

