-- ==== Sys2Proof/Machine/Resets.lean ====
section
/-!
DEFINITION. Reset domains, requests, bring-up, boot images and firmware swap (16_reset.md), and function-level reset
(14_pages.md R536).
-/
namespace Sys2Proof.Machine

open Reg

/-! Function-level reset, 14_pages.md R536. -/

/-- What the FLR of a VF does to its context: the queue group is disabled, commands in progress end ABORTED into nowhere and are
counted, held completions go, and later ones, those that wait for room among them, are discarded and counted. -/
def State.flrCtx (s : State) (n : CtxId) : State :=
  let kept := (s.ctx n).kept
  let gone := (s.ctx n).cmds.length + kept.length
  let s := s.set (Page.ctx n.1) CTX_QCTRL_ENABLE 0
  let s := s.updCtx n fun x => { x with cmds := [], held := [], kept := [], flr := true }
  let s := eachOf kept (fun k s => s.endKept k) s
  let drop (d : Desc) : Desc := if d.ctx = some n then { d with ctx := none } else d
  let s := s.updTier fun t => { t with queues := t.queues.map fun (l : List Desc) => l.map drop, hold := t.hold.map drop }
  let s := s.updEng fun e => { e with press := e.press.map fun (l : List Desc) => l.map drop }
  s.add Page.hostif HOSTIF_FLR_COUNT gone

/-- What a PF FLR does: VF Enable clears, and every VF is treated as by its own FLR. -/
def State.flrPf (s : State) : State :=
  eachOf allCtxs (fun n s => s.flrCtx n) (s.set Page.hostif HOSTIF_SRIOV_VF_EN 0)

/-- VF_FLR: the function number of VF n is n + 1 (R533). -/
def execVfFlr (vf : CtxId) (s : State) : Host.Outcome State Fault Refusal :=
  .next (if s.resets.cold then s
    else (s.flrCtx vf).raise Page.hostif Ev.FLR (byPath (.vf vf)) (arg (vf.1 + 1)))

/-- PF_FLR. -/
def execPfFlr (s : State) : Host.Outcome State Fault Refusal :=
  .next (if s.resets.cold then s else s.flrPf.raise Page.hostif Ev.FLR (byPath .pf) (arg 0))

/-! Replies on the management path, 18_access.md R633; through the mailbox, 14_pages.md R535. -/

/-- Write bytes into HOSTIF_MBOX_DATA from its first word. -/
def State.mboxWrite (s : State) (b : List Byte) : State :=
  eachOf (List.range ((b.length + 3) / 4)) (fun n s => s.set Page.hostif (HOSTIF_MBOX_DATA_DATA.nth n) (field b (4 * n) 4)) s

/-- The chip answers a request; one that came through the mailbox has its reply there. -/
def State.reply (s : State) (op : Nat) (tag : Byte) (st : Status) (data : List Byte) : State :=
  let b := leBytes 1 (op + 0x80) ++ [tag] ++ leBytes 1 st.code ++ [0] ++ data
  let s := s.updMgmt fun m => { m with reply := b }
  if s.mgmt.mboxBusy then
    let s := (s.updMgmt fun m => { m with mboxBusy := false }).mboxWrite b
    let s := (s.set Page.hostif HOSTIF_MBOX_STATUS_LEN (min 256 b.length)).setStatus Page.hostif HOSTIF_MBOX_STATUS_STATUS .ok
    (s.set Page.hostif HOSTIF_MBOX_STATUS_REPLY 1).latch Page.hostif 8
  else s

/-! Images, R589, R590; 01_machine.md R16. -/

/-- Whether an image is valid for its position: header `h`, `body` by length, and the room for it. The bound on LENGTH comes
first. -/
def imageValid (magic room : Nat) (h : List Byte) (body : Nat → List Byte) : Bool :=
  let len := field h 8 4
  field h 0 4 == magic && decide (len ≤ room) && sha256 (body len) == slice h 16 32 &&
    ecdsaOk Config.bootKeyX Config.bootKeyY (sha256 (slice h 0 48)) (beNat (slice h 48 32)) (beNat (slice h 80 32))

abbrev mgmtMagic : Nat := 0x57424D31
abbrev tierMagic : Nat := 0x57425431

/-- Where a boot image lies in the NOR, and its size. -/
def imageBase (i : Nat) : Nat := i * 0x01800000
abbrev imageSize : Nat := 24 * 2 ^ 20

/-- Zero bits among bits [2:0] of TRIES. -/
def triesOf (b : Nat) : Nat := ([0, 1, 2].filter fun i => !b.testBit i).length

/-- TRIES with one further zero bit, the lowest that is set. -/
def oneMoreTry (b : Nat) : Nat :=
  match [0, 1, 2].find? (fun i => b.testBit i) with
  | some i => b - 2 ^ i
  | none => b

/-- A boot image that may be booted: its number, SEQ, whether it is TRIAL, and its TRIES byte. -/
structure BootImg where
  num   : Nat
  seq   : Nat
  trial : Bool
  tries : Nat
  deriving DecidableEq, Repr

def State.bootImg (s : State) (i : Nat) : Option BootImg :=
  let h := s.nor.read (imageBase i) 256 norFill
  let x : BootImg := ⟨i, field h 4 4, field h 112 1 != 0, field h 113 1⟩
  if imageValid mgmtMagic (imageSize - 256) h (fun n => s.nor.read (imageBase i + 256) n norFill) && !(x.trial && triesOf x.tries == 3)
  then some x
  else none

/-- The boot ROM's choice (R590): the higher SEQ, image A among equals. -/
def State.bootChoice (s : State) : Option BootImg :=
  match s.bootImg 0, s.bootImg 1 with
  | some a, some b => if a.seq < b.seq then some b else some a
  | a, b => a.or b

/-- The pages that wait for the management core. -/
def mgmtPages : List Nat := [Page.mgmt, Page.cal, Page.repair]

/-- The management core boots, or the chip stays in the boot ROM and asserts ALERT_N (R590). -/
def State.boot (s : State) : State :=
  match s.bootChoice with
  | none =>
    let s : State := { s with pins := { s.pins with bootAlert := true } }
    (s.set Page.chip CHIP_STATUS_MGMT_UP 0).raise Page.chip Ev.BOOT_FAIL
  | some x =>
    let s : State := { s with pins := { s.pins with bootAlert := false } }
    let s := if x.trial then
        { s with nor := s.nor.setByte (imageBase x.num + 113) (BitVec.ofNat 8 (oneMoreTry x.tries)) norFill }
      else s
    let s := (s.set Page.chip CHIP_STATUS_MGMT_UP 1).set Page.mgmt MGMT_FW_IMAGE x.num
    let s := (s.set Page.mgmt MGMT_FW_TRIAL x.trial.toNat).set Page.mgmt MGMT_FW_SEQ_SEQ x.seq
    (eachOf mgmtPages (fun p s => s.set p PAGE_STATUS_READY 1) s).raise Page.chip Ev.BOOT_IMAGE byBlock (arg x.num ++ arg x.seq)

/-! Ports, the tier controller, Mangle and the management core: entering and leaving reset (R575-R585). -/

/-- Note the cause of a unit's reset, and forget it at its exit. -/
def State.causeIn (s : State) (domain unit cause : Nat) : State :=
  s.updResets fun r => { r with causes := assocSet r.causes (domain, unit) cause }
def State.causeOf (s : State) (domain unit : Nat) : Nat := (assocGet s.resets.causes (domain, unit)).getD causeRequest
def State.causeOut (s : State) (domain unit : Nat) : State :=
  s.updResets fun r => { r with causes := assocDel r.causes (domain, unit) }

/-- A port enters reset (R576, R578). -/
def State.enterPort (s : State) (p : PortId) (cause : Nat) : State :=
  let s := ((s.resetEvent Ev.RESET_ENTER 3 (2 ^ p.1) cause).resetPort p).resetBlock (Page.link p.1)
  (s.updResets fun r => { r with port := r.port ||| BitVec.ofNat 12 (2 ^ p.1) }).causeIn 3 p.1 cause

def State.leavePort (s : State) (p : PortId) : State :=
  let cause := s.causeOf 3 p.1
  let s := (s.updResets fun r => { r with port := r.port &&& ~~~(BitVec.ofNat 12 (2 ^ p.1)) }).causeOut 3 p.1
  (s.set (Page.link p.1) PAGE_STATUS_READY 1).resetEvent Ev.RESET_EXIT 3 (2 ^ p.1) cause

/-- Registers of SHELF that hold its metadata, READ_ONLY_PRESERVE and the namespaces included (R576; 06_tiers.md R239, R241;
log 33). -/
def shelfKept : List Nat :=
  [SHELF_STATE_RO_PRESERVE.off, SHELF_WEAR_WEAR_PCT.off, SHELF_RETIRED_BLOCKS.off, SHELF_NS_BASE_LBA.off, SHELF_NS_LEN_BLOCKS.off,
   SHELF_NS_OWNER_PART.off, SHELF_NS_STATE_CLEARING.off]

/-- Registers of DRAM that say what DRAM holds. -/
def dramKept : List Nat := [DRAM_STATUS_TRAINED.off, DRAM_POISON_ENTRIES.off]

/-- The tier controller enters reset: its write buffer is committed first (R577), every descriptor that it holds ends
RESET_NACK (R583), and every page of an ACTIVE shadow entry is dirty (R576). -/
def State.enterTier (s : State) (cause : Nat) : State :=
  let s := (s.resetEvent Ev.RESET_ENTER 4 0 cause).flushBuffer
  let s := eachOf (List.finRange 5) (fun q s => s.abortTier q (fun _ => true) .resetNack) s
  let s := eachOf (List.range 16) (fun e s =>
    if s.getI Page.tier e TIER_SH_STATE_STATE = 1 then
      s.updTier fun t => { t with dirty := (s.shadowPages e).foldl insertNat t.dirty }
    else s) s
  let s := s.updTier fun t => { t with remote := [], hold := [], swapping := false, progUs := [] }
  let s := (s.resetBlock Page.dram dramKept).resetBlock Page.shelf shelfKept
  let s := s.resetBlock Page.tier
    [TIER_SH_DRAM_BASE.off, TIER_SH_PAGES_PAGES.off, TIER_SH_NS_NSID.off, TIER_SH_LBA_LBA.off, TIER_SH_STATE_STATE.off]
  (s.updResets fun r => { r with tier := true }).causeIn 4 0 cause

def State.leaveTier (s : State) : State :=
  let cause := s.causeOf 4 0
  let s := (s.updResets fun r => { r with tier := false }).causeOut 4 0
  let s := eachOf [Page.dram, Page.shelf, Page.tier] (fun p s => s.set p PAGE_STATUS_READY 1) s
  s.resetEvent Ev.RESET_EXIT 4 0 cause

/-- Mangle enters reset: every outstanding collective completes RESET_NACK, its slot EMPTY (R576, R583). -/
def State.enterMangle (s : State) (cause : Nat) : State :=
  let s := s.resetEvent Ev.RESET_ENTER 6 0 cause
  let s := eachOf s.mangle.colls (fun x s =>
    if (s.core x.core).life = x.life then s.tagEnd x.core (Handle.of x.th).bslot .resetNack
    else s.raise Page.chip Ev.REPLY_DISCARDED (byCore x.core)) s
  let s := (({ s with mangle := ⟨[], [], [], []⟩ } : State).setEarly id).resetBlock Page.mangle
  (s.updResets fun r => { r with mangle := true }).causeIn 6 0 cause

def State.leaveMangle (s : State) : State :=
  let cause := s.causeOf 6 0
  let s := (s.updResets fun r => { r with mangle := false }).causeOut 6 0
  (s.set Page.mangle PAGE_STATUS_READY 1).resetEvent Ev.RESET_EXIT 6 0 cause

/-- The management core stops: the watch table and the pending candidates go (R576), a reply not yet sent is lost (R584). -/
def State.stopMgmt (s : State) : State :=
  let quiet := s.get Page.mgmt MGMT_QSC_QUIESCED
  let s := (s.updEcc fun e => { e with watch := [] }).dropCands fun _ => true
  let s := (s.updResets fun r => { r with reply := none }).updMgmt fun m => { m with mboxBusy := false }
  let s := (s.resetBlock Page.mgmt [MGMT_STATUS_ADDR.off]).resetBlock Page.cal [CAL_STATUS_PAGE_OK.off, CAL_DATA_DATA.off]
  let s := (s.resetBlock Page.repair).set Page.mgmt MGMT_QSC_QUIESCED quiet
  s.set Page.chip CHIP_STATUS_MGMT_UP 0

/-- The management core enters reset (R576, R592). -/
def State.enterMgmt (s : State) (cause : Nat) : State :=
  let s := (s.resetEvent Ev.RESET_ENTER 5 0 cause).stopMgmt
  (s.updResets fun r => { r with mgmt := true }).causeIn 5 0 cause

/-- The management core leaves reset and boots (R590). -/
def State.leaveMgmt (s : State) : State :=
  let cause := s.causeOf 5 0
  let s := (s.updResets fun r => { r with mgmt := false }).causeOut 5 0
  s.boot.resetEvent Ev.RESET_EXIT 5 0 cause

/-! Warm reset, R575, R576. -/

/-- The registers of a page that a warm reset leaves as they are, beside locked and write-once ones: what its table keeps, what
stands for a memory or a fuse that it keeps, and the state of clocks and lines that it does not reach (log 33). -/
def warmKept (page : Nat) : List Nat :=
  match kindOf page with
  | some .chip => [CHIP_STATUS_FATAL_SEEN.off, CHIP_XMEM_SEGMENTS.off]
  | some .clk => [CLK_STATUS_GEAR.off]
  | some .pwr => [PWR_FAIL_LAST_US.off, PWR_AVS_VOLT.off]
  | some .mgmt => [MGMT_STATUS_ADDR.off]
  | some .access => [ACCESS_STATE_PW_SET.off]
  | some .cal => [CAL_STATUS_PAGE_OK.off, CAL_DATA_DATA.off]
  | some .cmem => [CMEM_SPARE_LO_USED.off, CMEM_SPARE_HI_USED.off, CMEM_DARN_PEND_MAPPED_OUT.off]
  | some .xmem => XMEM_HEALTH_BANKS_OUT.off :: (List.range 4).map fun n => (XMEM_WITHHELD_SEG.nth n).off
  | some .dram => dramKept
  | some .shelf => shelfKept
  | some .lint =>
    (List.range 8).map (fun n => LINT_CTRL_MIN_SEV.off + 4 * n) ++
      [LINT_CLEAR_STATUS_STATUS.off, LINT_MIRROR_STATUS_STATUS.off, LINT_MIRRORS_COUNT.off]
  | _ => []

/-- The clocks after a warm reset: the gear and its grid go on, weave time starts again, and requests and limits take their
reset values. -/
def State.warmClock (s : State) : Clock :=
  { Clock.reset with
    runGear := s.gear
    anchor := s.clock.anchor - s.weave.wt.toNat
    stretched := s.clock.stretched }

/-- The chip enters warm reset (R575, R576): the write buffer is committed (R577), every function is treated as by a PF FLR,
what the domain clears is cleared, and access closes (18_access.md R645). -/
def State.enterWarm (s : State) (cause : Nat) : State :=
  let s := ((s.resetEvent Ev.RESET_ENTER 1 0 cause).flushBuffer).flrPf
  let s := s.stopMgmt
  let clock := s.warmClock
  let s := eachOf (allPages.filter (· != Page.hostif)) (fun p s => s.resetBlock p (warmKept p)) s
  let s := (s.set Page.clk CLK_STATUS_LOCKED 1).restartSources false
  let s : State :=
    { s with
      xmem := []
      cores := s.cores.map fun k => { Core.reset with life := k.life + 1 }
      scale := []
      ecc := { s.ecc with upset := [], ueRows := [], cleanRun := [], cmemTest := 0, xmemTest := none }
      xcache := ⟨0, 0⟩
      tier := { s.tier with queues := Vector.replicate 5 [], hold := [], swapping := false, remote := [], dirty := [], progUs := [] }
      spin := { s.spin with action := none }
      ports := Vector.replicate 12 Port.reset
      weave := ⟨0, 0, none, none, []⟩
      mangle := ⟨[], [], [], []⟩
      hangers := Vector.replicate 16 Hanger.reset
      eng := ⟨Vector.replicate 5 [], Vector.replicate 4 [], Vector.replicate 4 [], [], []⟩
      serving := Vector.replicate 16 Serving.reset
      evict := none
      ctxs := Vector.replicate 64 { Ctx.reset with flr := true }
      clock := clock
      resets := { cold := false, warm := true, core := 0, port := 0, tier := false, mgmt := false, mangle := false,
                  reply := none, queued := [], causes := [((1, 0), cause)] }
      lint := { s.lint with warms := s.lint.warms + 1 }
      mgmt := { s.mgmt with nonce := false, pwFailAt := none, tries := Vector.replicate 8 0, sig := Vector.replicate 16 0,
                            stuck := false } }
  let s := eachOf s.withheldSegs (fun g s => s.setSeg g 3 0) s
  let s := (s.set Page.access ACCESS_STATE_LEVEL 0).set Page.access ACCESS_STATE_CLEAR_AUTH 0
  s.raise Page.access Ev.CLOSED

/-- The chip leaves warm reset; the management core boots with it. -/
def State.leaveWarm (s : State) : State :=
  let cause := s.causeOf 1 0
  let s := (s.updResets fun r => { r with warm := false }).causeOut 1 0
  let s := eachOf (allPages.filter fun p => !mgmtPages.contains p) (fun p s => s.set p PAGE_STATUS_READY 1) s
  s.boot.resetEvent Ev.RESET_EXIT 1 0 cause

/-! Cold reset and bring-up, R575, R576, R587. -/

/-- The chip enters cold reset: the Shelf with its metadata, the SPI NOR, the fuses and what lies outside the chip stay. -/
def State.enterCold (s : State) : State :=
  let s := s.flushBuffer
  let kept (e : Nat × Word) : Bool := e.1 / 2 ^ 28 == Page.shelf && shelfKept.contains (e.1 % 2 ^ 12)
  { State.reset with
    regs := s.regs.filter kept
    nor := s.nor, host := s.host, rack := s.rack, free := s.free, pending := s.pending
    tier := { State.reset.tier with
      shelf := s.tier.shelf, nand := s.tier.nand, wearSeen := s.tier.wearSeen, lowSeen := s.tier.lowSeen,
      riskSeen := s.tier.riskSeen, spares := s.tier.spares, reserve := s.tier.reserve }
    ecc := { State.reset.ecc with boots := s.ecc.boots }
    pins := { State.reset.pins with perstLow := true, refclk := s.pins.refclk }
    resets := { State.reset.resets with cold := true } }

/-- PERST_N_ASSERT: PERST_N has been low for 1 us; during the power-fail sequence it waits for its end (R575, R580). -/
def execPerstNAssert (s : State) : Host.Outcome State Fault Refusal :=
  let step := s.get Page.pwr PWR_FAIL_STEP
  .next (if s.resets.cold then s
    else if 0 < step ∧ step < 5 then s.updClock fun c => { c with perstQueued := true }
    else s.enterCold)

/-- Every item of the calibration set, as 256 times section plus index: 2 trims of each of 24 sensors, 4 values per core and
gear, one per gear, one per port, one, one per lamp (18_access.md R647; log 32). -/
def calItems : List (Nat × Nat) := [(1, 48), (2, 80), (3, 5), (4, 12), (5, 1), (6, 2)]
def calCount (section_ : Nat) : Nat := (assocGet calItems section_).getD 0
def calKeys : List Nat := calItems.flatMap fun x => (List.range x.2).map fun i => 256 * x.1 + i

/-- Whether every section whose factory flag CAL_VALID needs has it (18_access.md R648): bit s - 1 of FACTORY is section s. -/
def calFactory (flags : Nat) : Bool := [1, 2, 3, 5].all fun x => flags.testBit (x - 1)

/-- The calibration page is loaded (18_access.md R648). -/
def State.loadCal (s : State) (cal : Option (BitVec 6 × List (Nat × Word))) : State :=
  match cal with
  | some (flags, items) =>
    let s := eachOf (items.filter fun x => calKeys.contains x.1) (fun x s => s.setI Page.cal x.1 CAL_DATA_DATA x.2.toNat) s
    let s := (s.set Page.cal CAL_STATUS_PAGE_OK 1).set Page.cal CAL_STATUS_FACTORY flags.toNat
    s.set Page.chip CHIP_STATUS_CAL_VALID (calFactory flags.toNat).toNat
  | none =>
    let s := eachOf calKeys (fun k s => s.setI Page.cal k CAL_DATA_DATA (Config.calDefault k).toNat) s
    s.raise Page.cal Ev.CAL_INVALID

/-- The pages that are READY once SRAM is filled and darned. -/
def earlyPages : List Nat :=
  allPages.filter fun p => !(mgmtPages ++ [Page.dram, Page.shelf, Page.tier, Page.hostif]).contains p

/-- Bring-up steps 1 to 7 (R587): the PLL locks, factory and field repairs are applied, banks that fail the bond test are mapped
out (05_buffers.md R179, R184), the management core boots, the
calibration set is loaded, PCIe, DRAM and the Shelf are ready. With no image to boot the later steps are not reached. -/
def State.bringUp (s : State) (env : BootEnv) : State :=
  let s : State := { s with pins := { s.pins with perstLow := false, refclk := true, bootAlert := false } }
  let s := (s.updResets fun r => { r with cold := false }).updEcc fun e => { e with boots := e.boots + 1 }
  let s := s.set Page.clk CLK_STATUS_LOCKED 1
  let s := s.raise Page.access Ev.CLOSED
  let s := (s.applyFuses env).applyRepairs env
  let s := eachOf (env.bankFail.filter fun b => !s.ecc.banksOut.contains b) (fun b s => s.bankOut b env.repairOk) s
  let s := (s.set Page.mgmt MGMT_STATUS_ADDR (0x30 + env.smbAddr0.toNat)).restartSources true
  let s := (eachOf earlyPages (fun p s => s.set p PAGE_STATUS_READY 1) s).boot
  if s.flag Page.chip CHIP_STATUS_MGMT_UP then
    let s := s.loadCal env.cal
    let s := (s.set Page.hostif PAGE_STATUS_READY 1).set Page.dram DRAM_STATUS_TRAINED 1
    let s := if env.roPreserve then (s.set Page.shelf SHELF_STATE_RO_PRESERVE 1).latch Page.shelf 8 else s
    eachOf [Page.dram, Page.shelf, Page.tier] (fun p s => s.set p PAGE_STATUS_READY 1) s
  else s

/-- PERST_N rises after an assertion or at power-on, and the chip brings itself up; without a reference it waits and asserts
ALERT_N (R587; 19_signals.md R678). -/
def State.coldReset (s : State) (env : BootEnv) : State :=
  if s.resets.cold || s.ecc.boots == 0 then
    let s := s.enterCold
    if env.refclk then s.bringUp env
    else { s with pins := { s.pins with perstLow := false, refclk := false, bootAlert := true } }
  else s

/-! Requests, R579-R581. -/

/-- Whether a request's DOMAIN or ARG is out of range (R579). -/
def resetBad (domain mask : Nat) : Bool :=
  domain == 0 || decide (6 < domain) ||
  (if domain = 2 then mask == 0 || decide (15 < mask)
   else if domain = 3 then mask == 0 || decide (4095 < mask)
   else mask != 0)

/-- Whether a request is BUSY (R579). -/
def State.resetBusy (s : State) (domain mask : Nat) : Bool :=
  let step := s.get Page.pwr PWR_FAIL_STEP
  s.resets.cold || s.resets.warm || decide (0 < step ∧ step < 5) ||
  match domain with
  | 2 => s.resets.core &&& BitVec.ofNat 4 mask != 0
  | 3 => s.resets.port &&& BitVec.ofNat 12 mask != 0
  | 4 => s.resets.tier || s.tier.swapping
  | 5 => s.resets.mgmt
  | 6 => s.resets.mangle
  | _ => false

/-- The units of a domain enter reset. -/
def State.beginReset (s : State) (domain mask cause : Nat) : State :=
  match domain with
  | 1 => s.enterWarm cause
  | 2 => eachOf (coresOf mask) (fun c s => s.enterCore c cause) s
  | 3 => eachOf (allPorts.filter fun p => mask.testBit p.1) (fun p s => s.enterPort p cause) s
  | 4 => s.enterTier cause
  | 5 => s.enterMgmt cause
  | 6 => s.enterMangle cause
  | _ => s

/-- The answer to a RESET message, if the request came as one. -/
def State.resetReply (s : State) (tag : Option Byte) (st : Status) : State :=
  match tag with
  | some t => s.reply 3 t st []
  | none => s

/-- A request takes effect; for domains 1 and 5 the reply is sent before the reset begins, for the others once the units have
left reset (R579). -/
def State.takeReset (s : State) (tag : Option Byte) (domain mask : Nat) : State :=
  if s.resetBusy domain mask then s.resetReply tag .busy
  else if domain = 1 ∨ domain = 5 then (s.resetReply tag .ok).beginReset domain mask causeRequest
  else
    let s := s.beginReset domain mask causeRequest
    match tag with
    | some t => s.updResets fun r => { r with reply := some (t, domain, mask) }
    | none => s

/-- A request arrives; during a gear pause it takes effect at the pause's end (R579, R580). -/
def State.requestReset (s : State) (tag : Option Byte) (domain mask : Nat) : State :=
  if s.resets.cold then s
  else if resetBad domain mask then s.resetReply tag .param
  else if s.clock.paused then s.updResets fun r => { r with queued := r.queued ++ [(tag, domain, mask)] }
  else s.takeReset tag domain mask

/-- WARM_RESET. -/
def execWarmReset (s : State) : Host.Outcome State Fault Refusal := .next (s.requestReset none 1 0)
/-- CORE_RESET. -/
def execCoreReset (mask : BitVec 4) (s : State) : Host.Outcome State Fault Refusal := .next (s.requestReset none 2 mask.toNat)
/-- PORT_RESET. -/
def execPortReset (mask : BitVec 12) (s : State) : Host.Outcome State Fault Refusal := .next (s.requestReset none 3 mask.toNat)
/-- TIER_RESET. -/
def execTierReset (s : State) : Host.Outcome State Fault Refusal := .next (s.requestReset none 4 0)
/-- MGMT_CORE_RESET. -/
def execMgmtCoreReset (s : State) : Host.Outcome State Fault Refusal := .next (s.requestReset none 5 0)
/-- MANGLE_RESET. -/
def execMangleReset (s : State) : Host.Outcome State Fault Refusal := .next (s.requestReset none 6 0)

/-- The units of a domain that are in reset leave it. A core that is being wiped leaves at the wipe's end. -/
def State.endReset (s : State) (domain : Nat) : State :=
  match domain with
  | 1 => if s.resets.warm then s.leaveWarm else s
  | 2 => eachOf (allCores.filter fun c => s.resets.core.getLsbD c.1 && !(s.core c).wiping) (fun c s => s.leaveCore c) s
  | 3 => eachOf (allPorts.filter fun p => s.resets.port.getLsbD p.1) (fun p s => s.leavePort p) s
  | 4 => if s.resets.tier then s.leaveTier else s
  | 5 => if s.resets.mgmt then s.leaveMgmt else s
  | 6 => if s.resets.mangle then s.leaveMangle else s
  | _ => s

/-- The reply to a RESET request whose units have all left reset is sent (R579). -/
def State.resetAnswered (s : State) (domain : Nat) : State :=
  match s.resets.reply with
  | some (t, d, mask) =>
    if d = domain ∧ s.resetBusy d mask = false then (s.updResets fun r => { r with reply := none }).reply 3 t .ok [] else s
  | none => s

/-! Trial images, R591. -/

/-- Whether the management core runs from a TRIAL image. -/
def State.onTrial (s : State) : Bool := s.mgmtUp && s.flag Page.mgmt MGMT_FW_TRIAL

/-- TRIAL_WATCHDOG: 60 s after MGMT_UP the flag is still set, and the management core is reset. -/
def execTrialWatchdog (s : State) : Host.Outcome State Fault Refusal :=
  .next (if s.onTrial then s.enterMgmt causeRequest else s)

/-- TRIAL_CONFIRM: the firmware programs TRIAL_MARK to 0x00. -/
def execTrialConfirm (s : State) : Host.Outcome State Fault Refusal :=
  .next (if s.onTrial then
      let s : State := { s with nor := s.nor.setByte (imageBase (s.get Page.mgmt MGMT_FW_IMAGE) + 112) 0 norFill }
      s.set Page.mgmt MGMT_FW_TRIAL 0
    else s)

/-! Firmware swap of the tier controller, R593-R596. -/

/-- TIER_SWAP_REQUEST: the staged image is checked, and descriptors that touch the Shelf pause; an image that is not valid is
not swapped in. -/
def execTierSwapRequest (image : List Byte) (s : State) : Host.Outcome State Fault Refusal :=
  .next (if s.inReset Page.tier ∨ s.tier.swapping ∨ s.get Page.pwr PWR_FAIL_STEP ≠ 0 then s
    else if imageValid tierMagic (image.length - 256) image (fun n => slice image 256 n) then
      s.updTier fun t => { t with swapping := true }
    else s)

/-- FW_SWAP: the new image runs. -/
def execFwSwap (s : State) : Host.Outcome State Fault Refusal :=
  .next (if s.tier.swapping then s.endSwap.raise Page.chip Ev.FW_SWAP else s)

/-- SWAP_REVERT: the new image does not run within 200 ms, and the previous one resumes. -/
def execSwapRevert (s : State) : Host.Outcome State Fault Refusal :=
  .next (if s.tier.swapping then s.endSwap.raise Page.chip Ev.SWAP_REVERT else s)

end Sys2Proof.Machine
end

