-- ==== Sys2Proof/Machine/Access.lean ====
section
/-!
DEFINITION. Access levels, the calibration set and the lamp drivers (18_access.md R640-R652, R655-R659).
-/
namespace Sys2Proof.Machine

open Reg

/-! Access levels, R640-R645. -/

def State.accessLevel (s : State) : Nat := s.get Page.access ACCESS_STATE_LEVEL

/-- Whether owner debug is open (R640). -/
def State.ownerOpen (s : State) : Bool := decide (1 ≤ s.accessLevel)

/-- Status of the last action. -/
def State.accessDone (s : State) (st : Status) : State := s.setStatus Page.access ACCESS_STATUS_STATUS st

/-- A level opens; one that the chip is above already stays open (R640, R645). -/
def State.openLevel (s : State) (path : Path) (level : Nat) : State :=
  let s := (s.set Page.access ACCESS_STATE_LEVEL (max level s.accessLevel)).set Page.access ACCESS_STATE_CLEAR_AUTH 1
  (s.accessDone .ok).raise Page.access Ev.UNLOCK (byPath path) (arg level ++ arg path.code)

/-- The digest bytes that the owner wrote (R642). -/
def State.ownerDigest (s : State) : List Byte :=
  (List.range 4).flatMap fun n => leBytes 4 (s.get Page.access (ACCESS_OWNER_PW_DIGEST.nth n))

/-- A failed attempt: from the sixteenth on the password is locked out (R643). -/
def State.passwordFail (s : State) (path : Path) : State :=
  let s := (s.add Page.access ACCESS_STATE_PW_FAILS 1).updMgmt fun m => { m with pwFailAt := some s.weave.wt }
  let s := (s.accessDone .authFail).raise Page.access Ev.UNLOCK_FAIL (byPath path)
  if 16 ≤ s.get Page.access ACCESS_STATE_PW_FAILS ∧ s.flag Page.access ACCESS_STATE_PW_LOCKOUT = false then
    (s.set Page.access ACCESS_STATE_PW_LOCKOUT 1).raise Page.access Ev.LOCKOUT (byPath path)
  else s

/-- Whether the last password failure was less than 1 s ago (R643). -/
def State.pwTooSoon (s : State) : Bool :=
  match s.mgmt.pwFailAt with
  | some t => decide (s.weave.wt.toNat < t.toNat + 1000 * ticksPerMs)
  | none => false

/-- OPEN_PW: the attempt is hashed and zeroed, and compared (R643). -/
def State.openPassword (s : State) (path : Path) : State :=
  let digest := sha256 (wordBytes s.mgmt.tries.toList)
  let s := s.updMgmt fun m => { m with tries := Vector.replicate 8 0 }
  let locked := s.flag Page.access ACCESS_STATE_PW_LOCKOUT
  if !locked && s.pwTooSoon then s.accessDone .busy
  else if !locked && s.flag Page.access ACCESS_STATE_PW_SET && digest.take 16 == s.ownerDigest then s.openLevel path 1
  else s.passwordFail path

/-- CHAL: a fresh nonce, the first 16 bytes of the conditioner's output, whose block takes the sources' bits of successive PCLK
`raw`; the one before it expires. With no block complete it ends NOT_READY (R644; log 112). -/
def State.challenge (s : State) (raw : List Byte) : State :=
  let s := (s.updMgmt fun m => { m with nonce := false }).emptyBlock
  let s := if s.entropy then State.fillBlock raw s else s
  let done := s.conditioned
  let s := s.emptyBlock
  match done with
  | some d =>
    let s := eachOf (List.range 4) (fun n s => s.set Page.access (ACCESS_NONCE_NONCE.nth n) (field d (4 * n) 4)) s
    (s.updMgmt fun m => { m with nonce := true }).accessDone .ok
  | none => s.accessDone .notReady

/-- The digest that a signer signs for a level (R644). -/
def State.signedDigest (s : State) (level : Nat) : List Byte :=
  let nonce := (List.range 4).flatMap fun n => leBytes 4 (s.get Page.access (ACCESS_NONCE_NONCE.nth n))
  let serial := leBytes 4 (s.get Page.chip CHIP_SERIAL_LO_SERIAL) ++ leBytes 4 (s.get Page.chip CHIP_SERIAL_HI_SERIAL)
  sha256 (nonce ++ serial ++ leBytes 1 level)

/-- RESP: the signature over the live nonce is checked, and the nonce is used up; REQ_LEVEL is 1 or 2 (R644). -/
def State.respond (s : State) (path : Path) : State :=
  if s.mgmt.nonce = false then s.accessDone .notReady
  else
    let level := s.get Page.access ACCESS_CTRL_REQ_LEVEL
    let s := s.updMgmt fun m => { m with nonce := false }
    let sig := wordBytes s.mgmt.sig.toList
    if level = 0 ∨ level = 3 then s.accessDone .param
    else if ecdsaOk Config.debugKeyX Config.debugKeyY (s.signedDigest level) (beNat (slice sig 0 32)) (beNat (slice sig 32 32)) then
      s.openLevel path level
    else (s.accessDone .authFail).raise Page.access Ev.UNLOCK_FAIL (byPath path)

/-- CLOSE: the chip returns to LOCKED (R645). -/
def State.closeAccess (s : State) (path : Path) : State :=
  let s := (s.set Page.access ACCESS_STATE_LEVEL 0).set Page.access ACCESS_STATE_CLEAR_AUTH 0
  (s.accessDone .ok).raise Page.access Ev.CLOSED (byPath path)

/-- The actions of a word written to ACCESS_CTRL, in the order of its bits. -/
def State.accessActions (s : State) (path : Path) (w : Word) (raw : List Byte) : State :=
  let s := if w.getLsbD 0 then s.openPassword path else s
  let s := if w.getLsbD 1 then s.challenge raw else s
  let s := if w.getLsbD 2 then s.respond path else s
  if w.getLsbD 3 then s.closeAccess path else s

/-- OPEN_PW. -/
def execOpenPw (path : Path) (s : State) : Host.Outcome State Fault Refusal :=
  .next (s.writeReg path Page.access ACCESS_CTRL_OPEN_PW fun s => s.accessActions path 1 [])

/-- CHAL. -/
def execChal (path : Path) (raw : List Byte) (s : State) : Host.Outcome State Fault Refusal :=
  .next (s.writeReg path Page.access ACCESS_CTRL_CHAL fun s => s.accessActions path 2 raw)

/-- RESP. -/
def execResp (path : Path) (s : State) : Host.Outcome State Fault Refusal :=
  .next (s.writeReg path Page.access ACCESS_CTRL_RESP fun s => s.accessActions path 4 [])

/-- NONCE_EXPIRY: 60 s have passed since CHAL (R644). -/
def execNonceExpiry (s : State) : Host.Outcome State Fault Refusal :=
  .next (s.updMgmt fun m => { m with nonce := false })

/-- CLOSE. -/
def execClose (path : Path) (s : State) : Host.Outcome State Fault Refusal :=
  .next (s.writeReg path Page.access ACCESS_CTRL_CLOSE fun s => s.accessActions path 8 [])

/-! Calibration, R647-R651. -/

/-- The checks of a COMMIT of CAL_DATA (R649). -/
def State.calCheck (s : State) : Status :=
  if calCount (s.get Page.cal CAL_SEL_SECTION) ≤ s.get Page.cal CAL_SEL_INDEX then .param
  else if s.flag Page.cal CAL_STATUS_NOR_BUSY then .busy
  else .ok

/-- Items of the sections named are replaced: their factory flags go, and the rewrite of the page to the NOR starts (R649). -/
def State.calCommitted (s : State) (sections : List Nat) : State :=
  let flags := s.get Page.cal CAL_STATUS_FACTORY
  let left := ([1, 2, 3, 4, 5, 6].filter fun x => flags.testBit (x - 1) && !sections.contains x).map fun x => 2 ^ (x - 1)
  let s := (s.set Page.cal CAL_STATUS_FACTORY left.sum).set Page.cal CAL_STATUS_NOR_BUSY 1
  let s := if sections.any [1, 2, 3, 5].contains then s.set Page.chip CHIP_STATUS_CAL_VALID 0 else s
  s.raise Page.cal Ev.CAL_WRITE

/-- Where the calibration page lies in the NOR, and its size (01_machine.md R16). -/
abbrev calBase : Nat := 0x03000000
abbrev calBytes : Nat := 0x10000

/-- Bytes that the spec leaves open, with the names of `n` free values (log 14). -/
def freeBytes (k n : Nat) : List Byte := (List.range n).map fun i => (Config.freshWord (k + i)).setWidth 8

/-- `n` free bytes; no two uses name the same. -/
def State.freshBytes (s : State) (n : Nat) : List Byte × State := (freeBytes s.free n, { s with free := s.free + n })

/-- CAL_WRITE: the rewrite ends. The layout of the page, and the status of a failed rewrite, are free values (R649, R650). -/
def execCalWrite (ok : Bool) (s : State) : Host.Outcome State Fault Refusal :=
  .next (if s.flag Page.cal CAL_STATUS_NOR_BUSY = false then s
    else
      let s := s.set Page.cal CAL_STATUS_NOR_BUSY 0
      let (bs, s) := s.freshBytes calBytes
      let s : State := { s with nor := (s.nor.erase calBase calBytes).write calBase bs norFill }
      if ok then s.setStatus Page.cal CAL_STATUS_NOR_STATUS .ok
      else
        let (k, s) := s.fresh
        (s.set Page.cal CAL_STATUS_NOR_STATUS (Config.freshWord k).toNat).raise Page.cal Ev.CAL_WRITE_FAIL)

/-- The request of CAL_DERIVE that runs, kept in its own word. -/
def State.deriving? (s : State) : Bool := s.flag Page.cal CAL_DERIVE_START
def State.deriveDone (s : State) (st : Status) : State := s.setStatus Page.cal CAL_DERIVE_STATUS_STATUS st

/-- A write of CAL_DERIVE with START: BUSY with nothing done while a named port is in use or a request runs (R651). -/
def State.deriveStart (s : State) (w : Word) : State :=
  let used (p : PortId) : Bool := (CAL_DERIVE_PORTS.of w).testBit p.1 && !((s.port p).st == .down || (s.port p).st == .failed)
  if CAL_DERIVE_START.of w = 0 then s
  else if allPorts.any used || s.deriving? then s.deriveDone .busy
  else s.setWord Page.cal 0 CAL_DERIVE_START.off w

/-- CAL_DERIVE. -/
def execCalDerive (path : Path) (val : Word) (s : State) : Host.Outcome State Fault Refusal :=
  .next (s.writeReg path Page.cal CAL_DERIVE_START fun s => s.deriveStart val)

/-- DERIVE_DONE: the presets and trims found are committed as one COMMIT; a port without a preset keeps its old one (R651). -/
def execDeriveDone (res : Derived) (s : State) : Host.Outcome State Fault Refusal :=
  .next (if s.deriving? = false then s
    else
      let w := s.word Page.cal 0 CAL_DERIVE_START.off
      let ports := (List.range 12).filter fun p => (CAL_DERIVE_PORTS.of w).testBit p
      let lamps := (List.range 2).filter fun l => (CAL_DERIVE_LAMPS.of w).testBit l
      let preset (p : Nat) : Option (BitVec 8) := (assocGet res.presets p).getD none
      let items : List (Nat × Nat) :=
        ports.filterMap (fun p => (preset p).map fun x => (256 * 4 + p, x.toNat)) ++
          lamps.filterMap (fun l => (assocGet res.trims l).map fun x => (256 * 6 + l, x.toNat))
      let failed := ports.filter fun p => (preset p).isNone
      let s := (s.setWord Page.cal 0 CAL_DERIVE_START.off 0).set Page.cal CAL_DERIVE_STATUS_FAILED (failed.map (2 ^ ·)).sum
      let s :=
        if items.isEmpty then s.deriveDone (if failed.isEmpty then .ok else .notReady)
        else if s.flag Page.cal CAL_STATUS_NOR_BUSY then s.deriveDone .busy
        else
          let s := eachOf items (fun x s => s.setI Page.cal x.1 CAL_DATA_DATA x.2) s
          (s.calCommitted (items.map fun x => x.1 / 256)).deriveDone (if failed.isEmpty then .ok else .notReady)
      s.raise Page.cal Ev.DERIVE_DONE)

/-! Lamps, R655-R659. -/

/-- The checks of a COMMIT of the lamp configurations (R659). -/
def lampCheck (w : Nat → Word) : Status :=
  let bad (n : Nat) : Bool :=
    let d := LAMP_CFG_DUTY.of (w n)
    (decide (0 < d) && decide (d < 4)) || decide (1000 < d) || LAMP_CFG_MODE.of (w n) == 3
  if bad 0 || bad 1 then .param else .ok

/-- LAMP_FAULT: two measurements of a lamp that is measured find it OPEN or SHORT (R656). -/
def execLampFault (lamp : Fin 2) (short : Bool) (s : State) : Host.Outcome State Fault Refusal :=
  let st := s.lampState lamp
  let found := if short then 3 else 2
  .next (if s.inReset Page.lamp ∨ st = 0 ∨ st = 4 then s
    else
      (s.updMgmt fun m => { m with lampBad := m.lampBad.set lamp found }).raise Page.lamp Ev.LAMP_FAULT byBlock
        (arg lamp.1 ++ arg found))

end Sys2Proof.Machine
end

