-- ==== Sys2Proof/Machine/Epoch.lean ====
section
/-!
DEFINITION. What waits for the end of a gear pause, of the power-fail sequence or of an epoch: GEAR_RESTART (15_clocks_power.md
R552, R569; 16_reset.md R580), POWER_FAIL_SEQUENCE_DONE and POWER_RETURN_DURING_SHUTDOWN (R567, R568), EPOCH_BOUNDARY
(09_weave.md R317, R341; 13_partitions.md R489; 15_clocks_power.md R556, R560, R563).
-/

namespace Sys2Proof.Machine

open Reg

/-- GEAR_RESTART: the clocks restart at the new gear; a power-fail sequence accepted in the pause starts, and resets requested
in it take effect (R552, R569; 16_reset.md R580). -/
def execGearRestart (lockOffset : Nat) (s : State) : Host.Outcome State Fault Refusal :=
  .next (if s.clock.paused = false then s
    else
      let s := s.restartClocks lockOffset
      let s := if s.clock.failQueued then (s.updClock fun c => { c with failQueued := false }).beginPowerFail else s
      let waiting := s.resets.queued
      let s := s.updResets fun r => { r with queued := [] }
      eachOf waiting (fun q s => s.takeReset q.1 q.2.1 q.2.2) s)

/-- Step 2 of the sequence: the Lint is mirrored to Shelf namespace 0 (R567; 17_lint.md R614, R617). -/
def State.sequenceMirror (s : State) : State :=
  ((s.mirrorEnd none).mirrorBegin []).mirrorEnd none

/-- POWER_FAIL_SEQUENCE_DONE: steps 2 to 4 of the sequence are over after `us` microseconds; the Shelf write buffer is committed
and the chip is PARKED; a PERST_N accepted meanwhile acts now (R567; 16_reset.md R580). -/
def execPowerFailSequenceDone (us : BitVec 16) (linted : Bool) (s : State) : Host.Outcome State Fault Refusal :=
  let step := s.get Page.pwr PWR_FAIL_STEP
  let shelf := s.flag Page.shelf PAGE_STATUS_READY && !s.inReset Page.shelf
  .next (if step = 0 ∨ step = 5 then s
    else
      let s := if linted && shelf && !s.shelfRo then s.sequenceMirror else s
      let s := if shelf then s.flushBuffer else s
      let s := (s.set Page.pwr PWR_FAIL_STEP 5).set Page.pwr PWR_FAIL_LAST_US us.toNat
      if s.clock.perstQueued then s.enterCold else s)

/-- POWER_RETURN_DURING_SHUTDOWN: PWRFAIL_N has been high for 100 ms after the sequence: the chip performs a warm reset and logs
the step reached when the supply returned (R568). -/
def execPowerReturnDuringShutdown (s : State) : Host.Outcome State Fault Refusal :=
  .next (if s.get Page.pwr PWR_FAIL_STEP = 5 ∧ s.flag Page.pwr PWR_FAIL_RETURNED ∧ s.pins.pwrfailLow = false then
      (s.raise Page.pwr Ev.POWER_RETURN_DURING_SHUTDOWN byBlock (arg (s.get Page.pwr PWR_FAIL_LAST_STEP))).enterWarm causePower
    else s)

/-- EPOCH_BOUNDARY: the first tick of the next epoch that has not begun to act: armed tables swap, an EVICT whose epoch it is
becomes pending, and the loops of cap, temperature and voltage act on the epoch that ended (R317, R341; 13_partitions.md R489;
15_clocks_power.md R556, R560, R563). -/
def execEpochBoundary (deciW : BitVec 12) (s : State) : Host.Outcome State Fault Refusal :=
  .next (if s.resets.cold ∨ s.resets.warm then s
    else
      let s := if s.epochNo ≤ s.weave.epoch then s.passTicks ((s.epochNo + 1) * epochTicks - s.weave.wt.toNat) else s
      let n := s.epochNo
      let s := s.updWeave fun w => { w with epoch := n }
      (s.swapTables.evictTick).powerBoundary deciW.toNat)

end Sys2Proof.Machine
end

