-- ==== Sys2Proof/Machine/Illegal.lean ====
section
/-!
DEFINITION. The decoder of a whole bundle for its faults (03_bundles.md R76-R82, R87-R90, R94, R98, R99, R101, R103-R105,
R108, R109), and the row ILLEGAL_OPCODE.
-/
namespace Sys2Proof.Machine

open Reg

/-- What decoding a slot gives: its reserved, opcode and format faults and its destinations. -/
structure SlotScan where
  reserved : Bool
  unknown  : Bool
  format   : Bool
  dests    : List Dst
  deriving DecidableEq, Repr

/-- A register field of a slot. -/
def fieldV {n : Nat} (x lo : Nat) : BitVec n := BitVec.ofNat n (x >>> lo)

/-- S0 and S1, R99. -/
def scanScalar (x : Nat) : SlotScan :=
  let op := x % 256
  let dst : BitVec 6 := fieldV x 14
  let toP := op == 0x0A || op == 0x0B || op == 0x0C || op == 0x13
  let toA := op == 0x10 || op == 0x11
  let high (b : BitVec 6) : Bool := decide (16 ≤ b.toNat)
  { reserved := bits x 135 101 != 0 || ((toP || toA) && high dst) ||
      (op == 0x13 && (high (fieldV x 20) || high (fieldV x 26)))
    unknown := decide (0x14 < op)
    format := false
    dests :=
      if op = 0 ∨ op = 0x0F ∨ 0x14 < op then []
      else if toP then [.p (dst.setWidth 4)] else if toA then [.a (dst.setWidth 4)]
      else if op = 0x12 then [.t dst] else [.s dst] }

/-- The branch slot, R94. -/
def scanBranch (x : Nat) : SlotScan :=
  let op := x % 256
  { reserved := bits x 135 37 != 0, unknown := decide (7 < op), format := false,
    dests := if op = 4 then [.s (fieldV x 31)] else if op = 6 then [.s (fieldV x 14)] else [] }

/-- The fields of the vector slot, R101. -/
def vecFields (x : Nat) : VecF :=
  { vd := fieldV x 14, va := fieldV x 19, vb := fieldV x 24, vc := fieldV x 29, vm := fieldV x 34, men := x.testBit 39,
    ss := fieldV x 40, fmt := fieldV x 46, areg := fieldV x 48, imm8 := fieldV x 52 }

/-- The vector slot, R101. -/
def scanVector (x : Nat) : SlotScan :=
  let op := x % 256
  let f := vecFields x
  { reserved := bits x 135 60 != 0, unknown := decide (0x12 < op)
    format := op != 0 && ((fmtBad f).isSome || ((op == 8 || op == 9 || op == 0x0A) && f.fmt != 0) ||
      (op == 0x12 && (cvtBad f).isSome))
    dests := if op = 0 ∨ op = 0x0E ∨ 0x12 < op then [] else if op = 0x0F ∨ op = 0x10 then [.s f.ss] else [.v f.vd] }

/-- The fields of the matrix slot, R103. -/
def matFields (x : Nat) : MatF :=
  { ibase := fieldV x 14, arow := fieldV x 24, count := fieldV x 30, ifmt := fieldV x 38, wfmt := fieldV x 42,
    acc := x.testBit 46, wrow := fieldV x 47 }

/-- The matrix slot, R103, R104. -/
def scanMatrix (x : Nat) : SlotScan :=
  let op := x % 256
  let f := matFields x
  { reserved := bits x 135 56 != 0, unknown := decide (4 < op)
    format := (op == 1 && (mloadBad f).isSome) || (op == 3 && (mmulBad f).isSome) || (op == 4 && (mclrBad f).isSome)
    dests := [] }

/-- The fields of the data-mover slot, R105. -/
def movFields (x : Nat) : MovF :=
  { ts := fieldV x 14, td := fieldV x 20, port := fieldV x 26, path := fieldV x 30, engine := fieldV x 40, ibase := fieldV x 42,
    nblk := fieldV x 53 }

/-- The data-mover slot, R98, R105. -/
def scanMover (x : Nat) : SlotScan :=
  let f := movFields x
  { reserved := bits x 135 59 != 0, unknown := decide (7 < x % 256), format := x % 256 == 7 && (iloadBad f).isSome,
    dests := [] }

/-- The extended slot, R108, R109; `vfmt` is the vector slot's FMT. -/
def scanExtended (x : Nat) (vfmt : Nat) : SlotScan :=
  let op := x % 256
  let id := bits x 65 54
  let mode := bits x 69 66
  let sd : List Dst := [.s (fieldV x 32)]
  let vd : List Dst := [.v (fieldV x 38)]
  let tooFar := match op with
    | 0x03 => decide (255 < id) || vfmt == 3
    | 0x04 | 0x05 | 0x07 | 0x0A => decide (255 < id)
    | 0x06 => decide (63 < id)
    | 0x08 => decide (15 < id)
    | 0x01 => decide (5 < mode)
    | 0x02 => decide (2 < mode)
    | 0x0B => decide (1 < mode)
    | _ => false
  { reserved := bits x 135 89 != 0, unknown := decide (0x0B < op), format := tooFar
    dests := match op with
      | 0x01 => vd
      | 0x02 => if mode = 2 then vd else []
      | 0x05 | 0x08 | 0x0B => sd
      | 0x06 => if x.testBit 81 then sd else []
      | _ => [] }

/-- The 136 bits of slot `i` of a bundle. -/
def slotBits (b : BitVec 1024) (i : Nat) : Nat := bits b.toNat (199 + 136 * i) (64 + 136 * i)

/-- FMT of the vector slot, under which SCAMAX reads: 0 when the slot is absent, whose bits are ignored (R78; 07_numerics.md
R260). -/
def slotVfmt (b : BitVec 1024) : Nat := if b.getLsbD 3 then bits (slotBits b 3) 47 46 else 0

/-- Scan slot `i`. -/
def scanSlot (b : BitVec 1024) (i : Nat) : SlotScan :=
  let x := slotBits b i
  match i with
  | 0 | 1 => scanScalar x
  | 2 => scanBranch x
  | 3 => scanVector x
  | 4 => scanMatrix x
  | 5 => scanMover x
  | _ => scanExtended x (slotVfmt b)

/-- The class that an extended operation belongs to, 0 NORMAL (R82). -/
def classOfX (present : Bool) (op : Nat) : Nat :=
  if present = false then 0
  else match op with
    | 0x0A => 1 | 0x09 => 2 | 0x08 => 3 | 0x0B => 4 | _ => 0

/-- The class of a bundle (R77). -/
def bundleClass (b : BitVec 1024) : Nat := bits b.toNat 9 7

/-- The decode faults of a bundle, R89 orders 2 and 3: rank, reason, slot. -/
def bundleFaults (k : Core) (b : BitVec 1024) : List (Nat × Nat × Nat) :=
  let x := b.toNat
  let present (i : Nat) : Bool := x.testBit i
  let delay := k.br.isSome
  let header (c : Bool) (r : Nat) : List (Nat × Nat × Nat) := if c then [(headerRank r, r, 7)] else []
  let hs := header (bits x 15 10 != 0 || bits x 63 49 != 0 || bits x 1023 1016 != 0) rReserved ++
    header (bundleClass b != classOfX (present 6) (slotBits b 6 % 256)) rIllegalClass ++
    header (bundleClass b == 2 && delay) rDelayBranch
  let per := (List.range 7).flatMap fun i =>
    if present i then
      let sc := scanSlot b i
      let f (c : Bool) (r : Nat) : List (Nat × Nat × Nat) := if c then [(decodeRank i r, r, i)] else []
      let before := (List.range i).flatMap fun j => if present j then (scanSlot b j).dests else []
      let op := slotBits b i % 256
      let y := slotBits b i
      f sc.reserved rReserved ++ f sc.unknown rIllegalOpcode ++ f (sc.format && !sc.unknown) rFormat ++
      f (sc.dests.any fun d => before.contains d) rDupDest ++ f (i == 2 && op != 0 && delay) rDelayBranch ++
      f (i == 2 && op == 5 && decide (2047 < (k.rs (fieldV y 14)).toNat)) rPcRange
    else []
  hs ++ per

/-- ILLEGAL_OPCODE: a bundle whose encoding has a fault is fetched (R88-R90): nothing of it issues, and the first fault in
the order of R89 stops the core. A bundle without such a fault is no concern of this row. BRK and QUIESCE_N act before
(R85; 18_access.md R638). -/
def execIllegalOpcode (core : CoreId) (bundle : BitVec 1024) (s : State) : Host.Outcome State Fault Refusal :=
  let k := s.core core
  let fs := bundleFaults k bundle
  .next (if !s.mayIssue core || k.bundle.opened || fs.isEmpty then s
    else if bundle.getLsbD 48 && s.breaks core then s.debugHalt core
    else if s.quiesces core && (bundleClass bundle == 2 || bundleClass bundle == 4) then s.quiet core
    else
      let s := s.openBundle core
      (eachOf fs (fun f s => s.flaw core f.1 (contract f.2.1) f.2.2) s).finish core)

end Sys2Proof.Machine
end

