-- ==== Sys2Proof/Machine/Pages.lean ====
section
/-!
DEFINITION. A write to a register that no other rule stops (14_pages.md R511-R524; 00_scope.md R6): access codes, staged groups,
COMMIT with the checks and effects of every page's groups, and the actions that a write of a register starts.
-/
namespace Sys2Proof.Machine

open Reg

/-! Staged groups, R518. -/

/-- The registers of a group. -/
def groupOffs (g : Nat × Nat) : List Nat := (List.range ((g.2 - g.1) / 4 + 1)).map fun i => g.1 + 4 * i

/-- The bits of RWS fields of the register at `off`. -/
def rwsMask (k : Kind) (off : Nat) : Word := coverMask k off fun f => f.acc == .rws

/-- Store a staged word. -/
def State.setStaged (s : State) (page off : Nat) (w : Word) : State :=
  { s with staged := Sparse.put resetOfKey s.staged (regKey page 0 off) w }

/-- Touch a group: its staged copy begins equal to its live copy. -/
def State.touchGroup (s : State) (path : Path) (page : Nat) (k : Kind) (g : Nat) : State :=
  if s.isTouched page g then s
  else
    let s := eachOf (groupOffs (k.groups.getD g (0, 0))) (fun off s => s.setStaged page off (s.liveWord path page off)) s
    { s with touched := s.touched ++ [(page, g)] }

/-- A write of RWS fields: their group is touched and its staged copy takes them. -/
def State.stageWrite (s : State) (path : Path) (page : Nat) (k : Kind) (off : Nat) (val : Word) : State :=
  let m := rwsMask k off
  match k.groupAt off with
  | some g =>
    if m = 0 then s
    else
      let s := s.touchGroup path page k g
      s.setStaged page off ((s.stagedWord page off &&& ~~~m) ||| (val &&& m))
  | none => s

/-- Groups are no longer touched, and their staged copies are gone (R520, R521). -/
def State.untouch (s : State) (page : Nat) (k : Kind) (gs : List Nat) : State :=
  let mine (key : Nat) : Bool :=
    key / 2 ^ 28 == page && gs.any fun g => (groupOffs (k.groups.getD g (0, 0))).contains (key % 2 ^ 12)
  { s with staged := s.staged.filter (fun e => !mine e.1), touched := s.touched.filter fun t => !(t.1 == page && gs.contains t.2) }

/-- The live copies of groups take their staged values. -/
def State.copyLive (s : State) (path : Path) (page : Nat) (k : Kind) (gs : List Nat) : State :=
  eachOf (gs.flatMap fun g => groupOffs (k.groups.getD g (0, 0))) (fun off s =>
    let m := rwsMask k off
    let idx := s.entryIdx path page off
    s.setWord page idx off ((s.word page idx off &&& ~~~m) ||| (s.stagedWord page off &&& m))) s

/-! Namespaces, 06_tiers.md R227, R228. -/

/-- A namespace entry as the staged group has it. -/
def NsInfo.of (w : Nat → Word) : NsInfo :=
  ⟨SHELF_NS_BASE_LBA.of (w 0x058), SHELF_NS_LEN_BLOCKS.of (w 0x05C), SHELF_NS_OWNER_PART.of (w 0x060),
    SHELF_NS_OWNER_VALID.of (w 0x060) == 1⟩

/-- Whether a descriptor names a namespace (06_tiers.md R204). -/
def Desc.namesNs (d : Desc) (ns : Nat) : Bool :=
  d.nsid == ns && (d.op == 5 || (d.op == 1 && (d.srct == tShelf || d.dstt == tShelf)))

/-- Whether a namespace's change unmaps a logical block: one that leaves it, or any of its blocks when its PART changes or
VALID clears. -/
def nsUnmaps (old new : NsInfo) (lba : Nat) : Bool :=
  let within (x : NsInfo) : Bool := decide (x.base ≤ lba) && decide (lba < x.base + x.len)
  old.valid && ((within old && !within new) || ((new.part != old.part || !new.valid) && (within old || within new)))

/-- The checks of a namespace COMMIT. -/
def State.nsCheck (s : State) (ns : Nat) (new : NsInfo) : Status :=
  let named (d : Desc) : Bool := d.namesNs ns
  let pressed (d : Desc) : Bool := d.nsid == ns && d.srct == tShelf
  if ns = 0 then .readOnly
  else if (new.valid && (new.len == 0 || new.part == 0)) || decide (shelfBlocks < new.base + new.len) ||
      (List.range 64).any (fun m => m != ns && (s.nsInfo m).valid && overlap new.base new.len (s.nsInfo m).base (s.nsInfo m).len) then
    .mismatch
  else if s.nsClearing ns || (s.tier.queues.toList.flatten ++ s.tier.hold).any named || s.eng.press.toList.flatten.any pressed ||
      (List.range 16).any (fun e => s.getI Page.tier e TIER_SH_STATE_STATE != 0 && s.getI Page.tier e TIER_SH_NS_NSID == ns) then
    .busy
  else if s.shelfRo ∧ s.tier.shelf.any (fun b => nsUnmaps (s.nsInfo ns) new b.1) then .readOnly
  else .ok

/-- An accepted namespace COMMIT; the live registers hold the new entry. -/
def State.nsApply (s : State) (ns : Nat) (old : NsInfo) : State :=
  let new := s.nsInfo ns
  let gone := (s.tier.shelf.map (·.1)).filter fun lba => nsUnmaps old new lba
  let stays := decide (new.base ≤ old.base) && decide (old.base + old.len ≤ new.base + new.len)
  let moved := old.valid && (!stays || old.part != new.part || !new.valid)
  let s := eachOf gone (fun lba s => s.shelfUnmap lba) s
  let s := if moved then s.setI Page.shelf ns SHELF_NS_STATE_CLEARING 1 else s
  s.raise Page.shelf Ev.NS_CHANGE byBlock (arg ns ++ arg new.base ++ arg new.len ++ arg new.part)

/-! Selected entries and units of a page. -/

def State.selModel (s : State) : Fin 16 := modelOf (s.get Page.hanger HANGER_SEL_MODEL)
def State.selInst (s : State) : Fin 16 := modelOf (s.get Page.patch PATCH_SEL_INST)
def State.selScale (s : State) : CoreId × Nat := (coreOf (s.get Page.scale SCALE_SEL_CORE), s.get Page.scale SCALE_SEL_SLOT)
def ctxOf (page : Nat) : CtxId := ⟨(page - 0x080) % 64, Nat.mod_lt _ (by decide)⟩

/-- A patch entry as the staged group has it (12_serving.md R466). -/
def stagedEntry (w : Nat → Word) : PatchEntry :=
  { rank := PATCH_E_CFG_RANK.of (w 0x060), fmt := PATCH_E_CFG_FMT.of (w 0x060), blk := PATCH_E_CFG_BLK.of (w 0x060)
    valid := PATCH_E_CFG_VALID.of (w 0x060) == 1, alpha := (w 0x064).toNat
    img := (w 0x068).toNat + 2 ^ 32 * PATCH_E_IMG_HI_IMG.of (w 0x06C), tiles := PATCH_E_TILES_TILES.of (w 0x070)
    gen := (w 0x074).toNat }

def SpinReq.ofWords (w : Nat → Word) : SpinReq :=
  { part := SPIN_PART_PART.of (w 0x040), action := SPIN_CTRL_ACTION.of (w 0x044), source := SPIN_CTRL_SOURCE.of (w 0x044)
    core := coreOf (SPIN_CTRL_CORE.of (w 0x044)), addr := (w 0x050).toNat + 2 ^ 32 * SPIN_ADDR_HI_ADDR.of (w 0x054) }

def WLoad.ofWords (w : Nat → Word) : WLoad :=
  { path := WEAVE_LOAD_KIND_KIND.of (w 0x054) == 1, port := WEAVE_LOAD_KIND_PORT.of (w 0x054)
    base := (w 0x058).toNat + 2 ^ 32 * WEAVE_LOAD_BASE_HI_BASE.of (w 0x05C), len := WEAVE_LOAD_LEN_LEN.of (w 0x060)
    epoch := (w 0x064).toNat + 2 ^ 32 * WEAVE_LOAD_EPOCH_HI_EPOCH.of (w 0x068) }

def HangerReq.ofWords (w : Nat → Word) : HangerReq :=
  { cores := HANGER_CFG_CORES.of (w 0x044), part := HANGER_CFG_PART.of (w 0x044), valid := HANGER_CFG_VALID.of (w 0x044) == 1
    bank0 := HANGER_SEGS_BANK0.of (w 0x048), bank1 := HANGER_SEGS_BANK1.of (w 0x048), nseg := HANGER_SEGS_NSEG.of (w 0x048)
    tiles := HANGER_TILES_TILES.of (w 0x04C) }

def EvictReq.ofWords (w : Nat → Word) : EvictReq :=
  { cores := PART_EVICT_CTRL_CORES.of (w 0x05C), deadline := PART_EVICT_CTRL_DEADLINE.of (w 0x05C)
    epoch := (w 0x060).toNat + 2 ^ 32 * PART_EVICT_E_HI_E.of (w 0x064)
    save := (w 0x068).toNat + 2 ^ 32 * PART_EVICT_SAVE_HI_ADDR.of (w 0x06C) }

def Grp.ofWords (w : Nat → Word) : Grp :=
  ⟨MANGLE_G_BASE_BASE.of (w 0x058), MANGLE_G_COUNT_COUNT.of (w 0x05C), MANGLE_G_STRIDE_STRIDE.of (w 0x060),
    MANGLE_G_PART_PART.of (w 0x064), MANGLE_G_PART_VALID.of (w 0x064) == 1⟩

/-! The checks of a touched group, in its owning chapter's order (R520). -/

/-- The status of group `g` of a page. -/
def State.checkGroup (s : State) (path : Path) (page : Nat) (k : Kind) (g : Nat) : Status :=
  let w (off : Nat) : Word := s.stagedWord page off
  let new := s.copyLive path page k [g]
  match k with
  | .chip => if allPorts.any (fun p => !((s.port p).st == .down || (s.port p).st == .failed)) then .busy else .ok
  | .clk => gearCheck (CLK_GEAR_GEAR.of (w 0x044))
  | .pwr => capCheck (PWR_CAP_CAP.of (w 0x040))
  | .lamp => lampCheck fun n => w (0x040 + 4 * n)
  | .cal => s.calCheck
  | .xcache => s.xcacheCheck (XCACHE_CFG_STEPS.of (w 0x040)) (XCACHE_CFG_BASE.of (w 0x040))
  | .shelf => s.nsCheck (s.get page SHELF_NS_SEL_NS) (NsInfo.of w)
  | .tier =>
    s.shadowCheck (s.get page TIER_SH_SEL_ENTRY) (TIER_SH_DRAM_BASE.of (w 0x058)) (TIER_SH_PAGES_PAGES.of (w 0x05C))
      (TIER_SH_NS_NSID.of (w 0x060)) (w 0x064).toNat
  | .scale =>
    let c := w 0x044
    s.scaleCheck s.selScale.1 s.selScale.2 (SCALE_CFG_LEN.of c) (SCALE_CFG_FMT.of c) (SCALE_CFG_POW2.of c) (SCALE_CFG_VALID.of c)
  | .optim => optimCheck (new.hyper (s.get page OPTIM_SEL_SET))
  | .spin => s.spinCheck (SpinReq.ofWords w)
  | .link =>
    match portOf? (page - 0x040) with
    | some p => s.linkCheck p (LINK_CTRL_LANES.of (w 0x040)) (LINK_CTRL_PRESET.of (w 0x040))
    | none => .ok
  | .weave => s.weaveCheck (WLoad.ofWords w)
  | .mangle =>
    let i := s.get page MANGLE_SEL_INDEX
    if s.get page MANGLE_SEL_KIND ≠ g then .mismatch
    else if g = 0 then s.mangleDescCheck i (CollDesc.of (w 0x044) (w 0x048) (w 0x04C) (w 0x050) (w 0x054))
    else s.mangleGroupCheck i (Grp.ofWords w)
  | .hanger => s.hangerCheck s.selModel (HangerReq.ofWords w)
  | .press =>
    s.pressMcCheck (s.get page PRESS_MC_SEL_ENTRY) (PRESS_MC_ENTRY_GROUP.of (w 0x044))
  | .xring =>
    let n := s.get page XRING_SEL_RING
    s.ringCheck n (new.ringInfo n) (XRING_REC_RECU.of (w 0x04C)) (XRING_REC_DEPTH.of (w 0x04C))
  | .patch =>
    if g = 0 then s.instCheck s.selInst (new.instInfo s.selInst.1)
    else s.entryCheck s.selInst (s.get page PATCH_SEL_ENTRY) (stagedEntry w)
  | .part =>
    if g = 0 then s.partCoreCheck fun c => Member.of (w (0x040 + 4 * c.1))
    else if g = 1 then s.grantCheck (GrantReq.of (w 0x050))
    else s.evictCheck (EvictReq.ofWords w)
  | .ctx =>
    if g = 0 then s.bindCheck (ctxOf page) (Binding.of w) else s.queueCheck (ctxOf page) (w 0x054).toNat (w 0x05C).toNat
  | .lintsnap => snapCheck (w 0x044)
  | .therm | .mgmt | .access | .repair | .core | .cmem | .xmem | .dram | .lint | .hostif => .ok

/-! The effects of an accepted group. -/

/-- Groups whose values are stored by what applies them: a shadow entry that is released keeps its range, and a patch entry
lies in DRAM. -/
def ownCopy (k : Kind) (g : Nat) : Bool := k == .tier || k == .scale || (k == .patch && g == 1)

/-- What an accepted group does beside replacing its live copy; `old` is the state before the COMMIT, `s` has the new live
copies. -/
def State.applyGroup (s old : State) (path : Path) (page : Nat) (k : Kind) (g : Nat) : State :=
  let w (off : Nat) : Word := old.stagedWord page off
  match k with
  | .chip => s.raise page Ev.PCN_SET (byPath path) (arg s.pcn.toNat)
  | .clk => s.gearCommand (s.get page CLK_GEAR_GEAR) (s.pair page 0 CLK_GEAR_E_LO_E CLK_GEAR_E_HI_E)
  | .pwr => s.capCommand (old.get page PWR_CAP_CAP) (s.get page PWR_CAP_CAP)
  | .cal => s.calCommitted [s.get page CAL_SEL_SECTION]
  | .xcache => s.xcacheApply (old.get page XCACHE_CFG_STEPS) (old.get page XCACHE_CFG_BASE)
  | .shelf =>
    let ns := s.get page SHELF_NS_SEL_NS
    s.nsApply ns (old.nsInfo ns)
  | .tier =>
    s.shadowApply (s.get page TIER_SH_SEL_ENTRY) (TIER_SH_DRAM_BASE.of (w 0x058)) (TIER_SH_PAGES_PAGES.of (w 0x05C))
      (TIER_SH_NS_NSID.of (w 0x060)) (w 0x064).toNat
  | .scale => s.scaleApply s.selScale.1 s.selScale.2 (w 0x044 &&& rwsMask .scale 0x044)
  | .spin => s.spinStart (SpinReq.ofWords w)
  | .weave => s.weaveStart (WLoad.ofWords w)
  | .mangle => if g = 0 then s else s.mangleGroupReset (s.get page MANGLE_SEL_INDEX)
  | .hanger => s.hangerApply s.selModel
  | .xring => s.ringApply (s.get page XRING_SEL_RING)
  | .patch =>
    if g = 0 then s.instApply s.selInst else s.entryApply s.selInst (s.get page PATCH_SEL_ENTRY) (stagedEntry w)
  | .part =>
    if g = 0 then s.partCoreApply old.member
    else if g = 1 then s.grantApply (GrantReq.of (w 0x050))
    else s.evictApply (EvictReq.ofWords w)
  | .ctx => if g = 0 then s.bindApply (ctxOf page) else s.queueApply (ctxOf page)
  | .lamp | .optim | .link | .press | .lintsnap => s
  | .therm | .mgmt | .access | .repair | .core | .cmem | .xmem | .dram | .lint | .hostif => s

/-! COMMIT, R519-R522. -/

/-- The groups that a path's COMMIT acts on: of a CTX page, a VF its queue group and every other path the binding group
(13_partitions.md R499). -/
def pathGroups (k : Kind) (path : Path) : List Nat :=
  let all := List.range k.groups.length
  match k, path with
  | .ctx, .vf _ => [1]
  | .ctx, _ => [0]
  | _, _ => all

/-- COMMIT_STATUS after a COMMIT. -/
def State.committed (s : State) (page : Nat) (st : Status) (g : Nat) : State :=
  (s.setStatus page COMMIT_STATUS_STATUS st).set page COMMIT_STATUS_GROUP g

/-- APPLY: every touched group is checked in order, and all are applied together or none (R520). -/
def State.commitApply (s : State) (path : Path) (page : Nat) (k : Kind) (gs : List Nat) : State :=
  match gs.find? (fun g => s.checkGroup path page k g != .ok) with
  | some g => s.committed page (s.checkGroup path page k g) g
  | none =>
    let t := (s.copyLive path page k (gs.filter fun g => !ownCopy k g)).untouch page k gs
    let t := eachOf gs (fun g t => t.applyGroup s path page k g) t
    t.committed page .ok (gs.headD 0)

/-- A write of COMMIT (R519-R522, R526). -/
def State.commitWrite (s : State) (path : Path) (page : Nat) (k : Kind) (val : Word) : State :=
  let s := s.set page COMMIT_STATUS_SEQ (s.get page COMMIT_STATUS_SEQ + 1)
  let gs := (pathGroups k path).filter fun g => s.isTouched page g
  match val.getLsbD 0, val.getLsbD 1 with
  | true, true =>
    (s.violation page VIOLATION_COMMIT_BAD Ev.COMMIT_BAD path COMMIT_APPLY.off).committed page .param 0
  | false, false => s.committed page .ok 0
  | apply, _ =>
    if s.flag page PAGE_STATUS_READY = false then s.committed page .busy 0
    else if apply then s.commitApply path page k gs
    else (s.untouch page k gs).committed page .ok (gs.headD 0)

/-! A write by access code, 00_scope.md R6; R523, R524. -/

/-- A level-type bit of INT_STATUS is set in every PCLK in which its condition holds: a clear in such a PCLK leaves it set (R512,
00_scope.md R7). -/
def State.holdLevels (s : State) (page off : Nat) : State :=
  if off = INT_STATUS_STATUS.off then
    s.setWord page 0 off (s.word page 0 off ||| BitVec.ofNat 32 (s.levels page))
  else s

/-- The fields of a register that software stores into: RW, RWL while unlocked, W1C and W1S. -/
def State.storeWrite (s : State) (path : Path) (page : Nat) (k : Kind) (off : Nat) (val : Word) : State :=
  let locked := s.flag page PAGE_LOCK_LOCK
  let idx := s.entryIdx path page off
  let live := s.word page idx off
  let rw := coverMask k off fun f => f.acc == .rw || (f.acc == .rwl && !locked)
  let w1c := coverMask k off fun f => f.acc == .w1c
  let w1s := coverMask k off fun f => f.acc == .w1s
  let s := s.setWord page idx off ((((live &&& ~~~rw) ||| (val &&& rw)) &&& ~~~(val &&& w1c)) ||| (val &&& w1s))
  let s := s.holdLevels page off
  if locked ∧ (fieldsAt k off).any (fun f => f.acc == .rwl) then s.violation page VIOLATION_LOCK_WRITE Ev.LOCK_WRITE path off
  else s

/-! The actions of single registers. -/

/-- A write of CORE_CTRL without owner debug is ignored and logged with the core as its ORIGIN; when its path differs from that of
the write refused before, a second record names the path (03_bundles.md R118, R119; log 93). -/
def State.ctrlDenied (s : State) (c : CoreId) (path : Path) : State :=
  let pg := Page.core c.1
  let other := (s.core c).denied.any (· != path)
  let s := s.raise pg Ev.CTRL_DENIED (byCore c) (arg CORE_CTRL_HALT_REQ.off)
  let s := if other then s.raise pg Ev.CTRL_DENIED (byPath path) (arg CORE_CTRL_HALT_REQ.off) else s
  s.updCore c fun k => { k with denied := some path }

/-- A core goes on after a stop of its clock: the CCLK of the stop do not count (04_contract.md R121). -/
def State.goesOn (s : State) (c : CoreId) : State :=
  s.updCore c fun k => { k with start := max k.start (s.clock.cclk - k.cyc) }

/-- A write of CORE_CTRL with owner debug open: HALT_REQ halts at the next boundary, which is now between two bundles; STEP lets
a core in DEBUG_HALT issue one bundle (03_bundles.md R117-R119). -/
def State.coreCtrl (s : State) (c : CoreId) (path : Path) (val : Word) : State :=
  let pg := Page.core c.1
  if s.ownerOpen = false then s.ctrlDenied c path
  else
    let s := s.set pg CORE_CTRL_BRK_EN (CORE_CTRL_BRK_EN.of val)
    let s := if val.getLsbD 0 then s.set pg CORE_CTRL_HALT_REQ 1 else s
    let k := s.core c
    if val.getLsbD 1 ∧ k.st = .debugHalt then
      (s.goesOn c).updCore c fun k => { k with st := .running, stepping := true }
    else if s.flag pg CORE_CTRL_HALT_REQ ∧ k.st = .running ∧ k.bundle.opened = false then s.debugHalt c
    else s

/-- A write of a word of ACCESS_OWNER_PW: the first one stands (18_access.md R642). -/
def State.pwWrite (s : State) (path : Path) (n : Nat) (off : Nat) (val : Word) : State :=
  if s.mgmt.pwWords.getLsbD n then s.violation Page.access VIOLATION_WO_REWRITE Ev.WO_REWRITE path off
  else
    let s := s.set Page.access (ACCESS_OWNER_PW_DIGEST.nth n) val.toNat
    let s := s.updMgmt fun m => { m with pwWords := m.pwWords ||| BitVec.ofNat 4 (2 ^ n) }
    if s.mgmt.pwWords = 15 then s.set Page.access ACCESS_STATE_PW_SET 1 else s

/-- QUIESCE_N returns high or is masked: held cores and engines go on (18_access.md R639). -/
def State.quiesceOff (s : State) : State :=
  if s.pins.quiesceLow = false then s
  else
    let s : State := { s with pins := { s.pins with quiesceLow := false } }
    let s := eachOf allCores (fun c s =>
      if (s.core c).quiet then (s.goesOn c).updCore c fun k => { k with quiet := false } else s) s
    ((s.updMgmt fun m => { m with stuck := false }).set Page.mgmt MGMT_QSC_QUIESCED 0).raise Page.mgmt Ev.QUIESCE_EXIT

/-- What a written word starts, once its fields are stored; `old` is the state before the write, `post` what a POST of the
mailbox does. -/
def State.startWrite (s old : State) (post : State → State) (path : Path) (page : Nat) (k : Kind) (off : Nat) (val : Word) : State :=
  let core := coreOf page
  match k with
  | .core => if off = CORE_CONTRACT_CTRL_COUNT_CLR.off ∧ CORE_CONTRACT_CTRL_COUNT_CLR.of val = 1 then s.clearCounters core else s
  | .cmem => if off = CMEM_BIST_START.off ∧ CMEM_BIST_START.of val = 1 then s.cmemBist core else s
  | .xmem => if off = XMEM_BIST_START.off ∧ XMEM_BIST_START.of val = 1 then s.xmemBist else s
  | .link =>
    match portOf? (page - 0x040) with
    | some p => if off = LINK_CTRL_ENABLE.off then s.linkCtrlWritten p (LINK_CTRL_RETRAIN.of val == 1) else s
    | none => s
  | .weave =>
    if off = WEAVE_CTRL_MASTER.off then s.masterWritten (old.flag page WEAVE_CTRL_MASTER) (WEAVE_CTRL_MASTER.of val == 1) else s
  | .clk => if off = CLK_REF_SRC.off ∧ CLK_REF_SRC.of val ≠ old.get page CLK_REF_SRC then s.refSourceChanged else s
  | .pwr => if off = PWR_CTRL_PEAK_CLR.off ∧ PWR_CTRL_PEAK_CLR.of val = 1 then s.set page PWR_PEAK_DECIW 0 else s
  | .therm => if off = THERM_CTRL_PEAK_CLR.off ∧ THERM_CTRL_PEAK_CLR.of val = 1 then s.set page THERM_PEAK_TEMP 0 else s
  | .hostif => if off = HOSTIF_MBOX_CTRL_POST.off ∧ HOSTIF_MBOX_CTRL_POST.of val = 1 then post s else s
  | .access =>
    if off = ACCESS_CTRL_OPEN_PW.off then
      let (raw, s) := s.freshBytes 640
      s.accessActions path val raw
    else if ACCESS_OWNER_PW_DIGEST.at off then s.pwWrite path ((off - ACCESS_OWNER_PW_DIGEST.off) / 4) off val
    else if ACCESS_TRY_TRY.at off then
      s.updMgmt fun m => { m with tries := m.tries.setIfInBounds ((off - ACCESS_TRY_TRY.off) / 4) val }
    else if ACCESS_SIG_SIG.at off then
      s.updMgmt fun m => { m with sig := m.sig.setIfInBounds ((off - ACCESS_SIG_SIG.off) / 4) val }
    else s
  | .cal => if off = CAL_DERIVE_START.off then s.deriveStart val else s
  | .mgmt => if off = MGMT_QSC_QSC_MASK.off ∧ s.flag page MGMT_QSC_QSC_MASK then s.quiesceOff else s
  | .lint =>
    if off = LINT_LASTGASP_ACK.off ∧ LINT_LASTGASP_ACK.of val = 1 then s.gaspAck
    else if off = LINT_RD_SEL_SLOT.off then s.lintLatch path val false
    else if off = LINT_CLEAR_REQ.off ∧ LINT_CLEAR_REQ.of val = 1 then s.clearRequest path
    else s
  | .ctx =>
    if off = CTX_SQ_DB_TAIL.off then s.sqTail (ctxOf page) path (CTX_SQ_DB_TAIL.of val)
    else if off = CTX_CQ_DB_HEAD.off then s.cqHead (ctxOf page) path (CTX_CQ_DB_HEAD.of val)
    else s
  | .chip | .lamp | .repair | .xcache | .dram | .shelf | .tier | .scale | .optim | .spin | .mangle | .press | .hanger | .xring
  | .patch | .part | .lintsnap => s

/-- The effect of a whole-word write that reaches its register. -/
def State.wordWrite (s : State) (post : State → State) (path : Path) (page : Nat) (k : Kind) (off : Nat) (val : Word) : State :=
  if off = COMMIT_APPLY.off then s.commitWrite path page k val
  else if off < 0x040 then s.storeWrite path page k off val
  else if k = .core ∧ off = CORE_CTRL_HALT_REQ.off then s.coreCtrl (coreOf page) path val
  else
    let t := s.untouch page k (k.selects off)
    let t := (t.storeWrite path page k off val).stageWrite path page k off val
    t.startWrite s post path page k off val

/-- A write access to a register with its effect (R503-R508, R525). -/
def State.registerWrite (s : State) (post : State → State) (path : Path) (page off be : Nat) (val : Word) : State :=
  s.writeAccess path page off be fun s =>
    match kindOf page with
    | some k => s.wordWrite post path page k off val
    | none => s

end Sys2Proof.Machine
end

