-- ==== Sys2Proof/Machine/Mgmt.lean ====
section
/-!
DEFINITION. The management path and its operations, the mailbox, SMBus held low and QUIESCE_N (18_access.md R632-R639;
14_pages.md R535; 16_reset.md R582, R592).
-/
namespace Sys2Proof.Machine

open Reg

/-! Operations, R634-R636: a status, the reply's data and the state after. -/

/-- What an operation answers. -/
abbrev Answer := Status × List Byte × State

/-- An answer without data. -/
def State.answer (s : State) (st : Status) : Answer := (st, [], s)

/-- Whether PAGE, OFFSET and COUNT are out of range. -/
def wordsBad (page off count : Nat) : Bool :=
  decide (count < 1) || decide (60 < count) || decide (0xFFF < page) || off % 4 != 0 || decide (0x1000 < off + 4 * count)

/-- READ: COUNT register words. -/
def State.opRead (s : State) (page off count : Nat) : Answer :=
  if wordsBad page off count then s.answer .param
  else
    let (bs, s) := (List.range count).foldl (fun (r : List Byte × State) i =>
      let (w, s) := r.2.readAccess .mgmt page (off + 4 * i)
      (r.1 ++ leBytes 4 w.toNat, s)) ([], s)
    (.ok, bs, s)

/-- HOSTIF_MBOX_STATUS.REPLY is set; bit 8 latches when it becomes set (14_pages.md R513). -/
def State.mboxReplySet (s : State) : State :=
  if s.flag Page.hostif HOSTIF_MBOX_STATUS_REPLY then s else (s.set Page.hostif HOSTIF_MBOX_STATUS_REPLY 1).latch Page.hostif 8

/-- WRITE: COUNT word writes in ascending offset. A POST among them finds the request before it not answered. -/
def State.opWrite (s : State) (page off count : Nat) (data : List Word) : Answer :=
  let post (s : State) : State :=
    if s.flag Page.hostif HOSTIF_MGMT_SMBUS_DEAD then s.setStatus Page.hostif HOSTIF_MBOX_STATUS_STATUS .busy
    else (s.setStatus Page.hostif HOSTIF_MBOX_STATUS_STATUS .notReady).mboxReplySet
  if wordsBad page off count || data.length != count then s.answer .param
  else (eachOf ((List.range count).zip data) (fun x s => s.registerWrite post .mgmt page (off + 4 * x.1) 15 x.2) s).answer .ok

/-- Where an image lies in the NOR, and its size (01_machine.md R16). -/
def norBase (image : Nat) : Nat := [0, 0x01800000, calBase, 0x03010000].getD image 0
def norSize (image : Nat) : Nat := if image < 2 then imageSize else calBytes

/-- Whether an image may not be erased or written (R635). -/
def State.imageLocked (s : State) (image : Nat) : Bool :=
  if image < 2 then s.flag Page.chip CHIP_STATUS_MGMT_UP && s.get Page.mgmt MGMT_FW_IMAGE == image
  else decide (s.accessLevel < 2)

/-- IMG_ERASE: the erase starts. -/
def State.opErase (s : State) (image : Nat) : Answer :=
  if h : image < 4 then
    if s.mgmt.erasing.isSome then s.answer .busy
    else if s.imageLocked image then s.answer .readOnly
    else (s.updMgmt fun m => { m with erasing := some ⟨image, h⟩ }).answer .ok
  else s.answer .param

/-- Program bytes of the NOR: a bit that is 0 stays 0 (R654). -/
def norProgram (m : Mem) (a : Nat) : List Byte → Mem
  | [] => m
  | b :: r => norProgram (m.setByte a (m.byte a norFill &&& b) norFill) (a + 1) r

/-- IMG_WRITE: bytes of an image are programmed. -/
def State.opImgWrite (s : State) (image off : Nat) (data : List Byte) : Answer :=
  if 3 < image ∨ off % 4 ≠ 0 ∨ 240 < data.length ∨ norSize image < off + data.length then s.answer .param
  else if s.mgmt.erasing.isSome then s.answer .busy
  else if s.imageLocked image then s.answer .readOnly
  else ({ s with nor := norProgram s.nor (norBase image + off) data } : State).answer .ok

/-- IMG_READ: COUNT words of an image. -/
def State.opImgRead (s : State) (image off count : Nat) : Answer :=
  if 3 < image ∨ count < 1 ∨ 60 < count ∨ norSize image < off + 4 * count then s.answer .param
  else if s.mgmt.erasing.isSome then s.answer .busy
  else (.ok, s.nor.read (norBase image + off) (4 * count) norFill, s)

/-- SPACE 0xF of MEM_READ: the register files of a core. -/
def Core.regBytes (k : Core) : List Byte :=
  (k.s.toList.flatMap fun x => leBytes 8 x.toNat) ++ (k.a.toList.flatMap fun x => leBytes 8 x.toNat) ++
    ((List.range 16).map fun i => BitVec.ofNat 8 (k.p.getLsbD i).toNat) ++
    (k.t.toList.flatMap fun x => leBytes 16 x.toNat) ++ (k.v.toList.flatMap fun x => wordBytes x.toList)

/-- Bytes of SPACE 0xF. -/
abbrev regFileBytes : Nat := 1680 + 32 * 2048

/-- MEM_READ: COUNT words of a memory or the register files of a core that does not run; an uncorrectable word ends it ECC_FATAL
(05_buffers.md R174). -/
def State.opMemRead (s : State) (core space off count : Nat) : Answer :=
  let size := if space = 15 then some regFileBytes else if space = 0 ∨ (3 ≤ space ∧ space ≤ 6) then spaceSize space else none
  match size with
  | none => s.answer .param
  | some size =>
    if 3 < core ∨ count < 1 ∨ 60 < count ∨ size < off + 4 * count then s.answer .param
    else if s.ownerOpen = false then s.answer .authFail
    else
      let c := coreOf core
      let k := s.core c
      if s.inReset (Page.core core) ∨ k.st = .running ∨ k.st = .waiting then s.answer .busy
      else if space = 15 then (.ok, slice k.regBytes off (4 * count), s)
      else
        let m := memOfSpace c space
        let bad := s.uesIn m off (4 * count)
        if bad.isEmpty then (.ok, s.readMem m off (4 * count), s) else (s.foundUe m bad).answer .eccFatal

/-! Requests by SMBus. -/

/-- The reply's body is sent to the TC (R633). A message that arrives shows that the interface is no longer RESETTING. -/
def State.smbReply (s : State) (op : Nat) (tag : Byte) (st : Status) (data : List Byte) : State :=
  let s := if s.get Page.mgmt MGMT_STATUS_SMBUS = 1 then s.set Page.mgmt MGMT_STATUS_SMBUS 0 else s
  s.updMgmt fun m => { m with reply := leBytes 1 (op + 0x80) ++ [tag] ++ leBytes 1 st.code ++ [0] ++ data }

/-- A request reaches the management core: in reset it is answered RESET_NACK (16_reset.md R582), and a chip that stays in the
boot ROM answers only the writing of images (16_reset.md R590). -/
def State.request (s : State) (op : Nat) (out : State → Status → List Byte → State) (run : State → State) : State :=
  if s.resets.cold then s
  else if s.resets.warm ∨ s.resets.mgmt then out s .resetNack []
  else if s.flag Page.chip CHIP_STATUS_MGMT_UP = false ∧ op ≠ 4 ∧ op ≠ 5 then s
  else run s

/-- A request whose answer is known at once. -/
def State.smbRequest (s : State) (op : Nat) (tag : Byte) (run : State → Answer) : State :=
  s.request op (fun s st data => s.smbReply op tag st data) fun s =>
    let (st, data, s) := run s
    s.smbReply op tag st data

/-- READ. -/
def execRead (tag : Byte) (page off : BitVec 16) (count : Byte) (s : State) : Host.Outcome State Fault Refusal :=
  .next (s.smbRequest 1 tag fun s => s.opRead page.toNat off.toNat count.toNat)

/-- WRITE. -/
def execWrite (tag : Byte) (page off : BitVec 16) (count : Byte) (data : List Word) (s : State) :
    Host.Outcome State Fault Refusal :=
  .next (s.smbRequest 2 tag fun s => s.opWrite page.toNat off.toNat count.toNat data)

/-- RESET: answered as 16_reset.md R579 says. -/
def execReset (tag : Byte) (domain : Byte) (arg : Word) (s : State) : Host.Outcome State Fault Refusal :=
  .next (s.request 3 (fun s st data => s.smbReply 3 tag st data) fun s => s.requestReset (some tag) domain.toNat arg.toNat)

/-- IMG_ERASE. -/
def execImgErase (tag : Byte) (image : Byte) (s : State) : Host.Outcome State Fault Refusal :=
  .next (s.smbRequest 4 tag fun s => s.opErase image.toNat)

/-- IMG_ERASE_DONE: the erase ends; every byte of the image reads 0xFF. -/
def execImgEraseDone (s : State) : Host.Outcome State Fault Refusal :=
  .next (match s.mgmt.erasing with
    | none => s
    | some i =>
      ({ s with nor := s.nor.erase (norBase i.1) (norSize i.1) } : State).updMgmt fun m => { m with erasing := none })

/-- IMG_WRITE. -/
def execImgWrite (tag : Byte) (image : Byte) (off : Word) (data : List Byte) (s : State) : Host.Outcome State Fault Refusal :=
  .next (s.smbRequest 5 tag fun s => s.opImgWrite image.toNat off.toNat data)

/-- IMG_READ. -/
def execImgRead (tag : Byte) (image : Byte) (off : Word) (count : Byte) (s : State) : Host.Outcome State Fault Refusal :=
  .next (s.smbRequest 6 tag fun s => s.opImgRead image.toNat off.toNat count.toNat)

/-- MEM_READ. -/
def execMemRead (tag : Byte) (core space : Byte) (off : Dword) (count : Byte) (s : State) : Host.Outcome State Fault Refusal :=
  .next (s.smbRequest 7 tag fun s => s.opMemRead core.toNat space.toNat off.toNat count.toNat)

/-! The mailbox, 14_pages.md R535. -/

/-- The request in MBOX_DATA is executed as a management-path message (R633, R634); one that is short of its operation's
parameters, or longer than the buffer, is out of range. -/
def State.mboxExecute (s : State) : State :=
  let b := (List.range 64).flatMap fun n => leBytes 4 (s.get Page.hostif (HOSTIF_MBOX_DATA_DATA.nth n))
  let op := field b 0 1
  let tag := b.getD 1 0
  let len := field b 2 2
  let need := [0, 5, 8, 8, 1, 8, 9, 13].getD op 0
  let bad := op == 0 || decide (7 < op) || decide (len < need) || decide (252 < len)
  let count (i : Nat) : Nat := field b i 1
  let out (s : State) (st : Status) (data : List Byte) : State := s.reply op tag st data
  let run (a : Answer) : State := a.2.2.reply op tag a.1 a.2.1
  s.request op (fun s st data => (out s st data).setStatus Page.hostif HOSTIF_MBOX_STATUS_STATUS st) fun s =>
    if bad then out s .param []
    else
      match op with
      | 1 => run (s.opRead (field b 4 2) (field b 6 2) (count 8))
      | 2 =>
        if len < 8 + 4 * count 8 then out s .param []
        else run (s.opWrite (field b 4 2) (field b 6 2) (count 8) (bytesWords (count 8) (b.drop 12)))
      | 3 => s.requestReset (some tag) (field b 4 1) (field b 8 4)
      | 4 => run (s.opErase (field b 4 1))
      | 5 => run (s.opImgWrite (field b 4 1) (field b 8 4) (slice b 12 (len - 8)))
      | 6 => run (s.opImgRead (field b 4 1) (field b 8 4) (count 12))
      | _ => run (s.opMemRead (field b 4 1) (field b 5 1) (field b 8 8) (count 16))

/-- A POST. -/
def State.mboxPost (s : State) : State :=
  if s.flag Page.hostif HOSTIF_MGMT_SMBUS_DEAD = false then
    (s.setStatus Page.hostif HOSTIF_MBOX_STATUS_STATUS .notReady).mboxReplySet
  else if s.mgmt.mboxBusy then s.setStatus Page.hostif HOSTIF_MBOX_STATUS_STATUS .busy
  else ((s.set Page.hostif HOSTIF_MBOX_STATUS_REPLY 0).updMgmt fun m => { m with mboxBusy := true }).mboxExecute

/-- MBOX_POST. -/
def execMboxPost (path : Path) (s : State) : Host.Outcome State Fault Refusal :=
  .next (s.registerWrite State.mboxPost path Page.hostif HOSTIF_MBOX_CTRL_POST.off 15 1)

/-! SMBus held low, R637. -/

/-- SMBUS_RESET: a line has been low for more than 35 ms. -/
def execSmbusReset (s : State) : Host.Outcome State Fault Refusal :=
  .next (if s.resets.cold ∨ s.flag Page.hostif HOSTIF_MGMT_SMBUS_DEAD then s
    else ((s.set Page.mgmt MGMT_STATUS_SMBUS 1).add Page.mgmt MGMT_SMB_RESETS_COUNT 1).raise Page.mgmt Ev.SMBUS_RESET)

/-- SMBUS_DEAD: a line is still low 100 ms after that reset. -/
def execSmbusDead (s : State) : Host.Outcome State Fault Refusal :=
  .next (if s.resets.cold ∨ s.get Page.mgmt MGMT_STATUS_SMBUS ≠ 1 then s
    else
      let s := ((s.set Page.mgmt MGMT_STATUS_SMBUS 2).set Page.mgmt MGMT_STATUS_PATH 1).set Page.hostif HOSTIF_MGMT_SMBUS_DEAD 1
      (s.raise Page.mgmt Ev.SMBUS_DEAD).raise Page.hostif Ev.MBOX_ACTIVE)

/-- SMBUS_BACK: both lines have been high for 1 s while DEAD. -/
def execSmbusBack (s : State) : Host.Outcome State Fault Refusal :=
  .next (if s.resets.cold ∨ s.flag Page.hostif HOSTIF_MGMT_SMBUS_DEAD = false then s
    else
      let s := ((s.set Page.mgmt MGMT_STATUS_SMBUS 0).set Page.mgmt MGMT_STATUS_PATH 0).set Page.hostif HOSTIF_MGMT_SMBUS_DEAD 0
      s.raise Page.mgmt Ev.SMBUS_BACK)

/-! QUIESCE_N, R638, R639. -/

/-- Whether a chip engine has a descriptor in progress. -/
def State.descRunning (s : State) : Bool :=
  (s.tier.queues.toList.flatten ++ s.eng.press.toList.flatten ++ s.eng.ring.toList.flatten ++ s.eng.patch.toList.flatten).any
    fun d => d.begun

/-- QUIESCED: every core is held and no descriptor is in progress; it is logged once in a quiesce. -/
def State.quiesceSettle (s : State) : State :=
  if s.pins.quiesceLow && !s.flag Page.mgmt MGMT_QSC_QUIESCED && s.heldMask == 15 && !s.descRunning then
    (s.set Page.mgmt MGMT_QSC_QUIESCED 1).raise Page.mgmt Ev.QUIESCE_ENTER
  else s

/-- QUIESCE_ENTER: QUIESCE_N has been low for 1 us, unless QSC_MASK is set; given again, the chip looks again whether it is
QUIESCED. -/
def execQuiesceEnter (s : State) : Host.Outcome State Fault Refusal :=
  .next (if s.resets.cold ∨ s.flag Page.mgmt MGMT_QSC_QSC_MASK then s
    else ({ s with pins := { s.pins with quiesceLow := true } } : State).quiesceSettle)

/-- QUIESCE_STUCK: QUIESCE_N has been low for 10 s; logged once. -/
def execQuiesceStuck (s : State) : Host.Outcome State Fault Refusal :=
  .next (if s.pins.quiesceLow = false ∨ s.mgmt.stuck then s
    else (s.updMgmt fun m => { m with stuck := true }).raise Page.mgmt Ev.QUIESCE_STUCK)

/-- QUIESCE_EXIT: QUIESCE_N returns high. -/
def execQuiesceExit (s : State) : Host.Outcome State Fault Refusal := .next s.quiesceOff

end Sys2Proof.Machine
end

