-- ==== Sys2Proof/Machine/Writes.lean ====
section
/-!
DEFINITION. The commands that are register writes (14_pages.md R502-R524) and BAR accesses (R509; 13_partitions.md R476). A COMMIT row
is a write of COMMIT to its page: what it does follows from the groups that are touched (log 34).
-/
namespace Sys2Proof.Machine

open Reg

/-! Writes of any register. -/

/-- REGISTER_WRITE. -/
def execRegisterWrite (path : Path) (page off : BitVec 12) (be : BitVec 4) (val : Word) (s : State) :
    Host.Outcome State Fault Refusal :=
  .next (s.registerWrite State.mboxPost path page.toNat off.toNat be.toNat val)

/-- A whole-word write of a register other than the mailbox's. -/
def State.put (s : State) (path : Path) (page off : Nat) (val : Word) : State :=
  s.registerWrite State.mboxPost path page off 15 val

/-- The word that rewrites a register's stored fields as they read, with some of its fields replaced. -/
def State.amend (s : State) (path : Path) (page off : Nat) (fs : List (Fld × Nat)) : Word :=
  let stored := match kindOf page with
    | some k => coverMask k off fun f => f.acc == .rw || f.acc == .rws || f.acc == .rwl
    | none => 0
  fs.foldl (fun w f => f.1.into w f.2) (s.pageWord path page off &&& stored)

/-- Write some fields of a register, the others as they read. -/
def State.putFields (s : State) (path : Path) (page : Nat) (fs : List (Fld × Nat)) : State :=
  match fs with
  | [] => s
  | f :: _ => s.put path page f.1.off (s.amend path page f.1.off fs)

/-- A write of COMMIT.APPLY. -/
def State.apply (s : State) (path : Path) (page : Nat) : State := s.put path page COMMIT_APPLY.off 1

/-- COMMIT_APPLY. -/
def execCommitApply (path : Path) (page : BitVec 12) (s : State) : Host.Outcome State Fault Refusal :=
  .next (s.apply path page.toNat)
/-- COMMIT_DISCARD. -/
def execCommitDiscard (path : Path) (page : BitVec 12) (s : State) : Host.Outcome State Fault Refusal :=
  .next (s.put path page.toNat COMMIT_APPLY.off 2)
/-- COMMIT_BAD. -/
def execCommitBad (path : Path) (page : BitVec 12) (s : State) : Host.Outcome State Fault Refusal :=
  .next (s.put path page.toNat COMMIT_APPLY.off 3)
/-- SEL_WRITE. -/
def execSelWrite (path : Path) (page off : BitVec 12) (val : Word) (s : State) : Host.Outcome State Fault Refusal :=
  .next (s.put path page.toNat off.toNat val)
/-- PAGE_LOCK_SET. -/
def execPageLockSet (path : Path) (page : BitVec 12) (s : State) : Host.Outcome State Fault Refusal :=
  .next (s.put path page.toNat PAGE_LOCK_LOCK.off 1)

/-! COMMIT of each page. -/

/-- CHIP_PCN_COMMIT, R531. -/
def execChipPcnCommit (path : Path) (s : State) : Host.Outcome State Fault Refusal := .next (s.apply path Page.chip)
/-- XCACHE_COMMIT, 05_buffers.md R168. -/
def execXcacheCommit (path : Path) (s : State) : Host.Outcome State Fault Refusal := .next (s.apply path Page.xcache)
/-- TIER_SHADOW_COMMIT, 06_tiers.md R216. -/
def execTierShadowCommit (path : Path) (s : State) : Host.Outcome State Fault Refusal := .next (s.apply path Page.tier)
/-- SHELF_NS_COMMIT, 06_tiers.md R227. -/
def execShelfNsCommit (path : Path) (s : State) : Host.Outcome State Fault Refusal := .next (s.apply path Page.shelf)
/-- SCALE_COMMIT, 07_numerics.md R275. -/
def execScaleCommit (path : Path) (s : State) : Host.Outcome State Fault Refusal := .next (s.apply path Page.scale)
/-- OPTIM_COMMIT, 07_numerics.md R276. -/
def execOptimCommit (path : Path) (s : State) : Host.Outcome State Fault Refusal := .next (s.apply path Page.optim)
/-- LINK_CTRL_COMMIT, 09_weave.md R352. -/
def execLinkCtrlCommit (path : Path) (p : PortId) (s : State) : Host.Outcome State Fault Refusal :=
  .next (s.apply path (Page.link p.1))
/-- WEAVE_LOAD_COMMIT, 09_weave.md R353. -/
def execWeaveLoadCommit (path : Path) (s : State) : Host.Outcome State Fault Refusal := .next (s.apply path Page.weave)
/-- MANGLE_DESC_COMMIT, 10_mangle.md R387. -/
def execMangleDescCommit (path : Path) (s : State) : Host.Outcome State Fault Refusal := .next (s.apply path Page.mangle)
/-- MANGLE_GROUP_COMMIT, 10_mangle.md R387. -/
def execMangleGroupCommit (path : Path) (s : State) : Host.Outcome State Fault Refusal := .next (s.apply path Page.mangle)
/-- HANGER_COMMIT, 11_press.md R437. -/
def execHangerCommit (path : Path) (s : State) : Host.Outcome State Fault Refusal := .next (s.apply path Page.hanger)
/-- PRESS_MC_COMMIT, 11_press.md R438. -/
def execPressMcCommit (path : Path) (s : State) : Host.Outcome State Fault Refusal := .next (s.apply path Page.press)
/-- XRING_COMMIT, 11_press.md R439. -/
def execXringCommit (path : Path) (s : State) : Host.Outcome State Fault Refusal := .next (s.apply path Page.xring)
/-- PATCH_INSTANCE_COMMIT, 12_serving.md R466. -/
def execPatchInstanceCommit (path : Path) (s : State) : Host.Outcome State Fault Refusal := .next (s.apply path Page.patch)
/-- PATCH_ENTRY_COMMIT, 12_serving.md R466. -/
def execPatchEntryCommit (path : Path) (s : State) : Host.Outcome State Fault Refusal := .next (s.apply path Page.patch)
/-- PART_CORE_COMMIT, 13_partitions.md R496. -/
def execPartCoreCommit (path : Path) (s : State) : Host.Outcome State Fault Refusal := .next (s.apply path Page.part)
/-- GRANT, 13_partitions.md R497. -/
def execGrant (path : Path) (s : State) : Host.Outcome State Fault Refusal := .next (s.apply path Page.part)
/-- RELEASE, 13_partitions.md R473, R497. -/
def execRelease (path : Path) (s : State) : Host.Outcome State Fault Refusal := .next (s.apply path Page.part)
/-- EVICT_COMMIT, 13_partitions.md R489, R498. -/
def execEvictCommit (path : Path) (s : State) : Host.Outcome State Fault Refusal := .next (s.apply path Page.part)
/-- CTX_BIND_COMMIT, 13_partitions.md R499. -/
def execCtxBindCommit (path : Path) (ctx : CtxId) (s : State) : Host.Outcome State Fault Refusal :=
  .next (s.apply path (Page.ctx ctx.1))
/-- CTX_QUEUE_COMMIT, 13_partitions.md R499. -/
def execCtxQueueCommit (path : Path) (ctx : CtxId) (s : State) : Host.Outcome State Fault Refusal :=
  .next (s.apply path (Page.ctx ctx.1))
/-- CLK_GEAR_COMMIT, 15_clocks_power.md R546, R570. -/
def execClkGearCommit (path : Path) (s : State) : Host.Outcome State Fault Refusal := .next (s.apply path Page.clk)
/-- PWR_CAP_COMMIT, 15_clocks_power.md R559, R571. -/
def execPwrCapCommit (path : Path) (s : State) : Host.Outcome State Fault Refusal := .next (s.apply path Page.pwr)
/-- LINTSNAP_COMMIT, 17_lint.md R629. -/
def execLintsnapCommit (path : Path) (s : State) : Host.Outcome State Fault Refusal := .next (s.apply path Page.lintsnap)
/-- CAL_COMMIT, 18_access.md R649. -/
def execCalCommit (path : Path) (s : State) : Host.Outcome State Fault Refusal := .next (s.apply path Page.cal)
/-- LAMP_COMMIT, 18_access.md R659. -/
def execLampCommit (path : Path) (s : State) : Host.Outcome State Fault Refusal := .next (s.apply path Page.lamp)
/-- SEED, 08_spin.md R292, R302. -/
def execSeed (path : Path) (s : State) : Host.Outcome State Fault Refusal := .next (s.apply path Page.spin)
/-- SAVE, 08_spin.md R295, R302. -/
def execSave (path : Path) (s : State) : Host.Outcome State Fault Refusal := .next (s.apply path Page.spin)
/-- RESTORE, 08_spin.md R295, R302. -/
def execRestore (path : Path) (s : State) : Host.Outcome State Fault Refusal := .next (s.apply path Page.spin)

/-! Writes of a field that starts an action. -/

/-- HALT_REQ, 03_bundles.md R117. -/
def execHaltReq (path : Path) (core : CoreId) (s : State) : Host.Outcome State Fault Refusal :=
  .next (s.putFields path (Page.core core.1) [(CORE_CTRL_HALT_REQ, 1)])
/-- CORE_STEP, 03_bundles.md R117. -/
def execCoreStep (path : Path) (core : CoreId) (s : State) : Host.Outcome State Fault Refusal :=
  .next (s.putFields path (Page.core core.1) [(CORE_CTRL_STEP, 1)])
/-- COUNT_CLR, 04_contract.md R153. -/
def execCountClr (path : Path) (core : CoreId) (s : State) : Host.Outcome State Fault Refusal :=
  .next (s.putFields path (Page.core core.1) [(CORE_CONTRACT_CTRL_COUNT_CLR, 1)])
/-- CMEM_BIST_START, 05_buffers.md R187. -/
def execCmemBistStart (path : Path) (core : CoreId) (s : State) : Host.Outcome State Fault Refusal :=
  .next (s.putFields path (Page.cmem core.1) [(CMEM_BIST_START, 1)])
/-- XMEM_BIST_START, 05_buffers.md R187. -/
def execXmemBistStart (path : Path) (seg : BitVec 7) (s : State) : Host.Outcome State Fault Refusal :=
  .next (s.putFields path Page.xmem [(XMEM_BIST_SEG, seg.toNat), (XMEM_BIST_START, 1)])
/-- LINK_ENABLE, 09_weave.md R308. -/
def execLinkEnable (path : Path) (p : PortId) (s : State) : Host.Outcome State Fault Refusal :=
  .next (s.putFields path (Page.link p.1) [(LINK_CTRL_ENABLE, 1)])
/-- LINK_DISABLE, 09_weave.md R308. -/
def execLinkDisable (path : Path) (p : PortId) (s : State) : Host.Outcome State Fault Refusal :=
  .next (s.putFields path (Page.link p.1) [(LINK_CTRL_ENABLE, 0)])
/-- LINK_RETRAIN, 09_weave.md R308. -/
def execLinkRetrain (path : Path) (p : PortId) (s : State) : Host.Outcome State Fault Refusal :=
  .next (s.putFields path (Page.link p.1) [(LINK_CTRL_RETRAIN, 1)])
/-- MASTER_WRITE, 09_weave.md R320. -/
def execMasterWrite (path : Path) (v : Bool) (s : State) : Host.Outcome State Fault Refusal :=
  .next (s.putFields path Page.weave [(WEAVE_CTRL_MASTER, v.toNat)])
/-- SQ_DOORBELL, 13_partitions.md R480. -/
def execSqDoorbell (path : Path) (ctx : CtxId) (tail : BitVec 9) (s : State) : Host.Outcome State Fault Refusal :=
  .next (s.putFields path (Page.ctx ctx.1) [(CTX_SQ_DB_TAIL, tail.toNat)])
/-- CQ_DOORBELL, 13_partitions.md R481. -/
def execCqDoorbell (path : Path) (ctx : CtxId) (head : BitVec 9) (s : State) : Host.Outcome State Fault Refusal :=
  .next (s.putFields path (Page.ctx ctx.1) [(CTX_CQ_DB_HEAD, head.toNat)])
/-- PWR_PEAK_CLR, 15_clocks_power.md R571. -/
def execPwrPeakClr (path : Path) (s : State) : Host.Outcome State Fault Refusal :=
  .next (s.putFields path Page.pwr [(PWR_CTRL_PEAK_CLR, 1)])
/-- THERM_PEAK_CLR, 15_clocks_power.md R572. -/
def execThermPeakClr (path : Path) (s : State) : Host.Outcome State Fault Refusal :=
  .next (s.putFields path Page.therm [(THERM_CTRL_PEAK_CLR, 1)])

/-! BAR accesses, R509. -/

/-- A BAR write that is dropped: counted, and logged but for a VF's beyond its windows. -/
def State.barDrop (s : State) (path : Path) (logged : Bool) : State :=
  let s := s.add Page.hostif HOSTIF_BAR_DROP_COUNT 1
  if logged then s.raise Page.hostif Ev.BAR_WRITE_DENIED (byPath path) else s

/-- What a read returns. -/
def State.barRead (s : State) (bs : List Byte) : State := { s with barOut := bs }

/-- Read pieces of DRAM, and zeros after them up to `n` bytes; a read that completes ECC_FATAL returns no data. -/
def State.barReadDram (s : State) (link : LinkRead) (ps : List (Nat × Nat)) (n : Nat) : State :=
  let met := s.linkMet link
  let r := ps.foldl (fun (r : List Byte × Bool × State) p =>
    let (bs, bad, s) := r.2.2.readDram p.1 p.2
    (r.1 ++ bs, r.2.1 || bad, s)) ([], met)
  r.2.2.barRead (if r.2.1 then [] else slice r.1 0 n)

/-- Whether DRAM is trained (16_reset.md R588). -/
def State.dramTrained (s : State) : Bool := s.flag Page.dram DRAM_STATUS_TRAINED

/-- PF_BAR2_ACCESS: DRAM through the XMEM cache controller. -/
def execPfBar2Access (addr : Nat) (acc : BarAcc) (s : State) : Host.Outcome State Fault Refusal :=
  .next (if s.resets.cold then s
    else match acc with
    | .read n link =>
      if s.dramTrained then s.barReadDram link [(addr, min n (dramBytes - addr))] n else s.barRead (List.replicate n 0xFF)
    | .write bs =>
      if s.dramTrained = false then s.barDrop .pf false
      else if dramGeneral < addr + bs.length then s.barDrop .pf true
      else s.writeDram addr bs)

/-- PF_BAR4_ACCESS: XMEM as stored; written only while owner debug is open. -/
def execPfBar4Access (addr : Nat) (acc : BarAcc) (s : State) : Host.Outcome State Fault Refusal :=
  .next (if s.resets.cold then s
    else match acc with
    | .read n _ =>
      let m := min n (2 ^ 31 - addr)
      (s.foundUe .xmem (s.uesIn .xmem addr m)).barRead (slice (s.readMem .xmem addr m) 0 n)
    | .write bs =>
      if s.ownerOpen = false ∨ 2 ^ 31 < addr + bs.length then s.barDrop .pf true else s.writeXmem addr bs)

/-- The pieces of a range of a VF's BAR 2: windows back to back, each at its length (13_partitions.md R476). -/
def windowPieces : List (Nat × Nat) → (o n : Nat) → List (Nat × Nat)
  | [], _, _ => []
  | (base, len) :: r, o, n =>
    if n = 0 then []
    else if len ≤ o then windowPieces r (o - len) n
    else
      let k := min n (len - o)
      (base + o, k) :: windowPieces r 0 (n - k)

/-- Write bytes piece by piece. -/
def State.writePieces : List (Nat × Nat) → State → List Byte → State
  | [], s, _ => s
  | (a, n) :: r, s, bs => State.writePieces r (s.writeDram a (bs.take n)) (bs.drop n)

/-- VF_BAR2_ACCESS: the context's DRAM windows; a binding that is not VALID maps none. -/
def execVfBar2Access (vf : CtxId) (addr : Nat) (acc : BarAcc) (s : State) : Host.Outcome State Fault Refusal :=
  let b := s.binding vf
  let wins := if b.valid then b.wins else []
  .next (if s.resets.cold then s
    else match acc with
    | .read n link => if s.dramTrained then s.barReadDram link (windowPieces wins addr n) n else s.barRead (List.replicate n 0xFF)
    | .write bs =>
      if s.dramTrained = false ∨ (wins.map (·.2)).sum < addr + bs.length then s.barDrop (.vf vf) false
      else State.writePieces (windowPieces wins addr bs.length) s bs)

end Sys2Proof.Machine
end

