-- ==== Sys2Proof/Machine/Rack.lean ====
section
/-!
DEFINITION. The rack around the chip (01_machine.md R32, R35-R56): the governor's caps, the tray controller (TC), the pair of
rack managers and their lease. What the TC sets on this chip reaches it as register writes of the management path
(R50; 16_reset.md R587).
-/

namespace Sys2Proof.Machine

open Reg

/-- The severities at which R42 and R46 have an entry logged; the others are logged without one. -/
def TcEntry.sev : TcEntry → Option Nat
  | .fanFailed | .inletWarm => some 3
  | .fansFailed | .inletHot => some 4
  | .restart | .silence | .capRaised | .refLost => none
def MgrEntry.sev : MgrEntry → Option Nat
  | .overload => some 3
  | .lateDecrease => none

/-- The TC logs. -/
def State.tcLog (s : State) (e : TcEntry) : State := s.updRack fun r => { r with tc := { r.tc with log := r.tc.log ++ [e] } }

/-- The governor's manager logs. -/
def State.governorLog (s : State) (e : MgrEntry) : State := s.updRack fun r => { r with log := r.log ++ [e] }

/-! Places in the rack, R32. -/

/-- The chip's position on its tray: 0x30 plus it is the SMBus address (18_access.md R632). -/
def State.trayPos (s : State) : Fin 2 := ⟨s.get Page.mgmt MGMT_STATUS_ADDR % 2, Nat.mod_lt _ (by decide)⟩

/-- The chip of an FR-64 rack that this chip is. -/
def State.rackChip (s : State) : Nat := 2 * (s.rack.tray % 32) + (s.trayPos).1

/-- The physical chip number of a place: rack index, tray and position. -/
def pcnOf (fr32h : Bool) (rack tray pos : Nat) : Nat :=
  if fr32h then 32 * (rack % 128) + 2 * (tray % 16) + pos else 64 * (rack % 64) + 2 * (tray % 32) + pos

/-- The PCN that the TC gives this chip. -/
def State.placePcn (s : State) : Nat := pcnOf s.rack.fr32h s.rack.index s.rack.tray (s.trayPos).1

/-! What a TC does to this chip, by management writes (R50). -/

/-- Whether this chip takes its TC's writes. -/
def State.tcReaches (s : State) : Bool := !s.resets.cold && !s.resets.warm && s.mgmtUp

/-- The TC writes one register word. -/
def State.tcWrite (s : State) (page off : Nat) (w : Word) : State := (s.opWrite page off 1 [w]).2.2

/-- The TC writes one field of a register. -/
def State.tcField (s : State) (page : Nat) (f : Fld) (v : Nat) : State := s.tcWrite page f.off (s.amend .mgmt page f.off [(f, v)])

/-- A cap reaches this chip from its TC: PWR_CAP is written and committed (R37, R50). -/
def State.chipCap (s : State) (cap : Nat) : State :=
  (s.tcWrite Page.pwr PWR_CAP_CAP.off (BitVec.ofNat 32 cap)).tcWrite Page.pwr COMMIT_APPLY.off 1

/-- The current cap of a chip of the tray: this chip's is the one it holds, its partner's the one the TC last commanded. -/
def State.tcCap (s : State) (i : Fin 2) : Nat :=
  if i = s.trayPos ∧ s.tcReaches = true then s.get Page.pwr PWR_CAP_CAP else s.rack.tc.caps[i]

/-- The TC sets the cap of one of its chips. -/
def State.tcSetCap (s : State) (i : Fin 2) (cap : Nat) : State :=
  let reach := decide (i = s.trayPos) && s.tcReaches
  let s := s.updRack fun r => { r with tc := { r.tc with caps := r.tc.caps.set i cap } }
  if reach then s.chipCap cap else s

/-- The TC changes the caps of its two chips, from what they are. -/
def State.tcCaps (s : State) (f : Nat → Nat) : State :=
  let c0 := f (s.tcCap 0)
  let c1 := f (s.tcCap 1)
  (s.tcSetCap 0 c0).tcSetCap 1 c1

/-- The TC sets the reference: the tray's crystal in STANDALONE mode, else the rack's (R48; 16_reset.md R587 step 8). -/
def State.tcReference (s : State) (crystal : Bool) : State :=
  if s.flag Page.clk CLK_REF_SRC = crystal then s else s.tcField Page.clk CLK_REF_SRC crystal.toNat

/-- The TC writes and commits CHIP_PCN, unless the chip has that number already (R32; 14_pages.md R531). -/
def State.tcPcn (s : State) : State :=
  if s.flag Page.chip CHIP_PCN_VALID ∧ s.get Page.chip CHIP_PCN_PCN = s.placePcn then s
  else
    (s.tcWrite Page.chip CHIP_PCN_PCN.off (CHIP_PCN_VALID.into (BitVec.ofNat 32 s.placePcn) 1)).tcWrite Page.chip
      COMMIT_APPLY.off 1

/-- In STANDALONE mode only P0 and P1 are brought up, and chip 0 is the time master (R48; 09_weave.md R318; log 87). -/
def State.tcAlone (s : State) : State :=
  let s := eachOf allPorts (fun p s =>
    if s.flag (Page.link p.1) LINK_CTRL_ENABLE = decide (p.1 < 2) then s
    else s.tcField (Page.link p.1) LINK_CTRL_ENABLE (decide (p.1 < 2)).toNat) s
  if s.trayPos = 0 ∧ s.flag Page.weave WEAVE_CTRL_MASTER = false then s.tcField Page.weave WEAVE_CTRL_MASTER 1 else s

/-- The TC's part of bring-up, 16_reset.md R587 step 8: the reference; in an FR-32H rack a cap of 150 W before CHIP_PCN (R38), and
in STANDALONE mode too (R48); CHIP_PCN; and in STANDALONE mode the ports and the time master. `fresh` says that the chip comes
out of cold or warm reset. -/
def State.tcBringUp (s : State) (fresh : Bool) : State :=
  match s.rack.tc.mode with
  | none => s
  | some mode =>
    if s.tcReaches = false then s
    else
      let alone := mode == .standalone
      let s := s.tcReference alone
      let s := if alone ∨ (s.rack.fr32h ∧ fresh) then s.tcSetCap s.trayPos 150 else s
      let s := if alone = false ∧ s.rack.fr32h ∧ fresh then s.tcLog .capRaised else s
      let s := s.tcPcn
      if alone then s.tcAlone else s

/-- COLD_RESET: PERST_N rises after an assertion or at power-on, the chip brings itself up and the TC sets what is its to set
(16_reset.md R587; R38). -/
def execColdReset (env : BootEnv) (s : State) : Host.Outcome State Fault Refusal :=
  .next (if s.resets.cold || s.ecc.boots == 0 then (s.coldReset env).tcBringUp true else s)

/-- RESET_EXIT: a domain leaves reset, and the reply to its request is sent (16_reset.md R579, R581); after a warm reset the TC
does its part of bring-up again (R38). -/
def execResetExit (domain : BitVec 8) (s : State) : Host.Outcome State Fault Refusal :=
  let t := (s.endReset domain.toNat).resetAnswered domain.toNat
  .next (if s.resets.warm ∧ domain = 1 then t.tcBringUp true else t)

/-- REF_CHANGE: a write of CLK_REF.SRC (09_weave.md R322; 15_clocks_power.md R542); the TC that switches to the crystal because
the rack reference is lost logs it (R56). -/
def execRefChange (path : Path) (src : Bool) (s : State) : Host.Outcome State Fault Refusal :=
  let t := s.putFields path Page.clk [(CLK_REF_SRC, src.toNat)]
  .next (if path = .mgmt ∧ src ∧ s.rack.tc.mode = some .rack ∧ s.flag Page.clk CLK_REF_SRC = false ∧ t.flag Page.clk CLK_REF_SRC
    then t.tcLog .refLost else t)

/-! The governor, R38-R44. -/

/-- Whether a manager holds the lease and issues commands (R51, R53). -/
def Manager.active (m : Manager) : Bool := m.holder && !m.stopped

/-- Whether the governor of an FR-64 rack runs: the active manager runs it (R38, R51, R53). -/
def State.governor (s : State) : Bool := !s.rack.fr32h && (s.rack.mgrA.active || s.rack.mgrB.active)

/-- Whether this chip stands in the rack that the managers command: its TC is in RACK mode and reaches it. -/
def State.inRack (s : State) : Bool := s.rack.tc.mode == some .rack && s.tcReaches

/-- The governor issues one cap. Until the chip reports a lower cap in force it counts at its previous one (R40, R41). -/
def Rack.issue (r : Rack) (chip cap : Nat) : Rack :=
  { r with issued := r.issued.set chip cap, counted := r.counted.set chip (max cap (r.counted.getD chip 0)) }

/-- The governor issues one cap; the TC of this chip's tray carries it out in RACK mode (R37, R50). A cap of 60 W for a fan or
inlet condition is replaced by it too (log 88). -/
def State.issueCap (s : State) (chip cap : Nat) : State :=
  let s := s.updRack fun r => r.issue chip cap
  if s.rack.tc.mode ≠ some .rack ∨ chip / 2 ≠ s.rack.tray % 32 then s
  else s.tcSetCap ⟨chip % 2, Nat.mod_lt _ (by decide)⟩ cap

/-- A chip reports its cap in force (R37): a decrease so confirmed counts, and the chip is no longer late (R40, R41; log 36). -/
def Rack.hear (r : Rack) (chip cap : Nat) : Rack :=
  if r.issued.getD chip 0 < cap then { r with inForce := r.inForce.set chip cap }
  else
    { r with inForce := r.inForce.set chip cap, counted := r.counted.set chip (r.issued.getD chip 0)
             late := r.late.filter (· != chip) }

/-- What the TCs report: this chip's cap is its own PWR_CAP_IN_FORCE, the others are as given. -/
def State.reports (s : State) (others : List (Nat × Nat)) : List (Nat × Nat) :=
  if s.inRack then (s.rackChip, s.get Page.pwr PWR_CAP_IN_FORCE_CAP) :: others.filter fun x => x.1 != s.rackChip
  else others

/-- Whether every decreased chip has reported its lower cap, late ones apart, which count at their previous cap (R40, R41). -/
def Rack.settled (r : Rack) : Bool :=
  (List.range 64).all fun c => r.late.contains c || decide (r.counted.getD c 0 ≤ r.issued.getD c 0)

/-- What the caps come to when a plan is laid over them: a late chip counts at its previous cap at least (R39, R41). -/
def Rack.planned (r : Rack) (caps : List (Nat × Nat)) : Nat :=
  ((List.range 64).map fun c =>
    let cap := (assocGet caps c).getD (r.issued.getD c 0)
    if r.late.contains c then max cap (r.counted.getD c 0) else cap).sum

/-- The chip pool of an FR-64 rack in watts (R35, R39). -/
abbrev chipPool : Nat := 7360

/-- Whether the governor may issue a plan: chips named once, legal caps, and a sum within the pool (R35, R37, R39). -/
def Rack.planOk (r : Rack) (caps : List (Nat × Nat)) : Bool :=
  decide (caps.map (·.1)).Nodup && caps.all (fun x => decide (x.1 < 64) && decide (60 ≤ x.2) && decide (x.2 ≤ 150)) &&
    decide (r.planned caps ≤ chipPool)

/-- The increases that wait are issued once every decreased chip has reported, the caps in force are read, and the pool still
allows them (R39, R40, R44). -/
def State.issueWaiting (s : State) : State :=
  if s.rack.read ∧ s.rack.settled ∧ s.rack.planOk s.rack.waiting then
    let ready := s.rack.waiting
    eachOf ready (fun x s => s.issueCap x.1 x.2) (s.updRack fun r => { r with waiting := [] })
  else s

/-- GOVERNOR_REDISTRIBUTE: the chips report their caps in force, and the increases that waited for them are issued; then the plan
`caps` begins: its decreases are issued, and its increases wait for the reports (R39, R40, R44). A plan that may not be issued is
not; an empty one changes nothing. -/
def execGovernorRedistribute (caps reports : List (Nat × Nat)) (s : State) : Host.Outcome State Fault Refusal :=
  .next (if s.governor = false then s
    else
      let heard := s.reports reports
      let s := (s.updRack fun r => heard.foldl (fun r x => r.hear x.1 x.2) r).issueWaiting
      if s.rack.planOk caps = false ∨ caps = [] then s
      else
        let down := caps.filter fun x => decide (x.2 < s.rack.issued.getD x.1 0)
        let up := caps.filter fun x => decide (s.rack.issued.getD x.1 0 < x.2)
        let s := eachOf down (fun x s => s.issueCap x.1 x.2) s
        (s.updRack fun r => { r with waiting := up }).issueWaiting)

/-- CAP_DECREASE_TIMEOUT: a chip has not reported its decreased cap within 10 ms; it counts at its previous cap, and the increases
that waited are not issued (R41, R56). -/
def execCapDecreaseTimeout (chip : Fin 64) (s : State) : Host.Outcome State Fault Refusal :=
  .next (if s.governor = false ∨ s.rack.counted.getD chip 0 ≤ s.rack.issued.getD chip 0 then s
    else (s.updRack fun r =>
      { r with waiting := [], late := r.late.filter (· != chip.1) ++ [chip.1] }).governorLog .lateDecrease)

/-- BUSBAR_OVERLOAD: the busbar's power, measured when it has been above 12,000 W for 1 s and then each 100 ms: first every cap
above 115 W becomes 115 W; if the excess persists, every cap falls by 5 W, never below 60 W, until the power is at most 11,960 W
(R42, R56). -/
def execBusbarOverload (deciW : Nat) (s : State) : Host.Outcome State Fault Refusal :=
  let lower (f : Nat → Nat) (s : State) : State :=
    let s := s.updRack fun r => { r with waiting := [] }
    eachOf (List.range 64) (fun c s =>
      let old := s.rack.issued.getD c 0
      if f old < old then s.issueCap c (f old) else s) s
  let fall (s : State) : State := lower (fun c => max 60 (c - 5)) s
  let step (n : Nat) (s : State) : State := s.updRack fun r => { r with overload := n }
  .next (if s.governor = false then s
    else match s.rack.overload with
      | 0 => if deciW ≤ 120000 then s else (lower (min 115) (step 1 s)).governorLog .overload
      | 1 => if deciW ≤ 120000 then step 0 s else fall ((step 2 s).governorLog .overload)
      | _ => if deciW ≤ 119600 then step 0 s else fall s)

/-! The tray controller, R43, R46-R48. -/

/-- TC_COMMAND_SILENCE: 5 s without a command of either manager: each cap becomes the lower of itself and 115 W (R43, R56); not in
an FR-32H rack (R38), nor in STANDALONE mode (R48). -/
def execTcCommandSilence (s : State) : Host.Outcome State Fault Refusal :=
  .next (if s.rack.tc.mode ≠ some .rack ∨ s.rack.fr32h then s else (s.tcCaps (min 115)).tcLog .silence)

/-- The TC lights the amber service lamp of this chip, steady and full (R46; 18_access.md R655, R659; log 88). -/
def State.tcAmber (s : State) : State :=
  let s := s.updRack fun r => { r with tc := { r.tc with amber := true } }
  if s.tcReaches then
    (s.tcWrite Page.lamp (LAMP_CFG_DUTY.nth 0).off 1000).tcWrite Page.lamp COMMIT_APPLY.off 1
  else s

/-- FAN_FAILURE: how many fans have failed (R46). That the lamp and the caps stay when the fans recover is the model's choice
(log 88). -/
def execFanFailure (failed : Nat) (s : State) : Host.Outcome State Fault Refusal :=
  let s := s.updRack fun r => { r with tc := { r.tc with fansBad := failed } }
  .next (match failed with
    | 0 => s
    | 1 => s.tcAmber.tcLog .fanFailed
    | _ => (s.tcCaps fun _ => 60).tcLog .fansFailed)

/-- INLET_TEMPERATURE: the inlet's temperature in quarters of a degree: above 35 degrees it is reported, above 40 both chips are
capped as well (R46). -/
def execInletTemperature (quarterC : Int) (s : State) : Host.Outcome State Fault Refusal :=
  let s := if 140 < quarterC then s.tcLog .inletWarm else s
  .next (if 160 < quarterC then (s.tcCaps fun _ => 60).tcLog .inletHot else s)

/-- TC_START: the TC enters RACK mode when a manager claimed it within 30 s, and takes its place in the rack from its slot's address
pins and the manager; else STANDALONE mode, with rack and tray index 0 (R32, R47, R56). It then does its part of bring-up for
a chip that is up (R48; 16_reset.md R587): of a chip that has its CHIP_PCN an FR-32H cap is not set again. -/
def execTcStart (claimed : Bool) (seat : Seat) (s : State) : Host.Outcome State Fault Refusal :=
  let s := s.updRack fun r =>
    { r with
      fr32h := seat.fr32h
      index := if claimed then seat.rack.toNat else 0
      tray := if claimed then seat.tray.toNat else 0
      tc := { r.tc with
        mode := some (if claimed then .rack else .standalone)
        caps := if claimed then r.tc.caps else Vector.replicate 2 150 } }
  .next ((s.tcLog .restart).tcBringUp (!s.flag Page.chip CHIP_PCN_VALID))

/-! The lease, R51-R55. -/

/-- The other manager of the pair. -/
def otherMgr : Mgr → Mgr
  | .a => .b
  | .b => .a

/-- A manager, and a change of it. -/
def Rack.mgr (r : Rack) : Mgr → Manager
  | .a => r.mgrA
  | .b => r.mgrB
def Rack.peer (r : Rack) (m : Mgr) : Manager := r.mgr (otherMgr m)
def Rack.setMgr (r : Rack) (m : Mgr) (x : Manager) : Rack :=
  match m with
  | .a => { r with mgrA := x }
  | .b => { r with mgrB := x }

/-- MANAGER_ACTIVE: the manager that holds the lease and issues commands becomes active: it reads every chip's cap in force from the
TCs before any increase (R44, R51, R53). -/
def execManagerActive (m : Mgr) (inForce : List Nat) (s : State) : Host.Outcome State Fault Refusal :=
  .next (if (s.rack.mgr m).active = false then s
    else
      let own := assocGet (s.reports []) s.rackChip
      s.updRack fun r =>
        let read := (List.range 64).map fun c => inForce.getD c (r.inForce.getD c 0)
        let caps := match own with
          | some cap => read.set s.rackChip cap
          | none => read
        { r with inForce := caps, counted := caps, issued := caps, waiting := [], late := [], read := true })

/-- LEASE_RENEW: the holder renews on the direct cable and on the network, each of which may fail (R52, R53). That a holder which
stopped its commands issues them again once a renewal succeeds is the model's choice (log 38). -/
def execLeaseRenew (direct network : Bool) (s : State) : Host.Outcome State Fault Refusal :=
  let renew (m : Manager) : Manager :=
    if m.holder then { m with missed := !(direct || network), stopped := m.stopped && !(direct || network) } else m
  .next (s.updRack fun r => { r with mgrA := renew r.mgrA, mgrB := renew r.mgrB })

/-- LEASE_SELF_STOP: a holder that has failed to renew on both paths for 2 s issues no more commands (R53). -/
def execLeaseSelfStop (s : State) : Host.Outcome State Fault Refusal :=
  let stop (m : Manager) : Manager := if m.holder && m.missed then { m with stopped := true } else m
  .next (s.updRack fun r => { r with mgrA := stop r.mgrA, mgrB := stop r.mgrB })

/-- Whether the standby `m` has seen no renewal on either path: its peer's last one failed on both, or its peer holds nothing to
renew (R54). -/
def Rack.unrenewed (r : Rack) (m : Mgr) : Bool := !(r.mgr m).holder && (!(r.peer m).holder || (r.peer m).missed)

/-- LEASE_TAKEOVER: the standby `m` has seen no renewal for 3 s and holds the other manager in reset; when it has seen that
manager's ports drop, it increments the term and holds the lease. It reads the caps in force before it issues an increase
(R44, R54). -/
def execLeaseTakeover (m : Mgr) (portsDropped : Bool) (s : State) : Host.Outcome State Fault Refusal :=
  .next (if portsDropped = false ∨ s.rack.unrenewed m = false then s
    else s.updRack fun r =>
      let x := r.mgr m
      let y := r.peer m
      let term := if x.term.ult y.term then y.term else x.term
      let r := r.setMgr m ⟨true, term + 1, false, false⟩
      { (r.setMgr (otherMgr m) ⟨false, y.term, false, false⟩) with read := false, waiting := [] })

/-- HIGHER_TERM: a manager receives a renewal that carries a term higher than its own, and becomes standby at once (R55). That it
takes that term for its own is the model's choice (log 38). -/
def execHigherTerm (m : Mgr) (term : Dword) (s : State) : Host.Outcome State Fault Refusal :=
  .next (if (s.rack.mgr m).term.ult term then s.updRack fun r => r.setMgr m ⟨false, term, false, false⟩ else s)

end Sys2Proof.Machine
end

