-- ==== Sys2Proof/Machine/Dispatch.lean ====
section
/-! DEFINITION. The meaning of every command: one arm per constructor of Instr, each a direct call of its meaning. -/

namespace Sys2Proof.Machine

/-- What a command does to the block, its queue of waiting commands apart. -/
def exec (i : Instr) (s : State) : Host.Outcome State Fault Refusal :=
  match i with
  | .registerWrite path page off be val => Sys2Proof.Machine.execRegisterWrite path page off be val s
  | .commitApply path page => Sys2Proof.Machine.execCommitApply path page s
  | .commitDiscard path page => Sys2Proof.Machine.execCommitDiscard path page s
  | .commitBad path page => Sys2Proof.Machine.execCommitBad path page s
  | .selWrite path page off val => Sys2Proof.Machine.execSelWrite path page off val s
  | .pageLockSet path page => Sys2Proof.Machine.execPageLockSet path page s
  | .chipPcnCommit path => Sys2Proof.Machine.execChipPcnCommit path s
  | .mboxPost path => Sys2Proof.Machine.execMboxPost path s
  | .vfFlr vf => Sys2Proof.Machine.execVfFlr vf s
  | .pfFlr => Sys2Proof.Machine.execPfFlr s
  | .pfBar2Access addr acc => Sys2Proof.Machine.execPfBar2Access addr acc s
  | .pfBar4Access addr acc => Sys2Proof.Machine.execPfBar4Access addr acc s
  | .vfBar2Access vf addr acc => Sys2Proof.Machine.execVfBar2Access vf addr acc s
  | .nop fr slot => Sys2Proof.Machine.execNop fr slot s
  | .illegalOpcode core bundle => Sys2Proof.Machine.execIllegalOpcode core bundle s
  | .add fr f => Sys2Proof.Machine.execAdd fr f s
  | .sub fr f => Sys2Proof.Machine.execSub fr f s
  | .mul fr f => Sys2Proof.Machine.execMul fr f s
  | .and fr f => Sys2Proof.Machine.execAnd fr f s
  | .or fr f => Sys2Proof.Machine.execOr fr f s
  | .xor fr f => Sys2Proof.Machine.execXor fr f s
  | .shl fr f => Sys2Proof.Machine.execShl fr f s
  | .shr fr f => Sys2Proof.Machine.execShr fr f s
  | .sar fr f => Sys2Proof.Machine.execSar fr f s
  | .cmpeq fr f => Sys2Proof.Machine.execCmpeq fr f s
  | .cmplt fr f => Sys2Proof.Machine.execCmplt fr f s
  | .cmpltu fr f => Sys2Proof.Machine.execCmpltu fr f s
  | .movi fr f => Sys2Proof.Machine.execMovi fr f s
  | .ld fr f => Sys2Proof.Machine.execLd fr f s
  | .st fr f => Sys2Proof.Machine.execSt fr f s
  | .amov fr f => Sys2Proof.Machine.execAmov fr f s
  | .aadd fr f => Sys2Proof.Machine.execAadd fr f s
  | .thset fr f => Sys2Proof.Machine.execThset fr f s
  | .plog fr f => Sys2Proof.Machine.execPlog fr f s
  | .rdtime fr f => Sys2Proof.Machine.execRdtime fr f s
  | .br fr f => Sys2Proof.Machine.execBr fr f s
  | .brz fr f => Sys2Proof.Machine.execBrz fr f s
  | .brnz fr f => Sys2Proof.Machine.execBrnz fr f s
  | .call fr f => Sys2Proof.Machine.execCall fr f s
  | .ret fr f => Sys2Proof.Machine.execRet fr f s
  | .loop fr f => Sys2Proof.Machine.execLoop fr f s
  | .halt fr f => Sys2Proof.Machine.execHalt fr f s
  | .vadd fr f => Sys2Proof.Machine.execVadd fr f s
  | .vsub fr f => Sys2Proof.Machine.execVsub fr f s
  | .vmul fr f => Sys2Proof.Machine.execVmul fr f s
  | .vfma fr f => Sys2Proof.Machine.execVfma fr f s
  | .vmax fr f => Sys2Proof.Machine.execVmax fr f s
  | .vmin fr f => Sys2Proof.Machine.execVmin fr f s
  | .vabs fr f => Sys2Proof.Machine.execVabs fr f s
  | .vexp fr f => Sys2Proof.Machine.execVexp fr f s
  | .vrcp fr f => Sys2Proof.Machine.execVrcp fr f s
  | .vrsqrt fr f => Sys2Proof.Machine.execVrsqrt fr f s
  | .vcmplt fr f => Sys2Proof.Machine.execVcmplt fr f s
  | .vsel fr f => Sys2Proof.Machine.execVsel fr f s
  | .vld fr f => Sys2Proof.Machine.execVld fr f s
  | .vst fr f => Sys2Proof.Machine.execVst fr f s
  | .vredsum fr f => Sys2Proof.Machine.execVredsum fr f s
  | .vredmax fr f => Sys2Proof.Machine.execVredmax fr f s
  | .vbcast fr f => Sys2Proof.Machine.execVbcast fr f s
  | .vcvt fr f => Sys2Proof.Machine.execVcvt fr f s
  | .mload fr f => Sys2Proof.Machine.execMload fr f s
  | .mswap fr f => Sys2Proof.Machine.execMswap fr f s
  | .mmul fr f => Sys2Proof.Machine.execMmul fr f s
  | .mclr fr f => Sys2Proof.Machine.execMclr fr f s
  | .tmov fr f => Sys2Proof.Machine.execTmov fr f s
  | .xld fr f => Sys2Proof.Machine.execXld fr f s
  | .xst fr f => Sys2Proof.Machine.execXst fr f s
  | .send fr f => Sys2Proof.Machine.execSend fr f s
  | .recv fr f => Sys2Proof.Machine.execRecv fr f s
  | .enq fr f => Sys2Proof.Machine.execEnq fr f s
  | .iload fr f => Sys2Proof.Machine.execIload fr f s
  | .iloadBlockValid core blk => Sys2Proof.Machine.execIloadBlockValid core blk s
  | .rand fr f => Sys2Proof.Machine.execRand fr f s
  | .sampleBegin fr f => Sys2Proof.Machine.execSampleBegin fr f s
  | .sampleChunk fr f => Sys2Proof.Machine.execSampleChunk fr f s
  | .sampleEnd fr f => Sys2Proof.Machine.execSampleEnd fr f s
  | .scamax fr f vfmt => Sys2Proof.Machine.execScamax fr f vfmt s
  | .scupd fr f => Sys2Proof.Machine.execScupd fr f s
  | .scget fr f => Sys2Proof.Machine.execScget fr f s
  | .optim fr f => Sys2Proof.Machine.execOptim fr f s
  | .coll fr f => Sys2Proof.Machine.execColl fr f s
  | .flip fr f => Sys2Proof.Machine.execFlip fr f s
  | .yield fr f => Sys2Proof.Machine.execYield fr f s
  | .wait fr f budget => Sys2Proof.Machine.execWait fr f budget s
  | .epochw fr f budget => Sys2Proof.Machine.execEpochw fr f budget s
  | .waitRelease core => Sys2Proof.Machine.execWaitRelease core s
  | .epochRelease core => Sys2Proof.Machine.execEpochRelease core s
  | .holdBudgetTimeout core => Sys2Proof.Machine.execHoldBudgetTimeout core s
  | .tagWriteComplete core bslot => Sys2Proof.Machine.execTagWriteComplete core bslot s
  | .tagReadDrain core bslot => Sys2Proof.Machine.execTagReadDrain core bslot s
  | .breakpointHalt core => Sys2Proof.Machine.execBreakpointHalt core s
  | .haltReq path core => Sys2Proof.Machine.execHaltReq path core s
  | .coreStep path core => Sys2Proof.Machine.execCoreStep path core s
  | .countClr path core => Sys2Proof.Machine.execCountClr path core s
  | .xcacheCommit path => Sys2Proof.Machine.execXcacheCommit path s
  | .xcacheDrainDone => Sys2Proof.Machine.execXcacheDrainDone s
  | .xcacheInitDone => Sys2Proof.Machine.execXcacheInitDone s
  | .scrubPass domain found => Sys2Proof.Machine.execScrubPass domain found s
  | .darn row repairOk => Sys2Proof.Machine.execDarn row repairOk s
  | .bankMappedOut bank repairOk => Sys2Proof.Machine.execBankMappedOut bank repairOk s
  | .coreMappedOut core bank repairOk => Sys2Proof.Machine.execCoreMappedOut core bank repairOk s
  | .cmemBistStart path core => Sys2Proof.Machine.execCmemBistStart path core s
  | .cmemBistDone core failed bufFailed => Sys2Proof.Machine.execCmemBistDone core failed bufFailed s
  | .xmemBistStart path seg => Sys2Proof.Machine.execXmemBistStart path seg s
  | .xmemBistDone failed => Sys2Proof.Machine.execXmemBistDone failed s
  | .move q env pf => Sys2Proof.Machine.execMove q env pf s
  | .prefetch q env => Sys2Proof.Machine.execPrefetch q env s
  | .clean q env => Sys2Proof.Machine.execClean q env s
  | .flush q env => Sys2Proof.Machine.execFlush q env s
  | .discard q => Sys2Proof.Machine.execDiscard q s
  | .rget q => Sys2Proof.Machine.execRget q s
  | .rput q env => Sys2Proof.Machine.execRput q env s
  | .tierDescComplete q => Sys2Proof.Machine.execTierDescComplete q s
  | .readReq src part addr tag side link => Sys2Proof.Machine.execReadReq src part addr tag side link s
  | .readData part tag status side data => Sys2Proof.Machine.execReadData part tag status side data s
  | .writeData src part addr tag side data => Sys2Proof.Machine.execWriteData src part addr tag side data s
  | .writeAck part tag status => Sys2Proof.Machine.execWriteAck part tag status s
  | .remoteTimeout tag => Sys2Proof.Machine.execRemoteTimeout tag s
  | .tierShadowCommit path => Sys2Proof.Machine.execTierShadowCommit path s
  | .shadowReleased entry => Sys2Proof.Machine.execShadowReleased entry s
  | .shelfNsCommit path => Sys2Proof.Machine.execShelfNsCommit path s
  | .nsUnmapDone ns => Sys2Proof.Machine.execNsUnmapDone ns s
  | .garbageCollect => Sys2Proof.Machine.execGarbageCollect s
  | .patrolRead blk ldpcPercent bad => Sys2Proof.Machine.execPatrolRead blk ldpcPercent bad s
  | .blockRetired blk progUs => Sys2Proof.Machine.execBlockRetired blk progUs s
  | .scaleCommit path => Sys2Proof.Machine.execScaleCommit path s
  | .optimCommit path => Sys2Proof.Machine.execOptimCommit path s
  | .sourceFail src raw => Sys2Proof.Machine.execSourceFail src raw s
  | .sourceRestart src => Sys2Proof.Machine.execSourceRestart src s
  | .seed path => Sys2Proof.Machine.execSeed path s
  | .save path => Sys2Proof.Machine.execSave path s
  | .restore path => Sys2Proof.Machine.execRestore path s
  | .spinActionDone raw link => Sys2Proof.Machine.execSpinActionDone raw link s
  | .linkEnable path p => Sys2Proof.Machine.execLinkEnable path p s
  | .linkDisable path p => Sys2Proof.Machine.execLinkDisable path p s
  | .linkRetrain path p => Sys2Proof.Machine.execLinkRetrain path p s
  | .linkCtrlCommit path p => Sys2Proof.Machine.execLinkCtrlCommit path p s
  | .signalDetect p => Sys2Proof.Machine.execSignalDetect p s
  | .trainLock p => Sys2Proof.Machine.execTrainLock p s
  | .ident p arg => Sys2Proof.Machine.execIdent p arg s
  | .ready p => Sys2Proof.Machine.execReady p s
  | .marker p arg => Sys2Proof.Machine.execMarker p arg s
  | .echo p arg sub => Sys2Proof.Machine.execEcho p arg sub s
  | .pinResult p lmeas => Sys2Proof.Machine.execPinResult p lmeas s
  | .pinDone p => Sys2Proof.Machine.execPinDone p s
  | .time p stamp masterPcn => Sys2Proof.Machine.execTime p stamp masterPcn s
  | .peerRetrain p cause => Sys2Proof.Machine.execPeerRetrain p cause s
  | .trainTimeout p => Sys2Proof.Machine.execTrainTimeout p s
  | .los p => Sys2Proof.Machine.execLos p s
  | .drift p ticks => Sys2Proof.Machine.execDrift p ticks s
  | .fecUncorrectable p kind => Sys2Proof.Machine.execFecUncorrectable p kind s
  | .controlWord p w => Sys2Proof.Machine.execControlWord p w s
  | .nak p ackSeq => Sys2Proof.Machine.execNak p ackSeq s
  | .slotTransmit p => Sys2Proof.Machine.execSlotTransmit p s
  | .vc0FlitArrival p f slot => Sys2Proof.Machine.execVc0FlitArrival p f slot s
  | .epochBoundary deciW => Sys2Proof.Machine.execEpochBoundary deciW s
  | .weaveLoadCommit path => Sys2Proof.Machine.execWeaveLoadCommit path s
  | .tableLoadDone link => Sys2Proof.Machine.execTableLoadDone link s
  | .masterWrite path v => Sys2Proof.Machine.execMasterWrite path v s
  | .refChange path src => Sys2Proof.Machine.execRefChange path src s
  | .mangleDescCommit path => Sys2Proof.Machine.execMangleDescCommit path s
  | .mangleGroupCommit path => Sys2Proof.Machine.execMangleGroupCommit path s
  | .mangleUpFlit sender f => Sys2Proof.Machine.execMangleUpFlit sender f s
  | .mangleDownFlit sender f => Sys2Proof.Machine.execMangleDownFlit sender f s
  | .done sender f => Sys2Proof.Machine.execDone sender f s
  | .finish sender f => Sys2Proof.Machine.execFinish sender f s
  | .abort sender f => Sys2Proof.Machine.execAbort sender f s
  | .collDeadline core grp => Sys2Proof.Machine.execCollDeadline core grp s
  | .abortWindowEnd core grp => Sys2Proof.Machine.execAbortWindowEnd core grp s
  | .press q env => Sys2Proof.Machine.execPress q env s
  | .cancel q => Sys2Proof.Machine.execCancel q s
  | .pressTile t => Sys2Proof.Machine.execPressTile t s
  | .arm port group part model version epoch => Sys2Proof.Machine.execArm port group part model version epoch s
  | .pressCtrlCancel port group part model version cause => Sys2Proof.Machine.execPressCtrlCancel port group part model version cause s
  | .ackReady src part model version => Sys2Proof.Machine.execAckReady src part model version s
  | .pressNack src part model version cause => Sys2Proof.Machine.execPressNack src part model version cause s
  | .pressDeadline q => Sys2Proof.Machine.execPressDeadline q s
  | .hangerSettle model => Sys2Proof.Machine.execHangerSettle model s
  | .hangerCommit path => Sys2Proof.Machine.execHangerCommit path s
  | .pressMcCommit path => Sys2Proof.Machine.execPressMcCommit path s
  | .push core => Sys2Proof.Machine.execPush core s
  | .pop core => Sys2Proof.Machine.execPop core s
  | .popDeadline core => Sys2Proof.Machine.execPopDeadline core s
  | .ringRec src part ring bytes => Sys2Proof.Machine.execRingRec src part ring bytes s
  | .creditReq src part ring rank => Sys2Proof.Machine.execCreditReq src part ring rank s
  | .credit src ring lane rank count => Sys2Proof.Machine.execCredit src ring lane rank count s
  | .ringNack src ring rank => Sys2Proof.Machine.execRingNack src ring rank s
  | .creditReturn src part ring lane rank count => Sys2Proof.Machine.execCreditReturn src part ring lane rank count s
  | .xringCommit path => Sys2Proof.Machine.execXringCommit path s
  | .gather core => Sys2Proof.Machine.execGather core s
  | .gatherResume core env => Sys2Proof.Machine.execGatherResume core env s
  | .gatherDeadline core => Sys2Proof.Machine.execGatherDeadline core s
  | .patchInstanceCommit path => Sys2Proof.Machine.execPatchInstanceCommit path s
  | .patchEntryCommit path => Sys2Proof.Machine.execPatchEntryCommit path s
  | .partCoreCommit path => Sys2Proof.Machine.execPartCoreCommit path s
  | .coreWipeDone core => Sys2Proof.Machine.execCoreWipeDone core s
  | .grant path => Sys2Proof.Machine.execGrant path s
  | .release path => Sys2Proof.Machine.execRelease path s
  | .zeroFillDone seg => Sys2Proof.Machine.execZeroFillDone seg s
  | .evictCommit path => Sys2Proof.Machine.execEvictCommit path s
  | .evictDone => Sys2Proof.Machine.execEvictDone s
  | .evictForced => Sys2Proof.Machine.execEvictForced s
  | .ctxBindCommit path ctx => Sys2Proof.Machine.execCtxBindCommit path ctx s
  | .ctxQueueCommit path ctx => Sys2Proof.Machine.execCtxQueueCommit path ctx s
  | .sqDoorbell path ctx tail => Sys2Proof.Machine.execSqDoorbell path ctx tail s
  | .cqDoorbell path ctx head => Sys2Proof.Machine.execCqDoorbell path ctx head s
  | .sqFetch ctx => Sys2Proof.Machine.execSqFetch ctx s
  | .loadImem ctx => Sys2Proof.Machine.execLoadImem ctx s
  | .start ctx => Sys2Proof.Machine.execStart ctx s
  | .engine ctx => Sys2Proof.Machine.execEngine ctx s
  | .batch ctx => Sys2Proof.Machine.execBatch ctx s
  | .copy ctx => Sys2Proof.Machine.execCopy ctx s
  | .clkGearCommit path => Sys2Proof.Machine.execClkGearCommit path s
  | .gear part payload => Sys2Proof.Machine.execGear part payload s
  | .gearPause voltReady => Sys2Proof.Machine.execGearPause voltReady s
  | .gearRestart lockOffset => Sys2Proof.Machine.execGearRestart lockOffset s
  | .pwrCapCommit path => Sys2Proof.Machine.execPwrCapCommit path s
  | .avsStep core up => Sys2Proof.Machine.execAvsStep core up s
  | .avsLimit core => Sys2Proof.Machine.execAvsLimit core s
  | .droop => Sys2Proof.Machine.execDroop s
  | .thermalSample readings trimBad => Sys2Proof.Machine.execThermalSample readings trimBad s
  | .pwrfail => Sys2Proof.Machine.execPwrfail s
  | .powerFailSequenceDone us linted => Sys2Proof.Machine.execPowerFailSequenceDone us linted s
  | .powerReturnDuringShutdown => Sys2Proof.Machine.execPowerReturnDuringShutdown s
  | .railLow => Sys2Proof.Machine.execRailLow s
  | .refclkLoss => Sys2Proof.Machine.execRefclkLoss s
  | .pwrPeakClr path => Sys2Proof.Machine.execPwrPeakClr path s
  | .thermPeakClr path => Sys2Proof.Machine.execThermPeakClr path s
  | .coldReset env => Sys2Proof.Machine.execColdReset env s
  | .warmReset => Sys2Proof.Machine.execWarmReset s
  | .coreReset mask => Sys2Proof.Machine.execCoreReset mask s
  | .portReset mask => Sys2Proof.Machine.execPortReset mask s
  | .tierReset => Sys2Proof.Machine.execTierReset s
  | .mgmtCoreReset => Sys2Proof.Machine.execMgmtCoreReset s
  | .mangleReset => Sys2Proof.Machine.execMangleReset s
  | .resetExit domain => Sys2Proof.Machine.execResetExit domain s
  | .trialWatchdog => Sys2Proof.Machine.execTrialWatchdog s
  | .tierSwapRequest image => Sys2Proof.Machine.execTierSwapRequest image s
  | .fwSwap => Sys2Proof.Machine.execFwSwap s
  | .swapRevert => Sys2Proof.Machine.execSwapRevert s
  | .lintAccept page upset => Sys2Proof.Machine.execLintAccept page upset s
  | .lintMirror upset => Sys2Proof.Machine.execLintMirror upset s
  | .lintShelfReady bad => Sys2Proof.Machine.execLintShelfReady bad s
  | .lintRdSelWrite path val upset => Sys2Proof.Machine.execLintRdSelWrite path val upset s
  | .lintClear path => Sys2Proof.Machine.execLintClear path s
  | .lastgaspAck path => Sys2Proof.Machine.execLastgaspAck path s
  | .lintsnapCommit path => Sys2Proof.Machine.execLintsnapCommit path s
  | .read tag page off count => Sys2Proof.Machine.execRead tag page off count s
  | .write tag page off count data => Sys2Proof.Machine.execWrite tag page off count data s
  | .reset tag domain arg => Sys2Proof.Machine.execReset tag domain arg s
  | .imgErase tag image => Sys2Proof.Machine.execImgErase tag image s
  | .imgEraseDone => Sys2Proof.Machine.execImgEraseDone s
  | .imgWrite tag image off data => Sys2Proof.Machine.execImgWrite tag image off data s
  | .imgRead tag image off count => Sys2Proof.Machine.execImgRead tag image off count s
  | .memRead tag core space off count => Sys2Proof.Machine.execMemRead tag core space off count s
  | .smbusReset => Sys2Proof.Machine.execSmbusReset s
  | .smbusDead => Sys2Proof.Machine.execSmbusDead s
  | .smbusBack => Sys2Proof.Machine.execSmbusBack s
  | .quiesceEnter => Sys2Proof.Machine.execQuiesceEnter s
  | .quiesceStuck => Sys2Proof.Machine.execQuiesceStuck s
  | .quiesceExit => Sys2Proof.Machine.execQuiesceExit s
  | .openPw path => Sys2Proof.Machine.execOpenPw path s
  | .chal path raw => Sys2Proof.Machine.execChal path raw s
  | .resp path => Sys2Proof.Machine.execResp path s
  | .nonceExpiry => Sys2Proof.Machine.execNonceExpiry s
  | .close path => Sys2Proof.Machine.execClose path s
  | .calCommit path => Sys2Proof.Machine.execCalCommit path s
  | .calWrite ok => Sys2Proof.Machine.execCalWrite ok s
  | .calDerive path val => Sys2Proof.Machine.execCalDerive path val s
  | .deriveDone res => Sys2Proof.Machine.execDeriveDone res s
  | .lampCommit path => Sys2Proof.Machine.execLampCommit path s
  | .lampFault lamp short => Sys2Proof.Machine.execLampFault lamp short s
  | .governorRedistribute caps reports => Sys2Proof.Machine.execGovernorRedistribute caps reports s
  | .capDecreaseTimeout chip => Sys2Proof.Machine.execCapDecreaseTimeout chip s
  | .busbarOverload deciW => Sys2Proof.Machine.execBusbarOverload deciW s
  | .tcCommandSilence => Sys2Proof.Machine.execTcCommandSilence s
  | .managerActive m inForce => Sys2Proof.Machine.execManagerActive m inForce s
  | .fanFailure failed => Sys2Proof.Machine.execFanFailure failed s
  | .inletTemperature quarterC => Sys2Proof.Machine.execInletTemperature quarterC s
  | .tcStart claimed seat => Sys2Proof.Machine.execTcStart claimed seat s
  | .leaseRenew direct network => Sys2Proof.Machine.execLeaseRenew direct network s
  | .leaseSelfStop => Sys2Proof.Machine.execLeaseSelfStop s
  | .leaseTakeover m portsDropped => Sys2Proof.Machine.execLeaseTakeover m portsDropped s
  | .higherTerm m term => Sys2Proof.Machine.execHigherTerm m term s
  | .perstNAssert => Sys2Proof.Machine.execPerstNAssert s
  | .pwrfailNReturn => Sys2Proof.Machine.execPwrfailNReturn s
  | .refclkReturn => Sys2Proof.Machine.execRefclkReturn s
  | .sourceStartupPass src raw => Sys2Proof.Machine.execSourceStartupPass src raw s
  | .trialConfirm => Sys2Proof.Machine.execTrialConfirm s
  | .lintMirrorEnd fail => Sys2Proof.Machine.execLintMirrorEnd fail s
  | .copyDone ctx link => Sys2Proof.Machine.execCopyDone ctx link s
  | .stretchEnd cycles => Sys2Proof.Machine.execStretchEnd cycles s

end Sys2Proof.Machine
end

