-- ==== Sys2Proof/Machine/Fetch.lean ====
section
/-!
DEFINITION. The decoder of a bundle's slots into operations (03_bundles.md R76-R82, R84, R94, R99, R101, R103, R105, R108), and
what the block does of itself when no command waits: its running cores fetch and issue the bundles of their instruction
memories, and holds end (log 2).
-/
namespace Sys2Proof.Machine

open Reg

/-! Fields of the slots. -/

/-- The common frame of a slot, R80. -/
def frameOf (c : CoreId) (x : Nat) (eob : Bool) : Frame :=
  { core := c, pred := fieldV x 8, pneg := x.testBit 12, pen := x.testBit 13, eob := eob }

/-- The fields of a scalar slot, R99. -/
def scalarFields (s1 : Bool) (x : Nat) : ScalarF :=
  { s1 := s1, dst := fieldV x 14, srca := fieldV x 20, srcb := fieldV x 26, areg := fieldV x 32, immsel := x.testBit 36,
    imm := fieldV x 37 }

/-- The fields of the branch slot, R94. -/
def branchFields (x : Nat) : BranchF := { srca := fieldV x 14, target := fieldV x 20, link := fieldV x 31 }

/-- The fields of the extended slot, R108. -/
def extFields (x : Nat) : ExtF :=
  { sa := fieldV x 14, sb := fieldV x 20, sc := fieldV x 26, sd := fieldV x 32, vd := fieldV x 38, va := fieldV x 43,
    th := fieldV x 48, id := fieldV x 54, mode := fieldV x 66, tgt := fieldV x 70, imm8 := fieldV x 81 }

/-! The operation of each slot, none for an opcode that the slot does not list. -/

/-- S0 and S1, R99. -/
def scalarInstr (s1 : Bool) (fr : Frame) (x : Nat) : Option Instr :=
  let f := scalarFields s1 x
  match x % 256 with
  | 0x00 => some (.nop fr (if s1 then .s1 else .s0))
  | 0x01 => some (.add fr f) | 0x02 => some (.sub fr f) | 0x03 => some (.mul fr f) | 0x04 => some (.and fr f)
  | 0x05 => some (.or fr f) | 0x06 => some (.xor fr f) | 0x07 => some (.shl fr f) | 0x08 => some (.shr fr f)
  | 0x09 => some (.sar fr f) | 0x0A => some (.cmpeq fr f) | 0x0B => some (.cmplt fr f) | 0x0C => some (.cmpltu fr f)
  | 0x0D => some (.movi fr f) | 0x0E => some (.ld fr f) | 0x0F => some (.st fr f) | 0x10 => some (.amov fr f)
  | 0x11 => some (.aadd fr f) | 0x12 => some (.thset fr f) | 0x13 => some (.plog fr f) | 0x14 => some (.rdtime fr f)
  | _ => none

/-- The branch slot, R94. -/
def branchInstr (fr : Frame) (x : Nat) : Option Instr :=
  let f := branchFields x
  match x % 256 with
  | 0x00 => some (.nop fr .b)
  | 0x01 => some (.br fr f) | 0x02 => some (.brz fr f) | 0x03 => some (.brnz fr f) | 0x04 => some (.call fr f)
  | 0x05 => some (.ret fr f) | 0x06 => some (.loop fr f) | 0x07 => some (.halt fr f)
  | _ => none

/-- The vector slot, R101. -/
def vectorInstr (fr : Frame) (x : Nat) : Option Instr :=
  let f := vecFields x
  match x % 256 with
  | 0x00 => some (.nop fr .v)
  | 0x01 => some (.vadd fr f) | 0x02 => some (.vsub fr f) | 0x03 => some (.vmul fr f) | 0x04 => some (.vfma fr f)
  | 0x05 => some (.vmax fr f) | 0x06 => some (.vmin fr f) | 0x07 => some (.vabs fr f) | 0x08 => some (.vexp fr f)
  | 0x09 => some (.vrcp fr f) | 0x0A => some (.vrsqrt fr f) | 0x0B => some (.vcmplt fr f) | 0x0C => some (.vsel fr f)
  | 0x0D => some (.vld fr f) | 0x0E => some (.vst fr f) | 0x0F => some (.vredsum fr f) | 0x10 => some (.vredmax fr f)
  | 0x11 => some (.vbcast fr f) | 0x12 => some (.vcvt fr f)
  | _ => none

/-- The matrix slot, R103. -/
def matrixInstr (fr : Frame) (x : Nat) : Option Instr :=
  let f := matFields x
  match x % 256 with
  | 0x00 => some (.nop fr .m)
  | 0x01 => some (.mload fr f) | 0x02 => some (.mswap fr f) | 0x03 => some (.mmul fr f) | 0x04 => some (.mclr fr f)
  | _ => none

/-- The data-mover slot, R105. -/
def moverInstr (fr : Frame) (x : Nat) : Option Instr :=
  let f := movFields x
  match x % 256 with
  | 0x00 => some (.nop fr .d)
  | 0x01 => some (.tmov fr f) | 0x02 => some (.xld fr f) | 0x03 => some (.xst fr f) | 0x04 => some (.send fr f)
  | 0x05 => some (.recv fr f) | 0x06 => some (.enq fr f) | 0x07 => some (.iload fr f)
  | _ => none

/-- The extended slot, R108; SAMPLE's operation is its MODE, SCAMAX reads under the vector slot's FMT, WAIT and EPOCHW take the
header's BUDGET. -/
def extendedInstr (fr : Frame) (x vfmt budget : Nat) : Option Instr :=
  let f := extFields x
  match x % 256 with
  | 0x00 => some (.nop fr .x)
  | 0x01 => some (.rand fr f)
  | 0x02 =>
    match f.mode.toNat with
    | 0 => some (.sampleBegin fr f) | 1 => some (.sampleChunk fr f) | 2 => some (.sampleEnd fr f) | _ => none
  | 0x03 => some (.scamax fr f (BitVec.ofNat 2 vfmt))
  | 0x04 => some (.scupd fr f) | 0x05 => some (.scget fr f) | 0x06 => some (.optim fr f) | 0x07 => some (.coll fr f)
  | 0x08 => some (.flip fr f) | 0x09 => some (.yield fr f)
  | 0x0A => some (.wait fr f (BitVec.ofNat 32 budget)) | 0x0B => some (.epochw fr f (BitVec.ofNat 32 budget))
  | _ => none

/-! Bundles. -/

/-- BUDGET of a bundle's header (R77). -/
def bundleBudget (b : BitVec 1024) : Nat := bits b.toNat 47 16

/-- Whether a bundle may hold: class WAIT or EPOCH (R82, R83). -/
def bundleHolds (b : BitVec 1024) : Bool := bundleClass b == 1 || bundleClass b == 4

/-- The operation of a present slot. -/
def slotInstr (c : CoreId) (b : BitVec 1024) (i : Nat) (eob : Bool) : Option Instr :=
  let x := slotBits b i
  let fr := frameOf c x eob
  match i with
  | 0 => scalarInstr false fr x
  | 1 => scalarInstr true fr x
  | 2 => branchInstr fr x
  | 3 => vectorInstr fr x
  | 4 => matrixInstr fr x
  | 5 => moverInstr fr x
  | _ => extendedInstr fr x (slotVfmt b) (bundleBudget b)

/-- The operations of the slots named, the last of them ending the bundle; a bundle with none passes its CCLK as a no-op. -/
def slotsInstrs (c : CoreId) (b : BitVec 1024) (slots : List Nat) : List Instr :=
  match slots.reverse with
  | [] => [.nop (frameOf c 0 true) .x]
  | l :: r => (r.reverse.filterMap fun i => slotInstr c b i false) ++ (slotInstr c b l true).toList

/-- The slots of a bundle that are PRESENT (R77, R78), in the order S0 to X. -/
def presentSlots (b : BitVec 1024) : List Nat := (List.range 7).filter fun i => b.getLsbD i

/-- What a core that fetches a bundle does with it: it halts at a breakpoint (R85), meets its encoding faults (R89, R90), or
issues its slots; those of a bundle that may hold follow the operation in slot X. -/
def State.bundleInstrs (s : State) (c : CoreId) (b : BitVec 1024) : List Instr :=
  let all := presentSlots b
  if (s.core c).bundle.opened then slotsInstrs c b (if bundleHolds b then all.filter (· != 6) else all)
  else if b.getLsbD 48 && s.breaks c then [.breakpointHalt c]
  else if !(bundleFaults (s.core c) b).isEmpty then [.illegalOpcode c b]
  else if bundleHolds b then (slotInstr c b 6 (all == [6])).toList
  else slotsInstrs c b all

/-- The bundle at a core's PC. -/
def State.fetch (s : State) (c : CoreId) : BitVec 1024 :=
  BitVec.ofNat 1024 (leNat (s.readMem (.imem c) ((s.core c).pc.toNat * 128) 128))

/-! What the block does of itself. -/

/-- Whether a core's next bundle issues now: it may issue, and the CCLK has come. -/
def State.bundleDue (s : State) (c : CoreId) : Bool :=
  s.mayIssue c && decide ((s.core c).start + (s.core c).cyc < s.clock.cclk)

/-- The bundles of the earliest CCLK at which a core is due, in ascending core index (02_chip.md R60). -/
def State.dueBundles (s : State) : List Instr :=
  let due := allCores.filter s.bundleDue
  let at_ (c : CoreId) : Nat := (s.core c).start + (s.core c).cyc
  let first := due.foldl (fun m c => min m (at_ c)) s.clock.cclk
  (due.filter fun c => at_ c == first).flatMap fun c => s.bundleInstrs c (s.fetch c)

/-- The end of a core's hold, when it has come: its budget is exceeded, or what it waits for is there (R83, R84). -/
def State.holdEvent (s : State) (c : CoreId) : List Instr :=
  match (s.core c).held with
  | none => []
  | some h =>
    if s.clock.paused then []
    else if h.budget < h.ticks then [.holdBudgetTimeout c]
    else match h.what with
      | .slot b =>
        let x := (s.core c).slot b
        if x.tag == .full || x.err.isSome then [.waitRelease c] else []
      | .epoch e => if e ≤ s.epochNo then [.epochRelease c] else []

/-- What the block does of itself at this point of time: holds end, then the bundles that are due issue. -/
def State.ownInstrs (s : State) : List Instr :=
  match allCores.flatMap s.holdEvent with
  | [] => s.dueBundles
  | l => l

end Sys2Proof.Machine
end

