-- ==== Sys2Proof/Machine/Step.lean ====
section
/-!
DEFINITION. One step of the block: the command at the front of the queue; on an empty queue, what the block does of itself (logs
1, 2, 3).
-/

namespace Sys2Proof.Machine

/-- A step without a command: in cold or warm reset nothing happens. Else what the block's cores do next of themselves enters the
queue; when nothing is due, a tick of weave time passes (09_weave.md R317), and the chip reports QUIESCED once it has become
idle (18_access.md R638). -/
def idle (s : State) : State :=
  if s.resets.cold || s.resets.warm then s
  else match s.ownInstrs with
    | [] => (s.passTicks 1).quiesceSettle
    | l => { s with pending := l }

/-- One step. -/
def step (s : State) : Host.Outcome State Fault Refusal :=
  match s.pending with
  | [] => .next (idle s)
  | c :: rest => exec c { s with pending := rest }

/-- Put the command that a word spells at the front of the queue; no row of the table gives bits, so the queue stays. -/
def State.withFetchWord (s : State) (nbits w : Nat) : State :=
  match decodeTableWord nbits w with
  | some c => { s with pending := c :: s.pending }
  | none => s

end Sys2Proof.Machine
end

