-- ==== Sys2Proof/WellFormed.lean ====
section
/-!
DEFINITION. Well-formed commands: what the part can receive at all. An operand that no width of Syntax.lean bounds is bounded
here, by the rule that gives it; a command that is not well formed names something that does not exist.
-/
namespace Sys2Proof

/-- A BAR access moves at least a byte and at most a page of them (14_pages.md R509). -/
def BarAcc.wf : BarAcc → Bool
  | .read n _ => decide (1 ≤ n) && decide (n ≤ 4096)
  | .write d => decide (1 ≤ d.length) && decide (d.length ≤ 4096)

/-- Bytes of a memory that scrub reads (05_buffers.md R157, R158, R159, R174). -/
def MemId.bytes : MemId → Nat
  | .cmem _ => 786432 | .min _ => 65536 | .acc _ => 131072 | .vec _ => 32768 | .stg _ => 16384 | .imem _ => 262144
  | .xmem => 2147483648

/-- The core that a memory belongs to, none for XMEM. -/
def MemId.owner : MemId → Option CoreId
  | .cmem c | .min c | .acc c | .vec c | .stg c | .imem c => some c
  | .xmem => none

/-- A row that exists: 512 banks of 8,192 rows in XMEM, 16 banks of 768 rows in a CMEM (05_buffers.md R160, R178). -/
def RowId.wf (r : RowId) : Bool :=
  match r.core with
  | none => decide (r.bank < 512) && decide (r.row < 8192)
  | some _ => decide (r.bank < 16) && decide (r.row < 768)

/-- A flit carries 256 payload bytes (09_weave.md R330). -/
def Flit.wf (f : Flit) : Bool := f.payload.length == 256

/-- A Mangle flit and the partition rank that sent it (10_mangle.md R360). -/
def senderFlit (sender : Nat) (f : Flit) : Bool := decide (sender < 65536) && f.wf

/-- A side record of 32 bytes and a tile of 4 KiB, both absent in an answer that brings no data (06_tiers.md R194, R213). -/
def tileBytes (side data : List Byte) : Bool :=
  (side.length == 32 && data.length == 4096) || (side.isEmpty && data.isEmpty)

/-- A press tile: its side record and its data (11_press.md R412). -/
def PressTile.wf (t : PressTile) : Bool := t.side.length == 32 && t.data.length == 4096

/-- Raw bits of the entropy sources, one byte a PCLK: at most the 6,000 PCLK of an action (08_spin.md R279, R292). -/
def rawWf (raw : List Byte) : Bool := decide (raw.length ≤ 6000)

/-- Ports and lamps that exist (18_access.md R651). -/
def Derived.wf (d : Derived) : Bool := d.presets.all (fun x => decide (x.1 < 12)) && d.trims.all (fun x => decide (x.1 < 2))

/-- Banks and rows that exist, and calibration items by section 0 to 8 (05_buffers.md R184; 18_access.md R648). -/
def BootEnv.wf (e : BootEnv) : Bool :=
  e.bankFail.all (fun b => decide (b < 512)) && e.fuseRows.all RowId.wf &&
    match e.cal with
    | none => true
    | some c => c.2.all fun x => decide (x.1 < 256 * 9)

/-- Whether a command is one that the part can receive: the commands named here bound their operands further than their types do. -/
def Instr.wf : Instr → Bool
  -- register pages and BARs (14_pages.md)
  | .pfBar2Access _ acc => acc.wf
  | .pfBar4Access _ acc => acc.wf
  | .vfBar2Access _ _ acc => acc.wf
  -- on-chip memory (05_buffers.md)
  | .scrubPass domain found => found.all fun x => decide (x.addr < x.mem.bytes) && x.mem.owner == domain
  | .darn row _ => row.wf
  | .cmemBistDone core failed _ => failed.all fun r => r.wf && (r.core == some core)
  | .xmemBistDone failed => failed.all fun r => r.wf && r.core.isNone
  -- tier controller and Shelf (06_tiers.md)
  | .move q _ pf => (match pf with | some raw => q == 4 && raw.length == 64 | none => true)
  | .readData _ _ _ side data => tileBytes side data
  | .writeData _ _ _ _ side data => tileBytes side data
  | .patrolRead _ ldpcPercent _ => decide (ldpcPercent ≤ 100)
  -- scale, optimizer, Spin (07_numerics.md, 08_spin.md)
  | .spinActionDone raw _ => rawWf raw
  -- links and the weave (09_weave.md)
  | .vc0FlitArrival _ f _ => f.wf
  -- Mangle (10_mangle.md)
  | .mangleUpFlit sender f => senderFlit sender f
  | .mangleDownFlit sender f => senderFlit sender f
  | .done sender f => senderFlit sender f
  | .finish sender f => senderFlit sender f
  | .abort sender f => senderFlit sender f
  -- press, hanger, rings (11_press.md)
  | .pressTile t => t.wf
  | .ringRec _ _ _ bytes => decide (64 ≤ bytes.length) && decide (bytes.length ≤ 65536)
  -- clocks, power, temperature (15_clocks_power.md)
  | .gear _ payload => payload.length == 256
  | .thermalSample readings trimBad => readings.length == 24 && trimBad.length == 24
  -- resets and firmware (16_reset.md)
  | .coldReset env => env.wf
  -- Lint (17_lint.md)
  | .lintAccept page _ => decide (page.toNat < 256)
  -- management, access, calibration, lamps (18_access.md)
  | .write _ _ _ count data => data.length == count.toNat
  | .imgWrite _ _ _ data => decide (data.length ≤ 255)
  | .chal _ raw => rawWf raw
  | .deriveDone res => res.wf
  -- the rack (01_machine.md)
  | .governorRedistribute caps reports =>
    (caps ++ reports).all fun c => decide (c.1 < 64) && decide (60 ≤ c.2) && decide (c.2 ≤ 150)
  | .managerActive _ inForce => inForce.length == 64
  | .fanFailure failed => decide (failed ≤ 5)
  | .tcStart _ seat => seat.fr32h || decide (seat.rack.toNat < 64)
  -- further events
  | .lintMirrorEnd fail => decide (fail ≠ some .ok)
  | .stretchEnd cycles => decide (1 ≤ cycles)
  | _ => true

end Sys2Proof
end

