-- ==== Sys2Proof/Safety.lean ====
section
/-!
DEFINITION. What a safe run of the block is, in the terms that statements use: tables and memories in canonical form; when a
slot operation issues without a fault, and what its bundle then holds; a core between two bundles with nothing in flight; a
register write that reaches its register.
-/
namespace Sys2Proof.Machine

open Reg

/-! Canonical form. -/

/-- The memories of a core are in canonical form. -/
def Core.canonical (k : Core) : Bool :=
  Memory.wf ramFill k.cmem && Memory.wf ramFill k.min && Memory.wf ramFill k.acc && Memory.wf ramFill k.vec &&
    Memory.wf ramFill k.imem && Memory.wf ramFill k.stg

/-- Registers, staged words and memories are in canonical form: equal contents are equal data. -/
def State.canonical (s : State) : Bool :=
  RegFile.wf s.regs && RegFile.wf s.staged && Memory.wf ramFill s.dram && Memory.wf ramFill s.xmem &&
    Memory.wf norFill s.nor && Memory.wf ramFill s.host && s.cores.all Core.canonical

/-! Issue of a slot operation. -/

/-- The bundle that a core is issuing, once its fetch checks are made. -/
def State.bundleOf (s : State) (c : CoreId) : Bundle := ((s.openBundle c).core c).bundle

/-- No check stops a slot operation whose predicate condition holds: its core issues, its bundle has no fault so far, no other
slot names its destinations (03_bundles.md R87), its units are free when it issues (04_contract.md R125), and no register
write in flight lands with one of its own (R129); `lands` lists those by latency. -/
def SlotReady (s : State) (fr : Frame) (slot : Nat) (dests : List Dst) (units : List Unit')
    (lands : List (Nat × Dst)) : Prop :=
  let k := s.core fr.core
  s.mayIssue fr.core = true ∧ (s.bundleOf fr.core).fault = none ∧ frameHolds fr k = true ∧
    (∀ d ∈ dests, ∀ x ∈ (s.bundleOf fr.core).dests, x.2 = d → x.1 = slot) ∧ k.unitBusy units = false ∧
    ∀ l ∈ lands, ∀ f ∈ k.flights, f.what.dst = some l.2 → f.due ≠ k.cyc + l.1

/-- What a slot operation leaves that issues without a fault: its bundle has its destinations and its effects too, and issues
when the operation is the last of it (03_bundles.md R76). -/
def State.issued (s : State) (fr : Frame) (slot : Nat) (dests : List Dst) (effs : List Eff) : State :=
  let t := (s.openBundle fr.core).updCore fr.core fun k =>
    { k with bundle := { k.bundle with
        dests := k.bundle.dests ++ dests.map fun d => (slot, d)
        effs := k.bundle.effs ++ effs.map fun e => (slot, e) } }
  if fr.eob then t.finish fr.core else t

/-- A core between two bundles, RUNNING, with nothing in flight and nothing held, whose next bundle is loaded and reads
without an error and is not the last that memory holds; no halt is requested. -/
def State.calm (s : State) (c : CoreId) : Prop :=
  let k := s.core c
  k.st = .running ∧ k.quiet = false ∧ s.clock.paused = false ∧ k.bundle = Bundle.none ∧ k.flights = [] ∧ k.access = [] ∧
    k.beats = [] ∧ k.busy = [] ∧ k.staging = [] ∧ k.br = none ∧ k.yld = none ∧ k.held = none ∧ k.overrun = false ∧
    k.clash = none ∧ k.stepping = false ∧ k.pc.toNat < 2047 ∧
    k.imemOk.getLsbD (k.pc.toNat / 64) = true ∧ s.uesIn (.imem c) (k.pc.toNat * 128) 128 = [] ∧
    s.flag (Page.core c.1) CORE_CTRL_HALT_REQ = false

/-! A register write. -/

/-- A whole-word write by a path reaches the register at an offset of a page: the page is assigned, is the path's to reach and
out of reset, and the offset holds fields that the path may write (14_pages.md R503-R508, R525). -/
def State.takesWrite (s : State) (path : Path) (page off : Nat) : Prop :=
  reaches path page = true ∧ s.inReset page = false ∧ ∃ k, kindOf page = some k ∧ fieldsAt k off ≠ [] ∧
    match path with
    | .vf _ => vfMay off = true
    | _ => True

/-- Two states read the same in every register word beyond the page headers. -/
def sameRegisters (s t : State) : Prop :=
  ∀ page idx off, 0x040 ≤ off → off < 0x1000 → t.word page idx off = s.word page idx off

/-- Two states read the same in every register word of a page beyond its header. -/
def samePage (s t : State) (page : Nat) : Prop :=
  ∀ idx off, idx < 0x10000 → 0x040 ≤ off → off < 0x1000 → t.word page idx off = s.word page idx off

/-! COMMIT. -/

/-- The state in which a COMMIT checks its groups: the header has recorded the write (14_pages.md R519, R526). -/
def State.atCommit (s : State) (path : Path) (page : Nat) : State :=
  let s := s.lastPath page path
  s.set page COMMIT_STATUS_SEQ (s.get page COMMIT_STATUS_SEQ + 1)

/-- A write of COMMIT.APPLY by a path reaches a page that is READY, and finds one group of the path touched, which passes its
checks (14_pages.md R519, R520). -/
def State.commitsOne (s : State) (path : Path) (page g : Nat) : Prop :=
  s.canonical = true ∧ s.takesWrite path page COMMIT_APPLY.off ∧ s.flag page PAGE_STATUS_READY = true ∧
    ∃ k, kindOf page = some k ∧ ((pathGroups k path).filter fun x => s.isTouched page x) = [g] ∧
      (s.atCommit path page).checkGroup path page k g = .ok

/-- What a COMMIT of one group reports: STATUS OK, GROUP, and the group is no longer touched (14_pages.md R519, R520). -/
def State.committedOne (s : State) (page g : Nat) : Prop :=
  s.get page COMMIT_STATUS_STATUS = Status.ok.code ∧ s.get page COMMIT_STATUS_GROUP = g ∧ s.isTouched page g = false

/-! Engines. -/

/-- A tier queue's descriptor `d` at place `i` is the first that an operation runs, none that the queue has started has an
unassigned OP (06_tiers.md R204, R208), and no firmware swap is under way. -/
def State.tierPicks (s : State) (q : Fin 5) (op i : Nat) (d : Desc) : Prop :=
  s.tier.swapping = false ∧ s.refuseBad q = s ∧ s.pick s.tier.queues[q] (· == op) = some i ∧
    s.tier.queues[q][i]? = some d ∧ s.tierMay d = true

/-- And it passes its checks (06_tiers.md R204). -/
def State.tierRuns (s : State) (q : Fin 5) (op i : Nat) (d : Desc) : Prop := s.tierPicks q op i d ∧ s.tierCheck d = .ok

/-- A flit of Mangle names a member on this chip of a valid group, and the page is out of reset (10_mangle.md R382-R384). -/
def State.mangleNames (s : State) (f : Flit) : Prop :=
  let g := s.grp f.bslot.toNat
  s.inReset Page.mangle = false ∧ f.bslot.toNat < 64 ∧ g.valid = true ∧ g.part = f.part.toNat ∧
    (s.grpRank g (coreOf f.dcore.toNat)).isSome = true ∧ f.eng.getLsbD 15 = true

/-- DRAM reads as its bytes: the XMEM cache is OFF, and no line is poisoned (05_buffers.md R162; 06_tiers.md R196). -/
def State.plainDram (s : State) : Prop := s.canonical = true ∧ s.cacheState = 0 ∧ s.tier.poison = []

end Sys2Proof.Machine
end

