-- ==== Sys2Proof/Certificates/Slice0/Obligations.lean ====
section
/-! DEFINITION. The statements for the provers; each docstring names the rules of spec/ that its statement follows. -/

open Sys2Proof Sys2Proof.Machine Sys2Proof.Machine.Reg

/-! ## Queue and reset -/

/-- The model's queue (log 1): a step with a command in front is exec of that command with the rest of the queue. -/
def Obligations.StepRunsFrontCommand : Prop :=
  ∀ (c : Instr) (rest : List Instr) (s : State),
    step { s with pending := c :: rest } = exec c { s with pending := rest }

/-! ## Slot operations: what each gathers into its bundle -/

/-- 03_bundles.md R79: a no-op issues and adds nothing to its bundle, whatever its slot and its predicate. -/
def Obligations.NopGathersNothing : Prop :=
  ∀ (fr : Frame) (slot : SlotId) (s : State), s.mayIssue fr.core = true →
    exec (.nop fr slot) s = .next (s.issued fr slot.idx [] [])

/-- 03_bundles.md R81, R99: the integer operations of a scalar slot, with their results and latencies; one whose predicate
condition fails has no effect. -/
def Obligations.IntegerOperationsGatherResults : Prop :=
  ∀ (fr : Frame) (f : ScalarF) (s : State),
    let k := s.core fr.core
    let a := k.rs f.srca
    let b := opB f k
    let sh := b.toNat % 64
    let out (l : Nat) (x : Dword) : State :=
      s.issued fr (scalarSlot f) [.s f.dst] [.busy (scalarUnit f) 1, .land l (.regS f.dst x)]
    (SlotReady s fr (scalarSlot f) [.s f.dst] [scalarUnit f] [(1, .s f.dst)] →
      exec (.add fr f) s = .next (out 1 (a + b)) ∧ exec (.sub fr f) s = .next (out 1 (a - b)) ∧
      exec (.and fr f) s = .next (out 1 (a &&& b)) ∧ exec (.or fr f) s = .next (out 1 (a ||| b)) ∧
      exec (.xor fr f) s = .next (out 1 (a ^^^ b)) ∧ exec (.shl fr f) s = .next (out 1 (a <<< sh)) ∧
      exec (.shr fr f) s = .next (out 1 (a >>> sh)) ∧ exec (.sar fr f) s = .next (out 1 (a.sshiftRight sh)) ∧
      exec (.movi fr f) s = .next (out 1 f.imm)) ∧
    (SlotReady s fr (scalarSlot f) [.s f.dst] [scalarUnit f] [(3, .s f.dst)] →
      exec (.mul fr f) s = .next (out 3 (a * b))) ∧
    (s.mayIssue fr.core = true → (s.bundleOf fr.core).fault = none → frameHolds fr k = false →
      (∀ x ∈ (s.bundleOf fr.core).dests, x.2 = .s f.dst → x.1 = scalarSlot f) →
      ∀ i ∈ [Instr.add fr f, .sub fr f, .and fr f, .or fr f, .xor fr f, .shl fr f, .shr fr f, .sar fr f, .movi fr f, .mul fr f],
        exec i s = .next (s.issued fr (scalarSlot f) [.s f.dst] []))

/-- 03_bundles.md R99: compares and PLOG write a predicate, AMOV and AADD an address register, THSET a tile handle, RDTIME weave
time. -/
def Obligations.OtherScalarOperationsGatherResults : Prop :=
  ∀ (fr : Frame) (f : ScalarF) (s : State),
    let k := s.core fr.core
    let a := k.rs f.srca
    let b := opB f k
    let lo : BitVec 4 := f.dst.setWidth 4
    let ready (l : Nat) (d : Dst) : Prop := SlotReady s fr (scalarSlot f) [d] [scalarUnit f] [(l, d)]
    let out (d : Dst) (l : Nat) (w : Land) : State :=
      s.issued fr (scalarSlot f) [d] [.busy (scalarUnit f) 1, .land l w]
    (ready 1 (.p lo) → f.dst.toNat < 16 →
      exec (.cmpeq fr f) s = .next (out (.p lo) 1 (.regP lo (a == b))) ∧
      exec (.cmplt fr f) s = .next (out (.p lo) 1 (.regP lo (decide (a.toInt < b.toInt)))) ∧
      exec (.cmpltu fr f) s = .next (out (.p lo) 1 (.regP lo (decide (a.toNat < b.toNat)))) ∧
      (f.srca.toNat < 16 → f.srcb.toNat < 16 →
        exec (.plog fr f) s = .next (out (.p lo) 1 (.regP lo
          (plog (f.imm.toNat % 4) (k.rp (f.srca.setWidth 4)) (k.rp (f.srcb.setWidth 4))))))) ∧
    (ready 1 (.a lo) → f.dst.toNat < 16 →
      exec (.amov fr f) s = .next (out (.a lo) 1 (.regA lo a)) ∧
      exec (.aadd fr f) s = .next (out (.a lo) 1 (.regA lo (addrAdd (k.ra f.areg) f.imm)))) ∧
    (ready 1 (.t f.dst) → exec (.thset fr f) s = .next (out (.t f.dst) 1 (.regT f.dst (k.rs f.srcb ++ a)))) ∧
    (ready 2 (.s f.dst) → exec (.rdtime fr f) s = .next (out (.s f.dst) 2 (.regS f.dst s.weave.wt)))

/-- 03_bundles.md R99, R100, R73: LD and ST make one narrow access to an aligned CMEM offset; ST's bytes land two CCLK later; an
address that is misaligned, outside CMEM or in another SPACE is a PARAM fault of the slot. Where the rules leave a point open
the statement holds the model's reading, log 99. -/
def Obligations.ScalarLoadAndStoreGather : Prop :=
  ∀ (fr : Frame) (f : ScalarF) (s : State),
    let k := s.core fr.core
    let m := MemId.cmem fr.core
    let u := Eff.busy (scalarUnit f) 1
    (∀ o, narrowAddr f k = .ok o →
      (SlotReady s fr (scalarSlot f) [.s f.dst] [scalarUnit f] [(4, .s f.dst)] →
        exec (.ld fr f) s = .next (s.issued fr (scalarSlot f) [.s f.dst]
          ([u, .land 4 (.regS f.dst (BitVec.ofNat 64 (leNat (s.readMem m o 8)))), .banks .narrow 1 [narrowBank o]] ++
            ueEffs m (s.uesIn m o 8)))) ∧
      (SlotReady s fr (scalarSlot f) [] [scalarUnit f] [] →
        exec (.st fr f) s = .next (s.issued fr (scalarSlot f) []
          [u, .land 2 (.mem 0 o (leBytes 8 (k.rs f.srcb).toNat)), .banks .narrow 1 [narrowBank o]]))) ∧
    (∀ x, narrowAddr f k = .error x → fr.eob = false → SlotReady s fr (scalarSlot f) [] [scalarUnit f] [] →
      ∃ t, exec (.st fr f) s = .next t ∧
        (t.core fr.core).bundle.fault = some (issueRank (scalarSlot f), ⟨.param, 0, BitVec.ofNat 3 (scalarSlot f)⟩))

/-- 03_bundles.md R91, R92, R94: the branch unit, outside the delay bundles of another branch. Where the rules leave a point
open the statement holds the model's reading, log 100. -/
def Obligations.BranchOperationsGather : Prop :=
  ∀ (fr : Frame) (f : BranchF) (s : State),
    let k := s.core fr.core
    let a := k.rs f.srca
    let go (taken : Bool) (t : BitVec 11) : Eff := .branch (if taken then .goto t else .fall)
    k.br = none →
    (SlotReady s fr 2 [] [] [] →
      exec (.br fr f) s = .next (s.issued fr 2 [] [go true f.target]) ∧
      exec (.brz fr f) s = .next (s.issued fr 2 [] [go (a == 0) f.target]) ∧
      exec (.brnz fr f) s = .next (s.issued fr 2 [] [go (a != 0) f.target]) ∧
      (a.toNat ≤ 2047 → exec (.ret fr f) s = .next (s.issued fr 2 [] [go true (a.setWidth 11)])) ∧
      exec (.halt fr f) s = .next (s.issued fr 2 [] [.branch .halt])) ∧
    (SlotReady s fr 2 [.s f.link] [] [(1, .s f.link)] →
      exec (.call fr f) s = .next (s.issued fr 2 [.s f.link]
        [.land 1 (.regS f.link (BitVec.ofNat 64 (k.pc.toNat + 3))), go true f.target])) ∧
    (SlotReady s fr 2 [.s f.srca] [] [(1, .s f.srca)] →
      exec (.loop fr f) s = .next (s.issued fr 2 [.s f.srca]
        [.land 1 (.regS f.srca (a - 1)), go (a - 1 != 0) f.target]))

/-- 03_bundles.md R91, R93: a branch-unit operation in a delay bundle of another is a DELAY_BRANCH fault, whatever its
predicate. -/
def Obligations.BranchInDelayBundleFaults : Prop :=
  ∀ (fr : Frame) (f : BranchF) (s : State) (x : Nat × BrTo), s.mayIssue fr.core = true → fr.eob = false →
    (s.bundleOf fr.core).fault = none → (s.core fr.core).br = some x →
    ∀ i ∈ [Instr.br fr f, .brz fr f, .brnz fr f, .ret fr f, .halt fr f],
      ∃ t, exec i s = .next t ∧ ∃ y, (t.core fr.core).bundle.fault = some y ∧
        y.2 = ⟨.contractFault, 0x23, 2⟩

/-- 03_bundles.md R101; 07_numerics.md R257: the lane-wise vector operations, under the formats that each takes. -/
def Obligations.VectorOperationsGatherResults : Prop :=
  ∀ (fr : Frame) (f : VecF) (s : State),
    let k := s.core fr.core
    let a := k.rv f.va
    let b := k.rv f.vb
    let ready (l : Nat) : Prop := SlotReady s fr 3 [.v f.vd] [.v] [(l, .v f.vd)]
    let out (l : Nat) (x : Lanes) : State := s.issued fr 3 [.v f.vd] [.busy .v 1, .land l (.regV f.vd x (vecMask f k))]
    f.fmt ≠ 3 →
    (ready 2 →
      exec (.vadd fr f) s = .next (out 2 (lanes2 (byFmt2 f.fmt fadd (· + ·)) a b)) ∧
      exec (.vsub fr f) s = .next (out 2 (lanes2 (byFmt2 f.fmt fsub (· - ·)) a b)) ∧
      exec (.vmax fr f) s = .next (out 2 (lanes2 (byFmt2 f.fmt fmax iMax) a b)) ∧
      exec (.vmin fr f) s = .next (out 2 (lanes2 (byFmt2 f.fmt fmin iMin) a b)) ∧
      exec (.vabs fr f) s = .next (out 2 (lanes1 (absLane f.fmt) a)) ∧
      exec (.vcmplt fr f) s = .next (out 2 (lanes2 (ltLane f.fmt) a b)) ∧
      exec (.vsel fr f) s = .next (out 2 (lanes3 (fun x y m => if m = 0 then y else x) a b (k.rv f.vm))) ∧
      exec (.vbcast fr f) s = .next (out 2 (Vector.replicate 512 ((k.rs f.ss).setWidth 32)))) ∧
    (ready 3 → exec (.vmul fr f) s = .next (out 3 (lanes2 (byFmt2 f.fmt fmul (· * ·)) a b))) ∧
    (ready 4 → f.fmt = 0 → exec (.vfma fr f) s = .next (out 4 (lanes3 ffma a b (k.rv f.vc)))) ∧
    (ready 4 → f.fmt = 1 → exec (.vfma fr f) s = .next (out 4 (lanes3 (fun x y z => x * y + z) a b (k.rv f.vc)))) ∧
    (ready 4 → f.fmt = 2 → exec (.vfma fr f) s = .next (out 4 (lanes3 (bf3 ffma) a b (k.rv f.vc)))) ∧
    (ready 8 → f.fmt = 0 →
      exec (.vexp fr f) s = .next (out 8 (lanes1 fexp a)) ∧ exec (.vrcp fr f) s = .next (out 8 (lanes1 frcp a)) ∧
      exec (.vrsqrt fr f) s = .next (out 8 (lanes1 frsqrt a)))

/-- 03_bundles.md R101, R102; 07_numerics.md R252: VLD, VST, the reductions and VCVT. Where the rules leave a point open the
statement holds the model's reading, log 99. -/
def Obligations.VectorMemoryAndConversionsGather : Prop :=
  ∀ (fr : Frame) (f : VecF) (s : State),
    let k := s.core fr.core
    let a := k.rv f.va
    f.fmt ≠ 3 →
    (∀ sp o, wideAddr f k = .ok (sp, o) →
      let m := memOfSpace fr.core sp
      (SlotReady s fr 3 [.v f.vd] [.v] [(6, .v f.vd)] →
        exec (.vld fr f) s = .next (s.issued fr 3 [.v f.vd]
          ([.busy .v 4, .land 6 (.regV f.vd (bytesLanes (s.readMem m o 2048)) (vecMask f k)),
            .banks .vec 1 (vecBanks sp o)] ++ ueEffs m (s.uesIn m o 2048)))) ∧
      (SlotReady s fr 3 [] [.v] [] →
        exec (.vst fr f) s = .next (s.issued fr 3 []
          (.busy .v 4 :: (storeLanes 5 sp o a (vecMask f k) ++ [.banks .vec 1 (vecBanks sp o)]))))) ∧
    (SlotReady s fr 3 [.s f.ss] [.v] [(11, .s f.ss)] →
      exec (.vredsum fr f) s = .next (s.issued fr 3 [.s f.ss]
        [.busy .v 1, .land 11 (.regS f.ss (reduceLanes f.fmt fadd (· + ·) a))]) ∧
      exec (.vredmax fr f) s = .next (s.issued fr 3 [.s f.ss]
        [.busy .v 1, .land 11 (.regS f.ss (reduceLanes f.fmt fmax iMax a))])) ∧
    (∀ e, EFmt.ofCode (f.imm8.toNat % 16) = some e → cvtBad f = none →
      SlotReady s fr 3 [.v f.vd] [.v] [(3, .v f.vd)] →
      (f.imm8.getLsbD 4 = true → exec (.vcvt fr f) s = .next (s.issued fr 3 [.v f.vd]
        [.busy .v 1, .land 3 (.regV f.vd (cvtUnpack f.fmt (f.imm8.toNat % 16) e a) (vecMask f k)), .saturated 0])) ∧
      (f.imm8.getLsbD 4 = false → exec (.vcvt fr f) s = .next (s.issued fr 3 [.v f.vd]
        [.busy .v 1, .land 3 (.regV f.vd (cvtPack f.fmt e a).1 (vecMask f k)), .saturated (cvtPack f.fmt e a).2])))

/-- 03_bundles.md R103, R104; 04_contract.md R123, R126: the matrix slot; an operation begins at an even CYC. Where the rules
leave a point open the statement holds the model's reading, logs 17 and 101. -/
def Obligations.MatrixOperationsGather : Prop :=
  ∀ (fr : Frame) (f : MatF) (s : State),
    let k := s.core fr.core
    let lag := k.cyc % 2
    let c := f.count.toNat
    let base := f.ibase.toNat * 64
    let m := MemId.min fr.core
    let nw := sideBytes f.wfmt.toNat f.wfmt.toNat
    let ni := sideBytes f.ifmt.toNat f.wfmt.toNat
    let q := (c + 3) / 4
    let rows := inputRows s fr.core base c nw
    let sums := mmulRows k f.ifmt.toNat f.wfmt.toNat (inputRows s fr.core base c ni)
    let ready (us : List Unit') : Prop := SlotReady s fr 4 [] us []
    (ready [.mload] → mloadBad f = none →
      exec (.mload fr f) s = .next (s.issued fr 4 [] (.busy .mload (lag + 2 * q) ::
        (((List.range rows.length).zip rows).map (fun p => Eff.land (lag + 2 * (2 + q)) (.plane (f.wrow.toNat + p.1) p.2)) ++
          ueEffs m (s.uesIn m base (c * nw)))))) ∧
    (ready [.mload, .mcomp] →
      exec (.mswap fr f) s = .next (s.issued fr 4 [] [.busy .mload (lag + 2), .busy .mcomp (lag + 2), .land (lag + 2) .swap])) ∧
    (ready [.mcomp] → mmulBad f = none →
      exec (.mmul fr f) s = .next (s.issued fr 4 [] (.busy .mcomp (lag + 2 * c) ::
        (((List.range sums.length).zip sums).map (fun p =>
          Eff.land (lag + 2 * (c + 8)) (.accRow (f.arow.toNat + p.1) p.2 f.acc)) ++
          ueEffs m (s.uesIn m base (c * ni)))))) ∧
    (ready [.mcomp] → mclrBad f = none →
      exec (.mclr fr f) s = .next (s.issued fr 4 [] [.busy .mcomp (lag + 2 * ((c + 7) / 8)),
        .land (lag + 2 * ((c + 7) / 8) + 2) (.mem 4 (f.arow.toNat * 2048) (List.replicate (c * 2048) 0))]))

/-- 03_bundles.md R105; 02_chip.md R64; 04_contract.md R126, R142: TMOV between CMEM and an operand buffer, XLD and XST between
tiles that are in their spaces, with tags that permit them; the bytes moved are those of the shorter tile (the model's choice,
log 94). TMOV with CMEM on both sides or on none is a PARAM fault (the model's reading, log 95). -/
def Obligations.TileMovesGather : Prop :=
  ∀ (fr : Frame) (f : MovF) (s : State) (ts td : Handle),
    let c := fr.core
    let k := s.core c
    SlotReady s fr 5 [] [.d] [] →
    (s.tile c k f.ts coreSpaces true = .ok ts → s.tile c k f.td coreSpaces true = .ok td →
      (∀ data sat, (ts.space = 0 ∧ td.space ≠ 0) ∨ (ts.space ≠ 0 ∧ td.space = 0) →
        ts.readable k = .ok () → td.writable k = .ok () →
        let m := memOfSpace c ts.space
        let n := tmovCount ts td
        let l := 3 + n + (if ts.space = 4 then 2 else 0)
        tmovData ts td (s.tileBytes m ts).1 = .ok (data, sat) →
        let data := data.take (movedBytes data.length td.bytes)
        exec (.tmov fr f) s = .next (s.issued fr 5 [] (.busy .d n ::
          ([.banks .tmov 1 ((tmovBlocks ts td data.length).map wideBanks), .saturated sat] ++ ts.readEffs n ++ td.landEffs l data ++
            td.writeEffs l ++ ueEffs m (s.tileBytes m ts).2)))) ∧
      ((ts.space = 0 ∧ td.space = 0) ∨ (ts.space ≠ 0 ∧ td.space ≠ 0) → fr.eob = false →
        ∃ t, exec (.tmov fr f) s = .next t ∧
          (t.core c).bundle.fault = some (issueRank 5, ⟨.param, 0, 5⟩))) ∧
    (ts.readable k = .ok () → td.writable k = .ok () →
      (∀ src, s.tile c k f.ts [1] true = .ok ts → s.tile c k f.td [0] true = .ok td →
        let b := movedBytes td.bytes ts.bytes
        s.scratchBytes c ts b = .ok src →
        let n := movedPairs td ts
        exec (.xld fr f) s = .next (s.issued fr 5 [] (.busy .d n ::
          ([.banks .xldLand 8 (pairBanks (td.movedBlocks b)), .beats 1 (s.beatSegs c ts b true)] ++ ts.readEffs n ++
            td.landEffs (8 + n) src.1 ++ td.writeEffs (8 + n) ++ ueEffs .xmem src.2)))) ∧
      (∀ es, s.tile c k f.ts [0] true = .ok ts → s.tile c k f.td [1] true = .ok td →
        let b := movedBytes ts.bytes td.bytes
        let n := movedPairs ts td
        s.scratchLand c td (8 + n) ((s.tileBytes (.cmem c) ts).1.take b) = .ok es →
        exec (.xst fr f) s = .next (s.issued fr 5 [] (.busy .d n ::
          ([.banks .xstSend 1 (pairBanks (ts.movedBlocks b)), .beats 3 (s.beatSegs c td b false)] ++ ts.readEffs n ++ es ++
            td.writeEffs (8 + n) ++ ueEffs (.cmem c) (s.tileBytes (.cmem c) ts).2)))))

/-- 03_bundles.md R96, R105-R107: SEND, RECV, ENQ and ILOAD with operands that pass their checks. Where the rules leave a point
open the statement holds the model's reading, logs 5, 96 and 97. -/
def Obligations.MoverPortAndQueueOperationsGather : Prop :=
  ∀ (fr : Frame) (f : MovF) (s : State) (p : PortId) (ts td : Handle),
    let c := fr.core
    let k := s.core c
    let e := s.pathEntry f.path.toNat
    let hd := Handle.of (k.rt f.td)
    SlotReady s fr 5 [] [.d] [] →
    (s.movPort f = .ok p → pathValid e = true → pathMc e = false → pathEgress e = p.1 → s.tile c k f.ts [0] true = .ok ts →
      ts.readable k = .ok () →
      let src := s.tileBytes (.cmem c) ts
      let fs := s.sendFlits c f hd src.1
      ((s.port p).vc0.toList.map List.length).sum + fs.length ≤ 256 →
      exec (.send fr f) s = .next (s.issued fr 5 [] (.busy .d (ts.bytes / 512) :: .banks .xstSend 1 (ts.blocks.map wideBanks) ::
        .send p fs :: (ts.readEffs (ts.bytes / 512) ++ ueEffs (.cmem c) src.2)))) ∧
    (s.movPort f = .ok p → s.tile c k f.td [0] true = .ok td → td.tagged = true → td.writable k = .ok () →
      exec (.recv fr f) s = .next (s.issued fr 5 []
        [.busy .d 1, .tagWrite td.bslot, .recv ⟨p, td.bslot, td.base, td.rows, td.rowLen, td.step⟩])) ∧
    (s.tile c k f.ts [0] false = .ok ts → hd.tagged = true → ts.readable k = .ok () → hd.writable k = .ok () →
      s.queued c (engineOf f.engine) < (engineOf f.engine).limit →
      let m := MemId.cmem c
      exec (.enq fr f) s = .next (s.issued fr 5 [] (.busy .d 2 :: (ts.readEffs 2 ++
        [.tagWrite hd.bslot, .enq (engineOf f.engine) (s.coreDesc c (s.readMem m ts.base 64) hd.bslot)] ++
        ueEffs m (s.uesIn m ts.base 64))))) ∧
    (∀ src, let n := f.nblk.toNat
      let h : Handle := { Handle.of (k.rt f.ts) with stride := 0, rows := 2 * n, rowLen := 4096 }
      iloadBad f = none → h.space = 1 → s.handleOk c h = true → s.scratchBytes c h (8192 * n) = .ok src →
      h.declared k = .ok () →
      let first := f.ibase.toNat / 64
      exec (.iload fr f) s = .next (s.issued fr 5 [] (.busy .d (8 * n) ::
        ([.blocksInvalid first n, .beats 1 (s.beatSegs c h (8192 * n) true)] ++ (List.range n).map (fun j =>
          .land (8 + 8 * (j + 1)) (.block (BitVec.ofNat 5 (first + j)) (slice src.1 (8192 * j) 8192))) ++
          ueEffs .xmem src.2))))

/-- 03_bundles.md R108, R111, R113, R116; 08_spin.md R285, R286: RAND, SAMPLE and YIELD. Where the rules leave a point open the
statement holds the model's reading, logs 11 and 12. -/
def Obligations.RandSampleYieldGather : Prop :=
  ∀ (fr : Frame) (f : ExtF) (s : State),
    let k := s.core fr.core
    (SlotReady s fr 6 [.v f.vd] [.x] [(3, .v f.vd)] → f.mode.toNat ≤ 5 → k.allSeeded = true →
      exec (.rand fr f) s = .next (s.issued fr 6 [.v f.vd] [.busy .x 1,
        .land 3 (.regV f.vd (randLanes k.lanes f.mode.toNat) none), .lanes (k.lanes.map fun x => (x.1, x.2.step)), .drawOp])) ∧
    (SlotReady s fr 6 [] [.x] [] →
      (let n := (k.rs f.sc).toNat
       let x : Sample := ⟨true, (k.rs f.sa).setWidth 32, (k.rs f.sb).toNat % 512, BitVec.ofNat 32 (bits (k.rs f.sb).toNat 63 32),
         n, 0, List.replicate (min n 128) []⟩
       x.legal = true → exec (.sampleBegin fr f) s = .next (s.issued fr 6 [] [.busy .x 2, .sample x, .drawOp])) ∧
      (∀ h, k.sample.begun = true → s.tile fr.core k f.th [0] false = .ok h → (h.fmt = 8 ∨ h.fmt = 9) →
        k.sample.rows ≤ h.rows → 1 ≤ chunkCols h → chunkCols h ≤ 512 → k.sample.next ≤ (k.rs f.sc).toNat →
        (k.rs f.sc).toNat + chunkCols h ≤ 2 ^ 32 → h.readable k = .ok () →
        (k.sample.greedy = true ∨ k.sample.limited = true ∨ ∀ r, r < k.sample.rows → (assocGet k.lanes r).isSome = true) →
        let src := s.tileBytes (.cmem fr.core) h
        let r := presentRows (!k.sample.greedy && !k.sample.limited) h.fmt (k.rs f.sc).toNat h.rowLen src.1
          { k.sample with next := (k.rs f.sc).toNat + chunkCols h } k.lanes
        exec (.sampleChunk fr f) s = .next (s.issued fr 6 [] ([.busy .x (16 + 2 * k.sample.rows), .sample r.1, .lanes r.2, .drawOp]
          ++ ueEffs (.cmem fr.core) src.2))) ∧
      (k.br = none → s.quiesces fr.core = false →
        exec (.yield fr f) s = .next (s.issued fr 6 [] (.busy .x 1 :: (if k.evict then [.yieldTo f.tgt] else []))))) ∧
    (let n := 24 + 4 * k.sample.rows
     SlotReady s fr 6 [.v f.vd] [.x] [(n, .v f.vd)] → k.sample.begun = true → 0 < k.sample.next →
     (k.sample.limited = false ∨ k.sample.greedy = true ∨ ∀ r, r < k.sample.rows → (assocGet k.lanes r).isSome = true) →
     let r := k.sample.finishRows (f.imm8.getLsbD 0) k.lanes
     exec (.sampleEnd fr f) s = .next (s.issued fr 6 [.v f.vd] [.busy .x n, .land n (.regV f.vd (Vector.ofFn fun i => r.1.getD i.1 0)
       (some (Vector.ofFn fun i => if i.1 < 2 * k.sample.rows then 1 else 0))), .lanes r.2, .sample Sample.none, .drawOp]))

/-- 03_bundles.md R108-R110; 07_numerics.md R260-R262, R268; 10_mangle.md R360: the scale unit, OPTIM, COLL and FLIP. -/
def Obligations.ScaleOptimCollFlipGather : Prop :=
  ∀ (fr : Frame) (f : ExtF) (vfmt : BitVec 2) (s : State),
    let c := fr.core
    let k := s.core c
    let id := f.id.toNat
    (SlotReady s fr 6 [] [.x] [] → id ≤ 255 →
      (vfmt ≠ 3 → s.scaleValid c id = true →
        let a := amaxOf (fmtWords vfmt (k.rv f.va))
        exec (.scamax fr f vfmt) s = .next (s.issued fr 6 [] [.busy .x 1, .land 4 (.amax id a.1 a.2)])) ∧
      exec (.scupd fr f) s = .next (s.issued fr 6 [] (.busy .x 1 :: (if s.scaleValid c id then [.scupd id] else []))) ∧
      ((Handle.of (k.rt f.th)).readable k = .ok () → s.collOk c id (Handle.of (k.rt f.th)) = true →
        (s.mangle.colls.filter fun x => x.core == c).length < 4 →
        exec (.coll fr f) s = .next (s.issued fr 6 [] [.busy .x 2, .coll id f.th]))) ∧
    (SlotReady s fr 6 [.s f.sd] [.x] [(2, .s f.sd)] → id ≤ 255 →
      (f.imm8.getLsbD 0 = false → exec (.scget fr f) s =
        .next (s.issued fr 6 [.s f.sd] [.busy .x 1, .land 2 (.regS f.sd ((s.scaleOf c id).setWidth 64))])) ∧
      (f.imm8.getLsbD 0 = true → exec (.scget fr f) s =
        .next (s.issued fr 6 [.s f.sd] [.busy .x 1,
          .land 2 (.regS f.sd ((fdiv 0x3F800000#32 (s.scaleOf c id)).setWidth 64))])) ∧
      (id ≤ 15 → s.flipActs (modelOf id) c = false → exec (.flip fr f) s =
        .next (s.issued fr 6 [.s f.sd] [.busy .x 1,
          .land 2 (.regS f.sd (BitVec.ofNat 64 (s.activeVersion (modelOf id) c % 2 ^ 32)))])) ∧
      (id ≤ 15 → s.flipActs (modelOf id) c = true → exec (.flip fr f) s =
        .next (s.issued fr 6 [.s f.sd] [.busy .x 1,
          .land 2 (.regS f.sd (BitVec.ofNat 64 (s.hg (modelOf id) HANGER_PEND_VER_VERSION % 2 ^ 32 + 2 ^ 32))),
          .flip (f.id.setWidth 4)]))) ∧
    (∀ th, let h := s.hyper id
      let t := (k.rs f.sa).toNat
      let src := s.tileBytes (.cmem c) th
      let rows := (List.range th.rows).map fun r => slice src.1 (1472 * r) 1472
      let e := optimUnits th
      let ds : List Dst := if f.imm8.getLsbD 0 then [.s f.sd] else []
      let count (n : Nat) : List Eff := if f.imm8.getLsbD 0 then [.land (16 + 2 * e) (.regS f.sd (BitVec.ofNat 64 n))] else []
      let always : List Eff := (if h.sr then [.drawOp] else []) ++ ueEffs (.cmem c) src.2
      SlotReady s fr 6 ds [.x] (ds.map fun d => (16 + 2 * e, d)) → id ≤ 63 → 1 ≤ t → t < 2 ^ 32 → h.valid = true →
      s.tile c k f.th [0] false = .ok th → th.rowLen = 1472 → (h.out = 0 ∨ s.scaleValid c h.slot = true) →
      th.readable k = .ok () →
      (∀ out sat lanes a, optimRecord h t (s.scaleOf c h.slot) k.lanes rows = .done out sat lanes a →
        exec (.optim fr f) s = .next (s.issued fr 6 ds (.busy .x (2 * e) :: ([.saturated sat, .lanes lanes] ++
          (if h.out = 0 then [] else [.land (16 + 2 * e) (.amax h.slot a.1 a.2)]) ++ th.landEffs (16 + 2 * e) out.flatten ++
          count 0 ++ always)))) ∧
      (∀ n, optimRecord h t (s.scaleOf c h.slot) k.lanes rows = .rejected n →
        exec (.optim fr f) s = .next (s.issued fr 6 ds (.busy .x (2 * e) :: ([.gradNonfinite n] ++ count n ++ always)))))

/-! ## Held bundles, core events, faults -/

/-- 03_bundles.md R83, R84, R108: WAIT and EPOCHW at the head of their bundle, with no register write pending (04_contract.md
R130): the bundle goes on when the slot is FULL or the epoch has come, faults when a status stands against the slot (06_tiers.md
R209) or a budget of 0 finds it not FULL, and is held otherwise. Where the rules leave a point open the statement holds the
model's reading, logs 19 and 102. -/
def Obligations.WaitAndEpochwIssueOrHold : Prop :=
  ∀ (fr : Frame) (f : ExtF) (budget : Word) (s : State),
    let c := fr.core
    let k := s.core c
    let pg := Page.core c.1
    let b : BitVec 8 := f.id.setWidth 8
    let e := if f.mode = 0 then s.epochNo + 1 else (k.rs f.sa).toNat
    let held (h : Held) (ds : List (Nat × Dst)) : State := (s.openBundle c).updCore c fun k =>
      { k with held := some h, st := .waiting, bundle := { k.bundle with dests := k.bundle.dests ++ ds } }
    s.canonical = true → s.mayIssue c = true → (s.bundleOf c).fault = none → k.writePending = false → frameHolds fr k = true →
    (f.id.toNat ≤ 255 →
      ((k.slot b).tag = .full → fr.eob = false → ∃ t, exec (.wait fr f budget) s = .next t ∧
        (t.core c).st = .running ∧ (t.core c).held = none ∧ (t.core c).bundle = s.bundleOf c) ∧
      ((k.slot b).tag ≠ .full → (k.slot b).err = none → budget ≠ 0 →
        exec (.wait fr f budget) s = .next (held ⟨.slot b, budget.toNat, 0, 0, none, fr.eob⟩ [])) ∧
      ((k.slot b).tag ≠ .full → (∀ x ∈ s.mangle.colls, x.core ≠ c) → ∀ st, (k.slot b).err = some st ∨
          ((k.slot b).err = none ∧ budget = 0 ∧ st = .timeout) →
        ∃ t, exec (.wait fr f budget) s = .next t ∧ (t.core c).st = .faulted ∧ t.get pg CORE_FAULT_STATUS = st.code ∧
          t.get pg CORE_FAULT_PC = k.pc.toNat ∧ t.get pg CORE_FAULT_SLOT = 6)) ∧
    (s.quiesces c = false → f.mode.toNat ≤ 1 → k.unitBusy [.x] = false →
      (∀ x ∈ (s.bundleOf c).dests, x.2 = .s f.sd → x.1 = 6) →
      (e ≤ s.epochNo → fr.eob = false → ∃ t, exec (.epochw fr f budget) s = .next t ∧
        (t.core c).st = .running ∧ (t.core c).held = none ∧
        (6, Eff.land 1 (.regS f.sd (BitVec.ofNat 64 s.epochNo))) ∈ (t.core c).bundle.effs) ∧
      (s.epochNo < e → budget ≠ 0 → exec (.epochw fr f budget) s =
        .next (held ⟨.epoch e, budget.toNat, 0, 0, some f.sd, fr.eob⟩ [(6, .s f.sd)])))

/-- 03_bundles.md R83, R84; 04_contract.md R148, R149: what ends a hold. A release counts the hold and lets the bundle go on; a
hold of more ticks than its budget is a precise fault, TIMEOUT outside collectives. Where the rules leave a point open the
statement holds the model's reading, log 102. -/
def Obligations.HoldsEnd : Prop :=
  ∀ (c : CoreId) (s : State) (h : Held), s.canonical = true → (s.core c).held = some h →
    s.clock.paused = false →
    let k := s.core c
    let pg := Page.core c.1
    (∀ b, h.what = .slot b → h.sd = none → h.eob = false →
      ((k.slot b).tag = .full → h.ticks ≤ h.budget → ∃ t, exec (.waitRelease c) s = .next t ∧ (t.core c).st = .running ∧ (t.core c).held = none ∧
        (t.core c).pc = k.pc ∧ (0 < h.ticks → h.ticks < 2 ^ 32 →
          t.get pg CORE_WAIT_HELD_COUNT = min (2 ^ 32 - 1) (s.get pg CORE_WAIT_HELD_COUNT + 1) ∧
          t.get pg CORE_WAIT_TICKS_TICKS = min (2 ^ 32 - 1) (s.get pg CORE_WAIT_TICKS_TICKS + h.ticks) ∧
          t.get pg CORE_WAIT_MAX_TICKS = max (s.get pg CORE_WAIT_MAX_TICKS) h.ticks)) ∧
      ((∀ x ∈ s.mangle.colls, x.core ≠ c) → h.budget < h.ticks → ∃ t, exec (.holdBudgetTimeout c) s = .next t ∧ (t.core c).st = .faulted ∧
        t.get pg CORE_FAULT_STATUS = Status.timeout.code ∧ t.get pg CORE_FAULT_VALID = 1 ∧
        t.get pg CORE_FAULT_PC = k.pc.toNat ∧ t.get pg CORE_FAULT_SLOT = 6)) ∧
    (∀ e i, h.what = .epoch e → h.sd = some i → h.eob = false → e ≤ s.epochNo → h.ticks ≤ h.budget → k.unitBusy [.x] = false →
      ∃ t, exec (.epochRelease c) s = .next t ∧ (t.core c).st = .running ∧ (t.core c).held = none ∧
        (t.core c).bundle.effs = k.bundle.effs ++
          [(6, .land 1 (.regS i (BitVec.ofNat 64 s.epochNo))), (6, .busy .x 1)])

/-- 03_bundles.md R96; 04_contract.md R142, R147: what is in flight in a held core arrives when its CCLK has come: an
instruction block is written and valid, a slot that fills is FULL with its declared reads, one that drains is EMPTY at the end
of its last read. Weave time passes by the ticks that this takes (log 98). -/
def Obligations.SlotAndBlockEventsLand : Prop :=
  ∀ (c : CoreId) (s : State) (x : Flight),
    let k := s.core c
    k.flights = [x] → k.access = [] → k.beats = [] → k.staging = [] → k.held.isSome = true → s.clock.paused = false →
    k.cyc < x.due →
    let n := (x.due - k.cyc + s.cclkPerTick - 1) / s.cclkPerTick
    let ran (t : State) : Prop := t.weave.wt = s.weave.wt + BitVec.ofNat 64 n ∧ (t.core c).cyc = k.cyc + n * s.cclkPerTick ∧
      (t.core c).flights = [] ∧ (t.core c).pc = k.pc ∧ (t.core c).s = k.s ∧ (t.core c).v = k.v
    (∀ b data, x.what = .block b data → ∃ t, exec (.iloadBlockValid c b) s = .next t ∧ ran t ∧
      (t.core c).imemOk = k.imemOk ||| (1#32 <<< b.toNat) ∧ t.mem (.imem c) = (s.mem (.imem c)).write (b.toNat * 8192) data ramFill) ∧
    (∀ b, x.what = .full b → (k.slot b).tag = .filling → ∃ t, exec (.tagWriteComplete c b) s = .next t ∧ ran t ∧
      ((t.core c).slot b).tag = .full ∧ ((t.core c).slot b).rc = (k.slot b).reads) ∧
    (∀ b, x.what = .empty b → (k.slot b).tag = .draining → (k.slot b).out = 1 → ∃ t, exec (.tagReadDrain c b) s = .next t ∧ ran t ∧
      ((t.core c).slot b).tag = .empty)

/-- 03_bundles.md R85, R117, R118; 04_contract.md R153: BRK, the halt and step requests of an open owner debug, COUNT_CLR. -/
def Obligations.DebugStopsAndSteps : Prop :=
  ∀ (c : CoreId) (path : Path) (s : State),
    let k := s.core c
    let pg := Page.core c.1
    s.canonical = true →
    (s.mayIssue c = true → k.bundle.opened = false → s.flag pg CORE_CTRL_BRK_EN = true → k.stepping = false →
      ∃ t, exec (.breakpointHalt c) s = .next t ∧ (t.core c).st = .debugHalt ∧ (t.core c).pc = k.pc ∧
        (t.core c).flights = []) ∧
    (s.takesWrite path pg CORE_CTRL_HALT_REQ.off → s.ownerOpen = true →
      (k.st = .running → k.bundle.opened = false → ∃ t, exec (.haltReq path c) s = .next t ∧ (t.core c).st = .debugHalt ∧
        (t.core c).pc = k.pc ∧ t.get pg CORE_CTRL_HALT_REQ = 0) ∧
      (k.st ≠ .running → ∃ t, exec (.haltReq path c) s = .next t ∧ t.core c = k ∧ t.get pg CORE_CTRL_HALT_REQ = 1) ∧
      (k.st = .debugHalt → ∃ t, exec (.coreStep path c) s = .next t ∧
        t.core c = { k with st := .running, stepping := true, start := max k.start (s.clock.cclk - k.cyc) } ∧
        t.get pg CORE_CTRL_HALT_REQ = s.get pg CORE_CTRL_HALT_REQ)) ∧
    (s.takesWrite path pg CORE_CTRL_HALT_REQ.off → s.ownerOpen = false →
      ∃ t, exec (.haltReq path c) s = .next t ∧ t.core c = { k with denied := some path } ∧
        (∀ d, d ≠ c → t.core d = s.core d) ∧ t.get pg CORE_CTRL_HALT_REQ = s.get pg CORE_CTRL_HALT_REQ) ∧
    (s.takesWrite path pg CORE_CONTRACT_CTRL_COUNT_CLR.off → ∃ t, exec (.countClr path c) s = .next t ∧ t.cores = s.cores ∧
      ∀ f ∈ [CORE_WAIT_HELD_COUNT, CORE_WAIT_TICKS_TICKS, CORE_WAIT_MAX_TICKS, CORE_WAIT_MAX_PC_PC, CORE_WAIT_MAX_PC_BSLOT,
        CORE_EPOCH_TICKS_TICKS, CORE_STRETCH_CNT_COUNT, CORE_STRETCH_TIME_TIME, CORE_DEFER_CMEM, CORE_DEFER_XMEM,
        CORE_HOLD_CCLK_CCLK], t.get pg f = 0)

/-- 03_bundles.md R88, R89, R117: a bundle whose encoding has a fault stops the core in FAULTED with the first fault in the
order of R89 recorded, at the bundle's PC; no register changes. -/
def Obligations.IllegalBundleFaults : Prop :=
  ∀ (c : CoreId) (bundle : BitVec 1024) (s : State),
    let k := s.core c
    let pg := Page.core c.1
    s.canonical = true → s.mayIssue c = true → k.bundle.opened = false → (s.bundleOf c).fault = none → bundleFaults k bundle ≠ [] →
    k.clash = none → bundle.getLsbD 48 = false → s.pins.quiesceLow = false → k.flights = [] → k.staging = [] →
    (∀ x ∈ s.mangle.colls, x.core ≠ c) →
    ∃ t, exec (.illegalOpcode c bundle) s = .next t ∧ (t.core c).st = .faulted ∧ (t.core c).pc = k.pc ∧
      (t.core c).s = k.s ∧ (t.core c).a = k.a ∧ (t.core c).v = k.v ∧ (t.core c).p = k.p ∧ (t.core c).t = k.t ∧
      t.get pg CORE_FAULT_STATUS = Status.contractFault.code ∧ t.get pg CORE_FAULT_VALID = 1 ∧
      t.get pg CORE_FAULT_PC = k.pc.toNat ∧
      ∃ x ∈ bundleFaults k bundle, (∀ y ∈ bundleFaults k bundle, x.1 ≤ y.1) ∧
        t.get pg CORE_FAULT_REASON = x.2.1 ∧ t.get pg CORE_FAULT_SLOT = x.2.2

/-! ## Bundles: landing and frames -/

/-- 03_bundles.md R83; 04_contract.md R121, R124, R125: a bundle of one operation with one effect of latency `l`, on a core with
nothing in flight: the next bundle is the next PC in the next CCLK, the operation holds its unit for `n` CCLK, its effect has
landed when `l` is 1 and is in flight otherwise, and nothing else of the block changes. -/
def Obligations.BundleOfOneOperation : Prop :=
  ∀ (fr : Frame) (slot n l : Nat) (u : Unit') (w : Land) (s : State) (dests : List Dst),
    let c := fr.core
    s.canonical = true → s.calm c → fr.eob = true → slot ≤ 6 → 1 ≤ l → (∀ i x, w = .scale i x → i < 256) →
    let t := s.updCore c fun k => { k with
      pc := k.pc + 1, cyc := k.cyc + 1, guard := Vector.replicate 16 0, busy := [(u, k.cyc * 8 + slot, k.cyc + n)]
      flights := if l = 1 then [] else [⟨k.cyc + l, k.cyc * 8 + slot, k.pc, w⟩] }
    s.issued fr slot dests [.busy u n, .land l w] = if l = 1 then t.land c w else t

/-- 04_contract.md R121, R124: a bundle of one no-op lets one CCLK pass: of what is in flight, exactly what is due lands, when
no two writes of one register meet (R129). -/
def Obligations.NopBundlePassesOneCclk : Prop :=
  ∀ (fr : Frame) (slot : SlotId) (s : State) (l : List Flight),
    let c := fr.core
    let k := s.core c
    let s0 := s.updCore c fun k => { k with flights := [] }
    s.canonical = true → k.flights = l → s0.calm c → fr.eob = true →
    (∀ x ∈ l, ∀ i y, x.what = .scale i y → i < 256) →
    (∀ x ∈ l, lateClash (l.filter fun x => decide (x.due ≤ k.cyc + 1)) x = false) →
    let t := s0.updCore c fun k => { k with
      pc := k.pc + 1, cyc := k.cyc + 1, guard := Vector.replicate 16 0
      flights := l.filter fun x => !decide (x.due ≤ k.cyc + 1) }
    exec (.nop fr slot) s =
      .next (eachOf (l.filter fun x => decide (x.due ≤ k.cyc + 1)) (fun x t => t.land c x.what) t)

/-- 03_bundles.md R99, R101: a store's bytes land at the address that the operation computed, and every other byte of every
memory of the block reads as before. -/
def Obligations.StoresLandAtTheirAddressOnly : Prop :=
  ∀ (c : CoreId) (sp : BitVec 4) (o : Nat) (data : List Byte) (s : State), s.canonical = true →
    let m := memOfSpace c sp.toNat
    let t := s.land c (.mem sp o data)
    (∀ a, ((t.mem m).byte a) = if o ≤ a ∧ a < o + data.length then data.getD (a - o) 0 else (s.mem m).byte a) ∧
    (∀ m', m' ≠ m → t.mem m' = s.mem m') ∧ t.dram = s.dram ∧ t.nor = s.nor ∧ t.host = s.host ∧ t.regs = s.regs ∧
    ∀ d, (t.core d).s = (s.core d).s ∧ (t.core d).a = (s.core d).a ∧ (t.core d).v = (s.core d).v ∧
      (t.core d).p = (s.core d).p ∧ (t.core d).t = (s.core d).t ∧ (t.core d).pc = (s.core d).pc ∧ (t.core d).st = (s.core d).st

/-- 03_bundles.md R88, R117: when the last operation of a bundle comes and a slot has faulted, the core stops in FAULTED with
the fault in CORE_FAULT; the bundle has no effect on registers, memories and buffer slots. When a write of an earlier bundle has
met another in its register, that bundle's WRITE_COLLISION is what is recorded (04_contract.md R129; the model's reading, log
90). -/
def Obligations.FaultingBundleHasNoEffect : Prop :=
  ∀ (fr : Frame) (slot : SlotId) (s : State) (r : Nat) (x : FaultRec),
    let c := fr.core
    let k := s.core c
    let pg := Page.core c.1
    s.canonical = true → s.mayIssue c = true → k.bundle.opened = true → fr.eob = true → k.flights = [] →
    k.staging = [] → (∀ y ∈ s.mangle.colls, y.core ≠ c) → k.overrun = false →
    let faulted (f : FaultRec) (pc : Nat) : Prop := ∃ t, exec (.nop fr slot) s = .next t ∧
      t.core c = { k with
        st := .faulted, bundle := Bundle.none, held := none, br := none, yld := none, access := [], beats := [], busy := []
        clash := none } ∧
      (∀ d, d ≠ c → t.core d = s.core d) ∧ t.xmem = s.xmem ∧ t.dram = s.dram ∧
      t.get pg CORE_FAULT_STATUS = f.status.code ∧ t.get pg CORE_FAULT_REASON = f.reason.toNat ∧
      t.get pg CORE_FAULT_PC = pc ∧ t.get pg CORE_FAULT_SLOT = f.slot.toNat ∧ t.get pg CORE_FAULT_VALID = 1
    (k.clash = none → k.bundle.fault = some (r, x) → faulted x k.pc.toNat) ∧
    (∀ pc i, k.clash = some (pc, i) → faulted ⟨.contractFault, 0x04, BitVec.ofNat 3 i⟩ pc.toNat)

/-! ## Register pages -/

/-- 14_pages.md R503, R506, R518; 00_scope.md R6: a whole-word write that reaches a register without an action of its own stores
its RW fields; a write of a selector discards what is staged for its group; every other register beyond the headers and every
memory is unchanged. -/
def Obligations.RegisterWriteStoresFields : Prop :=
  ∀ (path : Path) (page off : BitVec 12) (val : Word) (s : State) (k : Kind),
    let pg := page.toNat
    let o := off.toNat
    s.canonical = true → s.takesWrite path pg o → 0x040 ≤ o → kindOf pg = some k →
    k ∈ [Kind.chip, .lamp, .repair, .xcache, .dram, .shelf, .tier, .scale, .optim, .spin, .mangle, .press, .hanger, .xring,
      .patch, .part, .lintsnap] →
    (∀ f ∈ fieldsAt k o, f.acc = .rw ∨ f.acc = .ro) →
    let m := coverMask k o fun f => f.acc == .rw
    let i := s.entryIdx path pg o
    ∀ c ∈ [Instr.registerWrite path page off 15 val, .selWrite path page off val], ∃ t, exec c s = .next t ∧
      t.word pg i o = (s.word pg i o &&& ~~~m) ||| (val &&& m) ∧ (∀ g ∈ k.selects o, t.isTouched pg g = false) ∧
      (∀ p j x, 0x040 ≤ x → x < 0x1000 → regKey p j x ≠ regKey pg i o → t.word p j x = s.word p j x) ∧
      t.cores = s.cores ∧ t.xmem = s.xmem ∧ t.dram = s.dram ∧ t.nor = s.nor ∧ t.host = s.host

/-- 14_pages.md R518: a write of RWS fields touches their group and stages the fields; no live register changes. -/
def Obligations.RegisterWriteStagesGroup : Prop :=
  ∀ (path : Path) (page off : BitVec 12) (val : Word) (s : State) (k : Kind) (g : Nat),
    let pg := page.toNat
    let o := off.toNat
    s.canonical = true → s.takesWrite path pg o → 0x040 ≤ o → kindOf pg = some k → k ≠ .link → k ≠ .clk → k ≠ .ctx → k ≠ .weave →
    k ≠ .cal → k ≠ .pwr → k.groupAt o = some g → (∀ f ∈ fieldsAt k o, f.acc = .rws ∨ f.acc = .ro) →
    let m := rwsMask k o
    m ≠ 0 → ∃ t, exec (.registerWrite path page off 15 val) s = .next t ∧ t.isTouched pg g = true ∧
      t.stagedWord pg o &&& m = val &&& m ∧ sameRegisters s t ∧ t.cores = s.cores

/-- 14_pages.md R503, R505, R508, R517, R523, R525: writes that do not reach their register are counted or recorded, and change
no register of the page; PAGE_LOCK is set by a one. -/
def Obligations.WritesThatAreStopped : Prop :=
  ∀ (path : Path) (page off : BitVec 12) (be : BitVec 4) (val : Word) (s : State),
    let pg := page.toNat
    let o := off.toNat
    s.canonical = true → reaches path pg = true →
    (kindOf pg = none → ∃ t, exec (.registerWrite path page off be val) s = .next t ∧
      t.get Page.chip CHIP_UNMAPPED_COUNT =
        min (s.get Page.chip CHIP_UNMAPPED_COUNT + 1) (2 ^ CHIP_UNMAPPED_COUNT.width - 1) ∧ t.cores = s.cores) ∧
    (∀ k, kindOf pg = some k → s.inReset pg = true → s.resets.cold = false →
      ∃ t, exec (.registerWrite path page off be val) s = .next t ∧ t.get Page.chip CHIP_RESET_LAST_PAGE = pg ∧
        t.get Page.chip CHIP_RESET_LAST_WRITE = 1 ∧ t.get Page.chip CHIP_RESET_DROP_COUNT =
          min (s.get Page.chip CHIP_RESET_DROP_COUNT + 1) (2 ^ CHIP_RESET_DROP_COUNT.width - 1)) ∧
    (∀ k, kindOf pg = some k → s.inReset pg = false → pg ≠ Page.chip → pg ≠ Page.lint →
      (be ≠ 15 → ∃ t, exec (.registerWrite path page off be val) s = .next t ∧ t.get pg VIOLATION_PARTIAL = 1 ∧
        samePage s t pg) ∧
      (∀ n, path = .vf n → vfMay o = false → fieldsAt k o ≠ [] → ∃ t, exec (.registerWrite path page off 15 val) s = .next t ∧
        t.get pg VIOLATION_VF_DENIED = 1 ∧ samePage s t pg)) ∧
    (s.takesWrite path pg PAGE_LOCK_LOCK.off → ∃ t, exec (.pageLockSet path page) s = .next t ∧ t.get pg PAGE_LOCK_LOCK = 1 ∧
      sameRegisters s t)

/-- 14_pages.md R519-R522: what APPLY, DISCARD and both together do, and what COMMIT_STATUS reports. -/
def Obligations.CommitReportsAndApplies : Prop :=
  ∀ (path : Path) (page : BitVec 12) (s : State) (k : Kind),
    let pg := page.toNat
    let gs := (pathGroups k path).filter fun g => s.isTouched pg g
    s.canonical = true → s.takesWrite path pg COMMIT_APPLY.off → kindOf pg = some k →
    (s.flag pg PAGE_STATUS_READY = false → ∃ t, exec (.commitApply path page) s = .next t ∧
      t.get pg COMMIT_STATUS_STATUS = Status.busy.code ∧ t.touched = s.touched ∧ t.staged = s.staged ∧ sameRegisters s t) ∧
    (s.flag pg PAGE_STATUS_READY = true →
      (∀ g, gs.find? (fun g => (s.atCommit path pg).checkGroup path pg k g != .ok) = some g →
        ∃ t, exec (.commitApply path page) s = .next t ∧
          t.get pg COMMIT_STATUS_STATUS = ((s.atCommit path pg).checkGroup path pg k g).code ∧
          t.touched = s.touched ∧ t.staged = s.staged ∧ sameRegisters s t) ∧
      (∀ g, gs = [g] → (s.atCommit path pg).checkGroup path pg k g = .ok →
        ∃ t, exec (.commitApply path page) s = .next t ∧ t.committedOne pg g) ∧
      ∃ t, exec (.commitDiscard path page) s = .next t ∧ t.get pg COMMIT_STATUS_STATUS = Status.ok.code ∧
        (∀ g ∈ gs, t.isTouched pg g = false) ∧ sameRegisters s t ∧ t.cores = s.cores) ∧
    ∃ t, exec (.commitBad path page) s = .next t ∧ t.get pg COMMIT_STATUS_STATUS = Status.param.code ∧
      t.get pg VIOLATION_COMMIT_BAD = 1 ∧ t.touched = s.touched ∧ t.staged = s.staged ∧ t.cores = s.cores

/-- 14_pages.md R535, R536; 18_access.md R633, R636: a POST of the mailbox executes its request, here IMG_READ, and leaves the
reply; without a dead SMBus it is answered NOT_READY, and a request of no known operation PARAM. The FLR of a VF disables its
queue group, ends its commands and drops its held completions; a PF FLR does so for every VF. Where the rules leave a point open
the statement holds the model's reading, log 29. -/
def Obligations.MailboxAndFunctionResets : Prop :=
  ∀ (path : Path) (s : State), s.canonical = true → s.resets.cold = false →
    let h := Page.hostif
    let w (i : Nat) : Nat := s.get h (HOSTIF_MBOX_DATA_DATA.nth i)
    let tag : Byte := BitVec.ofNat 8 (w 0 / 256)
    (s.takesWrite path h HOSTIF_MBOX_CTRL_POST.off →
      (s.flag h HOSTIF_MGMT_SMBUS_DEAD = true → s.mgmt.mboxBusy = false → s.resets.warm = false → s.resets.mgmt = false →
        s.flag Page.chip CHIP_STATUS_MGMT_UP = true →
        (let image := w 1 % 256
         let count := w 3 % 256
         let reply : List Byte := [0x86, tag, 0, 0] ++ s.nor.read (norBase image + w 2) (4 * count) norFill
         w 0 % 256 = 6 → 9 ≤ w 0 / 65536 → w 0 / 65536 ≤ 252 → image ≤ 3 → 1 ≤ count → count ≤ 60 →
         w 2 + 4 * count ≤ norSize image → s.mgmt.erasing = none →
         ∃ t, exec (.mboxPost path) s = .next t ∧ t.get h HOSTIF_MBOX_STATUS_STATUS = Status.ok.code ∧
           t.get h HOSTIF_MBOX_STATUS_REPLY = 1 ∧ t.get h HOSTIF_MBOX_STATUS_LEN = 4 + 4 * count ∧
           t.mgmt = { s.mgmt with reply := reply } ∧
           (∀ i, i ≤ count → t.get h (HOSTIF_MBOX_DATA_DATA.nth i) = field reply (4 * i) 4) ∧
           t.nor = s.nor ∧ t.cores = s.cores ∧ t.dram = s.dram ∧ t.xmem = s.xmem) ∧
        (7 < w 0 % 256 → ∃ t, exec (.mboxPost path) s = .next t ∧ t.get h HOSTIF_MBOX_STATUS_STATUS = Status.ok.code ∧
          t.get h HOSTIF_MBOX_STATUS_REPLY = 1 ∧ t.get h HOSTIF_MBOX_STATUS_LEN = 4 ∧
          t.mgmt.reply = [BitVec.ofNat 8 (w 0 % 256 + 0x80), tag, 0x0D, 0])) ∧
      (s.flag h HOSTIF_MGMT_SMBUS_DEAD = false → ∃ t, exec (.mboxPost path) s = .next t ∧
        t.get h HOSTIF_MBOX_STATUS_STATUS = Status.notReady.code ∧ t.get h HOSTIF_MBOX_STATUS_REPLY = 1 ∧
        t.mgmt = s.mgmt) ∧
      (s.flag h HOSTIF_MGMT_SMBUS_DEAD = true → s.mgmt.mboxBusy = true → ∃ t, exec (.mboxPost path) s = .next t ∧
        t.get h HOSTIF_MBOX_STATUS_STATUS = Status.busy.code ∧ t.mgmt = s.mgmt)) ∧
    (∀ n : CtxId, (s.ctx n).kept = [] →
      ∃ t, exec (.vfFlr n) s = .next t ∧ t.get (Page.ctx n.1) CTX_QCTRL_ENABLE = 0 ∧
        t.ctx n = { s.ctx n with cmds := [], held := [], kept := [], flr := true } ∧
        t.get h HOSTIF_FLR_COUNT = min (2 ^ HOSTIF_FLR_COUNT.width - 1) (s.get h HOSTIF_FLR_COUNT + (s.ctx n).cmds.length) ∧
        (∀ m, m ≠ n → t.ctx m = s.ctx m) ∧ t.cores = s.cores ∧ t.dram = s.dram ∧ t.xmem = s.xmem) ∧
    ∃ t, exec .pfFlr s = .next t ∧ t.get h HOSTIF_SRIOV_VF_EN = 0 ∧ t.dram = s.dram ∧ t.xmem = s.xmem ∧ ∀ n : CtxId,
      t.ctx n = { s.ctx n with cmds := [], held := [], kept := [], flr := true } ∧ t.get (Page.ctx n.1) CTX_QCTRL_ENABLE = 0

/-- 14_pages.md R509; 13_partitions.md R476; 06_tiers.md R195: BAR accesses read and write exactly their bytes, the cache being
OFF; offsets above DRAM read as zero, a read whose link fails twice is counted and returns no data (log 108), and before DRAM is
trained reads return ones and writes are dropped. -/
def Obligations.BarAccessesReachMemory : Prop :=
  ∀ (addr n : Nat) (link : LinkRead) (bs : List Byte) (vf : CtxId) (s : State), s.canonical = true → s.resets.cold = false →
    s.cacheState = 0 → s.tier.poison = [] → s.ecc.upset = [] →
    let dropped (t : State) : Prop := t.dram = s.dram ∧ t.xmem = s.xmem ∧ t.get Page.hostif HOSTIF_BAR_DROP_COUNT =
      min (s.get Page.hostif HOSTIF_BAR_DROP_COUNT + 1) (2 ^ HOSTIF_BAR_DROP_COUNT.width - 1)
    let at' (a i : Nat) (old : Byte) : Byte := if a ≤ i ∧ i < a + bs.length then bs.getD (i - a) 0 else old
    (s.dramTrained = true →
      (link ≠ .failed → addr + n ≤ dramBytes → ∃ t, exec (.pfBar2Access addr (.read n link)) s = .next t ∧
        t.barOut = s.dram.read addr n ∧ t.dram = s.dram ∧ t.cores = s.cores) ∧
      (link ≠ .failed → dramBytes ≤ addr → ∃ t, exec (.pfBar2Access addr (.read n link)) s = .next t ∧
        t.barOut = List.replicate n 0 ∧ t.dram = s.dram ∧ t.cores = s.cores) ∧
      (∃ t, exec (.pfBar2Access addr (.read n .failed)) s = .next t ∧ t.barOut = [] ∧ t.dram = s.dram ∧
        t.get Page.dram DRAM_LINK_UE_COUNT = min (s.get Page.dram DRAM_LINK_UE_COUNT + 1) (2 ^ DRAM_LINK_UE_COUNT.width - 1)) ∧
      (addr + bs.length ≤ dramGeneral → ∃ t, exec (.pfBar2Access addr (.write bs)) s = .next t ∧ t.xmem = s.xmem ∧
        ∀ i, t.dram.byte i = at' addr i (s.dram.byte i)) ∧
      (dramGeneral < addr + bs.length → ∃ t, exec (.pfBar2Access addr (.write bs)) s = .next t ∧ dropped t) ∧
      (∀ base len, (s.binding vf).valid = true → (s.binding vf).wins = [(base, len)] →
        (link ≠ .failed → addr + n ≤ len → ∃ t, exec (.vfBar2Access vf addr (.read n link)) s = .next t ∧ t.barOut = s.dram.read (base + addr) n) ∧
        (addr + bs.length ≤ len → ∃ t, exec (.vfBar2Access vf addr (.write bs)) s = .next t ∧
          ∀ i, t.dram.byte i = at' (base + addr) i (s.dram.byte i)) ∧
        (len < addr + bs.length → ∃ t, exec (.vfBar2Access vf addr (.write bs)) s = .next t ∧ dropped t))) ∧
    (s.dramTrained = false → exec (.pfBar2Access addr (.read n link)) s = .next { s with barOut := List.replicate n 0xFF } ∧
      ∃ t, exec (.pfBar2Access addr (.write bs)) s = .next t ∧ dropped t) ∧
    (addr + n ≤ 2 ^ 31 → exec (.pfBar4Access addr (.read n link)) s = .next { s with barOut := s.xmem.read addr n }) ∧
    (s.ownerOpen = true → addr + bs.length ≤ 2 ^ 31 → ∃ t, exec (.pfBar4Access addr (.write bs)) s = .next t ∧
      t.dram = s.dram ∧ ∀ i, t.xmem.byte i = at' addr i (s.xmem.byte i)) ∧
    (s.ownerOpen = false → ∃ t, exec (.pfBar4Access addr (.write bs)) s = .next t ∧ dropped t)

/-! ## On-chip memory -/

/-- 05_buffers.md R168, R169: an accepted XCACHE COMMIT takes the new region and starts the drain or the initialisation; the end
of a drain frees and zero-fills the segments that leave; the end of an initialisation has every tag entry invalid. Where the
rules leave a point open the statement holds the model's reading, log 66. -/
def Obligations.CacheSwitches : Prop :=
  ∀ (path : Path) (s : State),
    let pg := Page.xcache
    let steps := XCACHE_CFG_STEPS.of (s.stagedWord pg 0x040)
    let base := XCACHE_CFG_BASE.of (s.stagedWord pg 0x040)
    let new := regionSegs (s.get pg XCACHE_CFG_STEPS) (s.get pg XCACHE_CFG_BASE)
    (s.commitsOne path pg 0 → ∃ t, exec (.xcacheCommit path) s = .next t ∧ t.committedOne pg 0 ∧
      t.get pg XCACHE_CFG_STEPS = steps ∧ t.get pg XCACHE_CFG_BASE = base ∧
      t.cacheState = (if s.cacheState = 2 then 3 else if steps = 0 then 0 else 1) ∧
      (s.cacheState = 2 → t.xcache = ⟨s.get pg XCACHE_CFG_STEPS, s.get pg XCACHE_CFG_BASE⟩) ∧
      ∀ g ∈ regionSegs steps base, t.segState g = 2) ∧
    (s.canonical = true → s.cacheState = 3 → s.xcache.oldBase + 16 * s.xcache.oldSteps ≤ 128 →
      ∃ t, exec .xcacheDrainDone s = .next t ∧
      t.cacheState = (if s.get pg XCACHE_CFG_STEPS = 0 then 0 else 1) ∧
      ∀ g ∈ regionSegs s.xcache.oldSteps s.xcache.oldBase, g ∉ new → g < 128 →
        t.segState g = 0 ∧ ∀ i, i < segBytes → t.xmem.byte (g * segBytes + i) = 0) ∧
    (s.canonical = true → s.cacheState = 1 → ∃ t, exec .xcacheInitDone s = .next t ∧ t.cacheState = 2 ∧
      ∀ a, t.xmem.byte a =
        if a / segBytes ∈ new ∧ 0xFC0000 ≤ a % segBytes then 0 else s.xmem.byte a)

/-- 05_buffers.md R177, R182, R184, R185: a scrub pass moves its level by what it found; a darn redirects a row to a zeroed
spare; failing banks and cores without spares are mapped out. Where the rules leave a point open the statement holds the model's
reading, log 65. -/
def Obligations.ScrubDarnAndMapOut : Prop :=
  ∀ (d : Option CoreId) (found : List Finding) (row : RowId) (bank : Fin 512) (c : CoreId) (cb : Fin 16) (ok : Bool) (s : State),
    s.canonical = true →
    (let f := domainPage d
     let old := s.get f.1 f.2.1
     let n := ((s.scrubFinds d found).filter fun x => !x.ue).length
     let run := (assocGet s.ecc.cleanRun d).getD 0
     s.inReset f.1 = false → ∃ t, exec (.scrubPass d found) s = .next t ∧
       t.get f.1 f.2.1 = (if 4 ≤ n then min 3 (old + 1) else if n = 0 ∧ 2 ≤ run ∧ s.get f.1 f.2.2 < old then old - 1 else old)) ∧
    (s.mgmtUp = true →
      (s.ecc.cands.contains row = true → s.darnWindow row = true → s.sparesUsed row.core row.bank < spareRows row.core →
        ∃ t, exec (.darn row ok) s = .next t ∧ t.ecc.cands = (s.ecc.cands.filter fun r => r != row) ∧
          t.sparesUsed row.core row.bank = s.sparesUsed row.core row.bank + 1 ∧
          t.readMem (rowBytes row).1 (rowBytes row).2.1 (rowBytes row).2.2 = List.replicate (rowBytes row).2.2 0) ∧
      (s.ecc.failing.contains bank.1 = true → s.darnWindow ⟨none, bank.1, 0⟩ = true →
        ∃ t, exec (.bankMappedOut bank ok) s = .next t ∧ t.segState (bank.1 / 4) = 3 ∧ bank.1 ∈ t.ecc.banksOut ∧
          bank.1 ∉ t.ecc.failing) ∧
      ((s.ecc.cands.any fun r => r.core == some c && r.bank == cb.1) = true → 4 ≤ s.sparesUsed (some c) cb.1 →
        s.darnWindow ⟨some c, cb.1, 0⟩ = true → ∃ t, exec (.coreMappedOut c cb ok) s = .next t ∧
          (t.get Page.chip CHIP_STATUS_CORES_USABLE).testBit c.1 = false ∧
          t.get (Page.cmem c.1) CMEM_DARN_PEND_MAPPED_OUT = 1))

/-- 05_buffers.md R187; 13_partitions.md R495: a self-test starts on a resource that nothing holds, and reports BUSY on another;
its end reports whether a row failed. -/
def Obligations.SelfTestsRun : Prop :=
  ∀ (path : Path) (c : CoreId) (seg : BitVec 7) (failed : List RowId) (buf : Bool) (s : State), s.canonical = true →
    let pg := Page.cmem c.1
    let px := Page.xmem
    (s.takesWrite path pg CMEM_BIST_START.off → s.ecc.cmemTest.getLsbD c.1 = false → ∃ t, exec (.cmemBistStart path c) s = .next t ∧
      (s.partOf c = none → t.ecc.cmemTest.getLsbD c.1 = true ∧ t.get pg CMEM_BIST_DONE = 0) ∧
      (s.partOf c ≠ none → t.ecc = s.ecc ∧ t.get pg CMEM_BIST_DONE = 1 ∧ t.get pg CMEM_BIST_STATUS = Status.busy.code)) ∧
    (s.ecc.cmemTest.getLsbD c.1 = true → ∃ t, exec (.cmemBistDone c failed buf) s = .next t ∧
      t.ecc.cmemTest.getLsbD c.1 = false ∧ t.get pg CMEM_BIST_DONE = 1 ∧ t.get pg CMEM_BIST_STATUS =
        (if (failed.any fun r => r.core == some c) || buf then Status.eccFatal.code else Status.ok.code)) ∧
    (s.takesWrite path px XMEM_BIST_START.off → s.ecc.xmemTest = none → ∃ t, exec (.xmemBistStart path seg) s = .next t ∧
      (s.segState seg.toNat = 0 → t.ecc.xmemTest = some seg.toFin ∧ t.get px XMEM_BIST_DONE = 0) ∧
      (s.segState seg.toNat ≠ 0 → t.ecc = s.ecc ∧ t.get px XMEM_BIST_DONE = 1 ∧ t.get px XMEM_BIST_STATUS = Status.busy.code)) ∧
    (∀ g, s.ecc.xmemTest = some g → ∃ t, exec (.xmemBistDone failed) s = .next t ∧ t.ecc.xmemTest = none ∧
      t.get px XMEM_BIST_DONE = 1 ∧ t.get px XMEM_BIST_STATUS =
        (if failed.any fun r => r.core == none && r.bank / 4 == g.1 then Status.eccFatal.code else Status.ok.code))

/-! ## The tier controller and the Shelf -/

/-- 06_tiers.md R200, R203, R204, R218, R222, R229; 17_lint.md R619: what MOVE, PREFETCH, CLEAN, FLUSH and DISCARD do with a
descriptor that passes its checks, the XMEM cache being OFF; one that does not ends with the check's status. NSID 0 is refused
to a partition with AUTH_FAIL; the physical function's write to the mirror area is READ_ONLY (log 106). Where the rules leave a
point open the statement holds the model's reading, log 57. -/
def Obligations.TierDescriptorsRun : Prop :=
  ∀ (q : Fin 5) (i : Nat) (d : Desc) (s : State), s.plainDram →
    let env : MediaEnv := ⟨[], [], []⟩
    let data := s.dram.read d.src 4096
    let side := s.dram.read (sideStore + 32 * (d.src / 4096)) 32
    let ended (t : State) (st : Status) : Prop := t.tier.queues[q][i]? = some (d.finish st 0)
    (∀ env' x y u ns, s.tierRuns q 1 i d → d.ntiles = 1 → s.readTile d d.srct d.src 0 env' = (.ok (x, y), u) →
      d.newSide 0 x y = some ns →
      exec (.move q env' none) s = .next ((u.writeTile d d.dstt d.dst 0 x ns).setTierDesc q i (d.finish .ok 0))) ∧
    (s.tierRuns q 1 i d → d.ntiles = 1 → d.srct = tDram → d.dstt = tXmem → d.noSide = true →
      ((d.newSide 0 data side).isSome = true → ∃ t, exec (.move q env none) s = .next t ∧ ended t .ok ∧
        t.readScratch d.part.toNat d.dst 4096 = some data ∧ t.dram = s.dram) ∧
      (d.newSide 0 data side = none → ∃ t, exec (.move q env none) s = .next t ∧ ended t .eccFatal ∧ t.xmem = s.xmem ∧
        t.get Page.tier TIER_CRC_ERR_COUNT =
          min (s.get Page.tier TIER_CRC_ERR_COUNT + 1) (2 ^ TIER_CRC_ERR_COUNT.width - 1))) ∧
    (s.tierRuns q 2 i d →
      (d.dstt = tXmem → exec (.prefetch q env) s = .next (s.setTierDesc q i (d.finish .ok 0))) ∧
      (∀ p e u, d.dstt = tDram → pagesOf d.src (d.ntiles * 4096) = [p] → s.shadowOf p = some e →
        s.fillPage e p env (d.src / 4096) = (none, u) →
        exec (.prefetch q env) s = .next (u.setTierDesc q i (d.finish .ok 0)))) ∧
    (∀ c op p e, (c, op) ∈ [(Instr.clean q env, 3), (Instr.flush q env, 4)] → s.tierRuns q op i d →
      pagesOf d.src (d.ntiles * 4096) = [p] → s.shadowsOf p = [e] → s.tier.dirty.contains p = true → s.shelfRo = false →
      mirrorBlks ≤ s.shadowLba e p →
      (∀ j, j < 16 → sideOk (s.dram.read (p * 65536 + 4096 * j) 4096) (s.dram.read (sideStore + 32 * (p * 16 + j)) 32) = true) →
      ∃ t, exec c s = .next t ∧ ended t .ok ∧ t.tier.dirty = s.tier.dirty.filter (· != p) ∧ t.dram = s.dram ∧
        ∀ j, j < 16 → (assocGet t.tier.shelf (s.shadowLba e p + j)).map (fun b => b.data) =
          some (s.dram.read (p * 65536 + 4096 * j) 4096)) ∧
    (s.tierRuns q 5 i d → ∃ t, exec (.discard q) s = .next t ∧ ended t .ok ∧
      ∀ lba, assocGet t.tier.shelf lba =
        let first := (s.nsInfo d.nsid).base + d.src / 4096
        if first ≤ lba ∧ lba < first + d.ntiles then none else assocGet s.tier.shelf lba) ∧
    (∀ c op st, (c, op) ∈ [(Instr.move q env none, 1), (.prefetch q env, 2), (.clean q env, 3), (.flush q env, 4), (.discard q, 5)] →
      s.tierPicks q op i d → s.tierCheck d = st → st ≠ .ok → exec c s = .next (s.setTierDesc q i (d.finish st 0))) ∧
    (d.op = 1 → d.srct = tDram → d.dstt = tShelf → d.nsid = 0 → 1 ≤ d.ntiles → d.ntiles ≤ 1024 → d.src % 4096 = 0 → d.dst % 4096 = 0 →
      d.noSide = true → field d.raw 60 2 = 0 → s.descEndOk d tDram d.src (d.ntiles * 4096) = true →
      (d.ofPf = false → s.tierCheck d = .authFail) ∧
      (d.ofPf = true → d.part = 0 → s.nsClearing 0 = false → d.dst / 4096 < mirrorBlks → s.tierCheck d = .readOnly))

/-- 06_tiers.md R195, R200, R210, R212-R215: remote tiles, at the requester and at the target. Where the rules leave a point
open the statement holds the model's reading, log 108. -/
def Obligations.RemoteTilesTravel : Prop :=
  ∀ (q : Fin 5) (i : Nat) (d : Desc) (s : State), s.plainDram →
    let env : MediaEnv := ⟨[], [], []⟩
    let tag := s.tier.freeTag
    let begun := s.setTierDesc q i { d with env := env }
    let sent (u : State) (write : Bool) : State := (u.setTierDesc q i { d with env := env, begun := true, n := 1 }).updTier fun t =>
      { t with remote := t.remote ++ [⟨tag, q, i, d.part, 0, write⟩], nextTag := tag + 1 }
    let chunks (l : List Byte) : List (List Byte) := (List.range 16).map fun j => slice l (256 * j) 256
    (s.tier.queues[q] = d :: (s.tier.queues[q]).tail → i = 0 → s.tier.swapping = false → s.refuseBad q = s → d.result = none →
      d.err = none → d.begun = false → d.n = 0 → d.ntiles = 1 → s.tierMay d = true → s.tierCheck d = .ok →
      s.tier.remote.length < 64 →
      (∀ u, d.op = 6 → begun.sendEng vc2 false d.peer d.part.toNat (remoteEng 1)
          [leBytes 8 d.src ++ leBytes 2 tag.toNat ++ leBytes 1 (if d.build then 0 else 1)] = some u →
        exec (.rget q) s = .next (sent u false)) ∧
      (∀ u x, d.op = 7 → d.srct = tDram →
        d.newSide 0 (s.dram.read d.src 4096) (s.dram.read (sideStore + 32 * (d.src / 4096)) 32) = some x →
        begun.sendEng vc2 false d.peer d.part.toNat (remoteEng 3) ((x ++ leBytes 2 tag.toNat ++ leBytes 6 0 ++ leBytes 8 d.dst) ::
          chunks (s.dram.read d.src 4096)) = some u →
        exec (.rput q env) s = .next (sent u true))) ∧
    (∀ (src : Pcn) (part : BitVec 12) (addr : Dword) (tg : BitVec 16) (side : Bool) (rec data : List Byte),
      let a := addr.toNat
      let none' := List.replicate 32 (0 : Byte) ++ leBytes 2 tg.toNat
      let rec' := if side then s.dram.read (sideStore + 32 * (a / 4096)) 32 else List.replicate 32 0
      (s.remoteCheck part.toNat a false = .ok →
        exec (.readReq src part addr tg side .clean) s =
          .next (s.replyRemote src part 2 ((rec' ++ leBytes 2 tg.toNat ++ leBytes 1 0) :: chunks (s.dram.read a 4096))) ∧
        exec (.readReq src part addr tg side .failed) s =
          .next ((s.linkMet .failed).2.replyRemote src part 2 [none' ++ leBytes 1 Status.eccFatal.code])) ∧
      (s.remoteCheck part.toNat a false ≠ .ok → ∀ link, exec (.readReq src part addr tg side link) s =
        .next (s.replyRemote src part 2 [none' ++ leBytes 1 (s.remoteCheck part.toNat a false).code])) ∧
      (s.remoteCheck part.toNat a true = .ok → sideOk (slice data 0 4096) (slice rec 0 32) = true →
        ∃ t, exec (.writeData src part addr tg rec data) s = .next t ∧ t.dram.read a 4096 = slice data 0 4096 ∧
          t.dram.read (sideStore + 32 * (a / 4096)) 32 = slice rec 0 32) ∧
      (s.remoteCheck part.toNat a true = .ok → sideOk (slice data 0 4096) (slice rec 0 32) = false →
        ∃ t, exec (.writeData src part addr tg rec data) s = .next t ∧ t.dram = s.dram ∧ t.get Page.tier TIER_CRC_ERR_COUNT =
          min (s.get Page.tier TIER_CRC_ERR_COUNT + 1) (2 ^ TIER_CRC_ERR_COUNT.width - 1)) ∧
      (s.remoteCheck part.toNat a true ≠ .ok → exec (.writeData src part addr tg rec data) s =
        .next (s.replyRemote src part 4 [none' ++ leBytes 1 (s.remoteCheck part.toNat a true).code]))) ∧
    (∀ (r : Remote) (st : Status) (rec data x : List Byte), s.tier.queues[r.q][r.pos]? = some d → d.result = none → d.err = none →
      s.tier.remote = [r] → d.ntiles ≤ d.n →
      let done (t : State) : Prop := t.tier.remote = [] ∧ t.tier.queues[r.q][r.pos]? = some (d.finish .ok 0)
      let fails (t : State) (st : Status) : Prop :=
        t.tier.remote = [] ∧ t.tier.queues[r.q][r.pos]? = some ({ d with err := some st }.finish st r.tile)
      (r.write = false → d.dstt = tDram → d.newSide r.tile (slice data 0 4096) (slice rec 0 32) = some x →
        d.dst + 4096 * r.tile + 4096 ≤ dramGeneral →
        ∃ t, exec (.readData r.part r.tag .ok rec data) s = .next t ∧ done t ∧
          t.dram.read (d.dst + 4096 * r.tile) 4096 = slice data 0 4096) ∧
      (r.write = false → d.newSide r.tile (slice data 0 4096) (slice rec 0 32) = none →
        ∃ t, exec (.readData r.part r.tag .ok rec data) s = .next t ∧ fails t .eccFatal ∧ t.dram = s.dram ∧ t.xmem = s.xmem) ∧
      (r.write = false → st ≠ .ok → ∃ t, exec (.readData r.part r.tag st rec data) s = .next t ∧ fails t st) ∧
      (r.write = true → (∃ t, exec (.writeAck r.part r.tag .ok) s = .next t ∧ done t) ∧
        (st ≠ .ok → ∃ t, exec (.writeAck r.part r.tag st) s = .next t ∧ fails t st)) ∧
      ∃ t, exec (.remoteTimeout r.tag) s = .next t ∧ fails t .timeout)

/-- 06_tiers.md R208, R209, R216, R221, R227, R228; 02_chip.md R61: completion in queue order, whose tag a core that issues sees
a CCLK later; shadow entries and namespaces. Where the rules leave a point open the statement holds the model's reading, logs 56
and 60. -/
def Obligations.CompletionsShadowsNamespaces : Prop :=
  ∀ (path : Path) (q : Fin 5) (d : Desc) (r : List Desc) (c : CoreId) (b : BitVec 8) (e : Fin 16) (ns : Fin 64) (s : State),
    let tp := Page.tier
    let sp := Page.shelf
    let k := s.core c
    let w (off : Nat) : Word := s.stagedWord sp off
    (s.tier.queues[q] = d :: r → s.refuseBad q = s → d.result = some .ok → d.core = some c → d.slot = some b →
      s.sameLife d = true → d.postFlag = false → ∃ t, exec (.tierDescComplete q) s = .next t ∧ t.tier.queues[q] = r ∧
        (k.st = .running ∨ k.st = .waiting →
          t.core c = { k with flights := k.flights ++ [⟨k.cyc + 1, 8 * k.cyc + 7, k.pc, .full b⟩] }) ∧
        (k.st ≠ .running → k.st ≠ .waiting → (k.slot b).tag = .filling →
          ((t.core c).slot b).tag = .full ∧ ((t.core c).slot b).rc = (k.slot b).reads)) ∧
    (s.commitsOne path tp 0 → s.get tp TIER_SH_SEL_ENTRY = e.1 →
      ∃ t, exec (.tierShadowCommit path) s = .next t ∧ t.committedOne tp 0 ∧ t.tier = s.tier ∧
        (s.getI tp e.1 TIER_SH_STATE_STATE = 1 → t.getI tp e.1 TIER_SH_STATE_STATE = 2) ∧
        (s.getI tp e.1 TIER_SH_STATE_STATE = 0 → TIER_SH_PAGES_PAGES.of (s.stagedWord tp 0x05C) ≠ 0 →
          t.getI tp e.1 TIER_SH_STATE_STATE = 1 ∧
          t.getI tp e.1 TIER_SH_DRAM_BASE = TIER_SH_DRAM_BASE.of (s.stagedWord tp 0x058) ∧
          t.getI tp e.1 TIER_SH_PAGES_PAGES = TIER_SH_PAGES_PAGES.of (s.stagedWord tp 0x05C))) ∧
    (s.canonical = true → s.inReset tp = false → s.getI tp e.1 TIER_SH_STATE_STATE = 2 → s.shadowDirty e.1 = 0 →
      ∃ t, exec (.shadowReleased e) s = .next t ∧ t.getI tp e.1 TIER_SH_STATE_STATE = 0 ∧
        t.getI tp e.1 TIER_SH_PAGES_PAGES = 0 ∧ t.tier = s.tier) ∧
    (s.commitsOne path sp 0 → s.get sp SHELF_NS_SEL_NS = ns.1 → ∃ t, exec (.shelfNsCommit path) s = .next t ∧
      t.committedOne sp 0 ∧ t.nsInfo ns.1 = NsInfo.of w ∧
      ∀ x ∈ s.tier.shelf, nsUnmaps (s.nsInfo ns.1) (NsInfo.of w) x.1 = true → assocGet t.tier.shelf x.1 = none) ∧
    (s.canonical = true → ∃ t, exec (.nsUnmapDone ns) s = .next t ∧ t.nsClearing ns.1 = false ∧ t.tier = s.tier)

/-- 06_tiers.md R231-R237: garbage collection erases the block with the fewest valid pages; a patrol read counts and relocates a
block that needs it, and marks what it cannot read; a retired block is gone, its spare is used, and what the write buffer still
keeps of it is programmed again. None of them changes the contents of a logical block. Where the rules leave a point open the
statement holds the model's reading, log 16. -/
def Obligations.FlashTranslationKeepsBlocks : Prop :=
  ∀ (blk ldpc : Nat) (us : BitVec 16) (s : State), s.canonical = true →
    let pg := Page.shelf
    let nand := s.tier.nand
    let known (t : State) : Prop := t.tier.shelf = s.tier.shelf ∧ t.cores = s.cores ∧ t.dram = s.dram ∧ t.xmem = s.xmem
    (s.shelfRo = false → s.inReset pg = false →
      (∃ t, exec .garbageCollect s = .next t ∧ known t ∧ t.tier.wbuf = []) ∧
      (∀ b, s.tier.wbuf = [] → nand = [b] → 0 < b.used → b.lbas = [] →
        ∃ t, exec .garbageCollect s = .next t ∧ known t ∧
          t.tier.nand = [{ b with used := 0, erases := b.erases + 1, reads := 0 }])) ∧
    (s.shelfRo = false → s.inReset pg = false → (∀ b ∈ nand, b.reads + 1 < 100000) →
      (ldpc ≤ 75 → ∃ t, exec (.patrolRead blk ldpc []) s = .next t ∧ known t ∧
        t.tier.nand = nand.map fun b => if b.id = blk then { b with reads := b.reads + 1 } else b) ∧
      (75 < ldpc → nand.any (fun b => b.id == blk) = true → ∃ t, exec (.patrolRead blk ldpc []) s = .next t ∧ known t ∧
        ∀ b ∈ t.tier.nand, b.id = blk → b.lbas = [] ∧ b.used = 0 ∧ b.reads = 0) ∧
      (∀ p x, (validPages nand blk).filter (· == p) = [p] → assocGet s.tier.shelf p = some x →
        ∃ t, exec (.patrolRead blk ldpc [p]) s = .next t ∧ assocGet t.tier.shelf p = some { x with ue := true } ∧
          (∀ l, l ≠ p → assocGet t.tier.shelf l = assocGet s.tier.shelf l) ∧
          t.get pg SHELF_MEDIA_UE_COUNT = min (s.get pg SHELF_MEDIA_UE_COUNT + 1) (2 ^ SHELF_MEDIA_UE_COUNT.width - 1))) ∧
    (s.shelfRo = false → 32 < s.tier.spares → s.tier.spares ≤ spareBlks → ∃ t, exec (.blockRetired blk us) s = .next t ∧ known t ∧
      (∀ b ∈ t.tier.nand, b.id ≠ blk) ∧ (∀ p ∈ validPages nand blk, p ∈ s.tier.prog → p ∈ t.tier.wbuf) ∧
      t.tier.progUs.getLast? = some (s.weave.wt.toNat, us.toNat) ∧ t.tier.spares = s.tier.spares - 1 ∧
      t.get pg SHELF_WEAR_SPARE_PCT = 10000 * (s.tier.spares - 1) / rawBlks ∧
      t.get pg SHELF_RETIRED_BLOCKS = min (s.get pg SHELF_RETIRED_BLOCKS + 1) (2 ^ SHELF_RETIRED_BLOCKS.width - 1))

/-! ## Scale, optimizer, Spin -/

/-- 07_numerics.md R263, R275, R276: an accepted SCALE COMMIT takes the slot's configuration and starts it afresh; an accepted
OPTIM COMMIT takes the set's hyperparameters. -/
def Obligations.ScaleAndOptimCommits : Prop :=
  ∀ (path : Path) (s : State),
    let ps := Page.scale
    let po := Page.optim
    (s.commitsOne path ps 0 →
      let c := s.selScale.1
      let slot := s.selScale.2
      let i := scaleIdx c slot
      ∃ t, exec (.scaleCommit path) s = .next t ∧ t.committedOne ps 0 ∧
        (∀ f ∈ [SCALE_CFG_LEN, SCALE_CFG_MARGIN, SCALE_CFG_FMT, SCALE_CFG_POW2, SCALE_CFG_VALID],
          t.getI ps i f = f.of (s.stagedWord ps 0x044)) ∧
        t.scaleOf c slot = 0x3F800000 ∧ t.getI ps i SCALE_PENDING_AMAX = 0 ∧ t.getI ps i SCALE_NONFINITE_COUNT = 0 ∧
        t.history c slot = [] ∧ t.cores = s.cores) ∧
    (s.commitsOne path po 0 → ∃ t, exec (.optimCommit path) s = .next t ∧ t.committedOne po 0 ∧ t.cores = s.cores ∧
      ∀ f ∈ [OPTIM_LR_LR, OPTIM_BETA1_BETA1, OPTIM_BETA2_BETA2, OPTIM_EPS_EPS, OPTIM_WD_WD, OPTIM_GRAD_MUL_GRAD_MUL,
        OPTIM_MODE_MASTER, OPTIM_MODE_OUT, OPTIM_MODE_SR, OPTIM_MODE_SCALE_SLOT, OPTIM_MODE_VALID],
        t.getI po (s.get po OPTIM_SEL_SET) f = f.of (s.stagedWord po f.off))

/-- 08_spin.md R280-R283, R292-R295, R302: a raw bit that fails a health test stops its source and takes its bits out of the
conditioner's block; a source restarts and passes its start-up test with 1,024 bits; SEED, SAVE and RESTORE start, and end with
lanes or an image and their status. Where the rules leave a point open the statement holds the model's reading, log 112. -/
def Obligations.SpinSourcesAndActions : Prop :=
  ∀ (path : Path) (src : Fin 8) (b : Bool) (raw : List Byte) (link : LinkRead) (s : State),
    let pg := Page.spin
    let x := s.spin.sources[src]
    let h := x.health.take b
    let r := SpinReq.ofWords fun off => s.stagedWord pg off
    ((x.health.last = some b → 25 ≤ x.health.run → h.2 = some .repetition) ∧
      (x.health.seen ≠ 0 → x.health.first = b → 664 ≤ x.health.hits → h.2.isSome = true)) ∧
    (∀ test, (x.healthy = true ∨ x.testing = true) → h.2 = some test → ∃ t, exec (.sourceFail src [b]) s = .next t ∧
      t.spin.sources = s.spin.sources.set src ⟨false, false, decide (1 ≤ x.fails), x.fails + 1, Health.fresh⟩ ∧
      t.spin.block = s.spin.block.filter fun y => y.1 != src) ∧
    (x.off = false → x.healthy = false → exec (.sourceRestart src) s = .next (s.updSpin fun p =>
      { p with sources := p.sources.set src { x with testing := true, health := Health.fresh } })) ∧
    (x.testing = true → h.2 = none → 1023 ≤ x.health.total → exec (.sourceStartupPass src [b]) s = .next (s.updSpin fun p =>
      { p with sources := p.sources.set src { x with healthy := true, testing := false, health := h.1 }, lost := false })) ∧
    (∀ i ∈ [(Instr.seed path, 1), (.save path, 2), (.restore path, 3)], s.commitsOne path pg 0 → r.action = i.2 →
      ∃ t, exec i.1 s = .next t ∧ t.committedOne pg 0 ∧ t.get pg SPIN_STATUS_BUSY = 1 ∧ t.spin.block = [] ∧
        t.spin.action = some (BitVec.ofNat 2 i.2,
          (if i.2 = 1 then s.coresOfPart r.part else [r.core]).map fun c => (c, s.rankOf c))) ∧
    (∀ (c : CoreId) (rank : Nat), s.canonical = true →
      let ended (t : State) (st : Status) : Prop := t.spin.action = none ∧ t.get pg SPIN_STATUS_BUSY = 0 ∧
        t.get pg SPIN_STATUS_STATUS = st.code
      let seed := BitVec.ofNat 64 (s.pair pg 0 SPIN_SEED_LO_SEED SPIN_SEED_HI_SEED)
      (s.spin.action = some (1, [(c, rank)]) →
        (s.flag pg SPIN_CTRL_SOURCE = false → ∃ t, exec (.spinActionDone raw link) s = .next t ∧ ended t .ok ∧
          (t.core c).lanes = seededLanes seed rank ∧ t.get pg (SPIN_ISSUE_COUNT.nth c.1) = 0) ∧
        (∀ d, s.flag pg SPIN_CTRL_SOURCE = true → s.entropy = true → (State.fillBlock raw s).conditioned = some d →
          ∃ t, exec (.spinActionDone raw link) s = .next t ∧ ended t .ok ∧
            (t.core c).lanes = seededLanes (BitVec.ofNat 64 (field d 0 8)) rank) ∧
        (s.flag pg SPIN_CTRL_SOURCE = true → s.entropy = false → s.spin.block = [] →
          ∃ t, exec (.spinActionDone raw link) s = .next t ∧ ended t .notReady ∧ t.cores = s.cores)) ∧
      (s.spin.action = some (2, [(c, rank)]) → s.plainDram → ∃ t, exec (.spinActionDone raw link) s = .next t ∧ ended t .ok ∧
        t.dram.read s.spinAddr 16384 = laneImage (s.core c).lanes) ∧
      (s.spin.action = some (3, [(c, rank)]) → s.plainDram →
        (link ≠ .failed → ∃ t, exec (.spinActionDone raw link) s = .next t ∧ ended t .ok ∧
          (t.core c).lanes = lanesOfImage (s.dram.read s.spinAddr 16384)) ∧
        (link = .failed → ∃ t, exec (.spinActionDone raw link) s = .next t ∧ ended t .eccFatal ∧ t.cores = s.cores)))

/-! ## Links and the weave -/

/-- 09_weave.md R308, R309, R316, R352, R683: what LINK_CTRL's writes and a detected signal do to a port, and what its lanes
then carry. Where the rules leave a point open the statement holds the model's reading, log 113. -/
def Obligations.LinkControlMovesPorts : Prop :=
  ∀ (path : Path) (p : PortId) (s : State),
    let pg := Page.link p.1
    let k := s.port p
    s.canonical = true →
    (s.takesWrite path pg LINK_CTRL_ENABLE.off →
      (∃ t, exec (.linkEnable path p) s = .next t ∧ t.flag pg LINK_CTRL_ENABLE = true ∧ t.ports = s.ports ∧
        (k.st = .down → ∀ i, t.laneOut p i = if laneOn (s.get pg LINK_CTRL_LANES) i then .prbs31 else .idle)) ∧
      (k.st ≠ .down → ∃ t, exec (.linkDisable path p) s = .next t ∧ t.flag pg LINK_CTRL_ENABLE = false ∧
        (t.port p).st = .down ∧ t.get pg LINK_STATE_STATE = 0 ∧ (∀ i, t.laneOut p i = .idle) ∧
        ∀ q, q ≠ p → t.port q = s.port q) ∧
      (s.flag pg LINK_CTRL_ENABLE = true → k.st = .active → ∃ t, exec (.linkRetrain path p) s = .next t ∧
        (t.port p).st = .train ∧ t.get pg LINK_STATE_CAUSE = kSw ∧ (t.port p).wire = [k.word 5 kSw 0] ∧
        t.get pg LINK_RETRAINS_COUNT = min (s.get pg LINK_RETRAINS_COUNT + 1) (2 ^ LINK_RETRAINS_COUNT.width - 1))) ∧
    (s.commitsOne path pg 0 → ∃ t, exec (.linkCtrlCommit path p) s = .next t ∧ t.committedOne pg 0 ∧ t.ports = s.ports ∧
      t.get pg LINK_CTRL_LANES = LINK_CTRL_LANES.of (s.stagedWord pg LINK_CTRL_LANES.off) ∧
      t.get pg LINK_CTRL_PRESET = LINK_CTRL_PRESET.of (s.stagedWord pg LINK_CTRL_LANES.off)) ∧
    (s.portUp p = true → k.st = .down → s.flag pg LINK_CTRL_ENABLE = true → ∃ t, exec (.signalDetect p) s = .next t ∧
      (t.port p).st = .train ∧ (t.port p).locked = false ∧ (t.port p).ident = none ∧
      (t.port p).laneCfg = BitVec.ofNat 2 (s.get pg LINK_CTRL_LANES) ∧
      (∀ i, t.laneOut p i = if laneOn (s.get pg LINK_CTRL_LANES) i then .prbs31 else .idle) ∧ ∀ q, q ≠ p → t.port q = s.port q)

/-- 09_weave.md R308, R316, R319, R321, R324-R326, R335, R683: training, measurement, pinning and the delivery of weave time.
Where the rules leave a point open the statement holds the model's reading, log 41. -/
def Obligations.TrainingPinsAndTimes : Prop :=
  ∀ (p : PortId) (arg : BitVec 48) (sub : BitVec 8) (lm : BitVec 10) (stamp : Dword) (master : Pcn) (s : State),
    let pg := Page.link p.1
    let k := s.port p
    let i := identOf arg.toNat
    let round := (s.wt48 + 2 ^ 49 - arg.toNat - sub.toNat % 8) % 2 ^ 48
    let pins (t : State) (m : Nat) : Prop := t.get pg LINK_LAT_MEAS = m ∧ t.get pg LINK_LAT_PIN = pinOf k.target.toNat m ∧
      (t.port p).pinned = true ∧ (t.port p).sentPin = true ∧ (t.port p).fromDown = false ∧ (t.port p).st = .pin
    s.canonical = true → s.portUp p = true →
    (k.st = .train →
      (k.locked = false → exec (.trainLock p) s = .next (s.updPort p fun k => { k with locked := true }) ∧
        ∀ j, s.flag pg LINK_CTRL_ENABLE = true → laneOn (s.get pg LINK_CTRL_LANES) j = true →
          (s.updPort p fun k => { k with locked := true }).laneOut p j = .fec) ∧
      (k.locked = true → k.ident = none →
        (k.gotRdy = false → i.lanes = k.laneCfg → i.pcn ≠ s.pcn → ∃ t, exec (.ident p arg) s = .next t ∧
          t.port p = { k with ident := some i, sentRdy := true, ctl := k.ctl ++ [.train 2 0] } ∧
          t.get pg LINK_STATE_PEER_PCN = i.pcn.toNat ∧ t.get pg LINK_STATE_PEER_PORT = i.port.toNat) ∧
        (i.lanes ≠ k.laneCfg ∨ i.pcn = s.pcn → k.attempts < 2 → ∃ t, exec (.ident p arg) s = .next t ∧
          (t.port p).st = .train ∧ (t.port p).locked = false ∧ (t.port p).attempts = k.attempts + 1)) ∧
      (k.locked = true → k.sentRdy = false →
        exec (.ready p) s = .next (s.updPort p fun k => { k with gotRdy := true })) ∧
      (k.locked = true → k.sentRdy = true → ∃ t, exec (.ready p) s = .next t ∧ t.get pg LINK_STATE_STATE = 2 ∧
        t.port p = { k with
          gotRdy := true
          st := .pin
          target := if k.fromDown then BitVec.ofNat 10 (s.get pg LINK_PIN_TARGET_TARGET) else k.target
          ctl := k.ctl ++ (if s.leads k then [.marker] else []) })) ∧
    (k.st = .pin →
      (s.leads k = false →
        exec (.marker p arg) s = .next (s.updPort p fun k => { k with ctl := .echo arg.toNat s.weave.wt :: k.ctl }) ∧
        (k.pinned = false → k.fromDown = true → lm.toNat + 2 ≤ pinOf k.target.toNat lm.toNat →
          pinOf k.target.toNat lm.toNat ≤ lm.toNat + 255 → pinOf k.target.toNat lm.toNat < 1024 →
          ∃ t, exec (.pinResult p lm) s = .next t ∧ pins t lm.toNat) ∧
        (k.pinned = false → k.fromDown = true → k.vcq = Vector.replicate 3 [] →
          (pinOf k.target.toNat lm.toNat < lm.toNat + 2 ∨ lm.toNat + 255 < pinOf k.target.toNat lm.toNat) →
          ∃ t, exec (.pinResult p lm) s = .next t ∧ (t.port p).st = .failed ∧ t.get pg LINK_STATE_CAUSE = kPinRange)) ∧
      (s.leads k = true →
        (k.rounds.length < 63 → exec (.echo p arg sub) s = .next ((s.updPort p fun k =>
          { k with rounds := k.rounds ++ [round] }).sendCtl p .marker)) ∧
        (∀ m, k.rounds.length = 63 → k.fromDown = true → ((k.rounds ++ [round]).foldl max 0 + 1) / 2 = m → m ≤ 1000 →
          k.target = 0 → ∃ t, exec (.echo p arg sub) s = .next t ∧ pins t m ∧ .train 3 m ∈ (t.port p).ctl)) ∧
      (k.gotPin = false → exec (.pinDone p) s = .next (
        let t := s.updPort p fun k => { k with gotPin := true }
        if k.sentPin = true ∧ s.aligned = true then t.sendTime p else t)) ∧
      (k.sentPin = true → k.gotPin = true → k.timed = false →
        let wt := stamp + BitVec.ofNat 64 (s.get pg LINK_LAT_PIN)
        let sent : Prop := k.ctl.contains .timeLow = false ∧ k.ctl.contains .timeHigh = false
        let active (t : State) : Prop := (t.port p).st = .active ∧ (t.port p).timed = true ∧ (t.port p).lseqTx = 0 ∧
          (t.port p).credits = Vector.replicate 3 64
        (s.aligned = false → sent → ∃ t, exec (.time p stamp master) s = .next t ∧ t.weave.wt = wt ∧ t.aligned = true ∧
          active t ∧ t.get Page.weave WEAVE_STATUS_PARENT = p.1 ∧ t.get Page.weave WEAVE_STATUS_MASTER_PCN = master.toNat) ∧
        (s.aligned = true → sent → s.weave.wt = wt → master.toNat = s.get Page.weave WEAVE_STATUS_MASTER_PCN →
          ∃ t, exec (.time p stamp master) s = .next t ∧ active t ∧ t.weave = s.weave) ∧
        (s.aligned = true → (s.weave.wt ≠ wt ∨ master.toNat ≠ s.get Page.weave WEAVE_STATUS_MASTER_PCN) →
          k.vcq = Vector.replicate 3 [] → ∃ t, exec (.time p stamp master) s = .next t ∧ (t.port p).st = .failed ∧
            t.get pg LINK_STATE_CAUSE = kTimeConflict)))

/-- 09_weave.md R308, R311-R316, R334, R336, R337: what ends ACTIVE or an attempt, and what the receive direction counts, frees
and resends. Where the rules leave a point open the statement holds the model's reading, log 44. -/
def Obligations.LinkLossAndReplay : Prop :=
  ∀ (p : PortId) (cause : Byte) (ticks : Int) (w : BitVec 128) (ack : BitVec 16) (s : State),
    let pg := Page.link p.1
    let k := s.port p
    let b := ctlBytes w
    s.canonical = true → s.portUp p = true →
    (k.st = .active →
      (∀ x ∈ [(Instr.peerRetrain p cause, kPeer), (.los p, kLos), (.drift p ticks, kDrift)],
        (x.2 = kDrift → 2 < ticks.natAbs) → ∃ t, exec x.1 s = .next t ∧ (t.port p).st = .train ∧
          t.get pg LINK_STATE_CAUSE = x.2 ∧ t.weave = s.weave) ∧
      (ticks.natAbs ≤ 2 → exec (.drift p ticks) s = .next s) ∧
      (k.faults < 16 → ∀ x ∈ [RxFault.codeword, .hcrc], ∃ t, exec (.fecUncorrectable p x) s = .next t ∧
        (t.port p).nakOut = true ∧ (t.port p).st = .active) ∧
      (16 ≤ k.faults → k.faultEp = s.epochNo → ∃ t, exec (.fecUncorrectable p .word) s = .next t ∧ (t.port p).st = .train ∧
        t.get pg LINK_STATE_CAUSE = kFecUe) ∧
      (crc16 (b.take 14) = field b 14 2 → w.getLsbD 16 = false → field b 6 1 % 16 = 5 →
        ∃ t, exec (.controlWord p w) s = .next t ∧ (t.port p).st = .train ∧ t.get pg LINK_STATE_CAUSE = kPeer) ∧
      (crc16 (b.take 14) = field b 14 2 → w.getLsbD 16 = false → field b 6 1 % 16 = 0 →
        exec (.controlWord p w) s = .next (s.updPort p fun k =>
        { k with
          replay := freeThrough (BitVec.ofNat 16 (field b 0 2)) k.replay
          credits := Vector.ofFn fun i => k.credits[i] + (BitVec.ofNat 8 (field b (3 + i.1) 1) - k.seenCr[i]).toNat
          seenCr := Vector.ofFn fun i => BitVec.ofNat 8 (field b (3 + i.1) 1)
          nakFor := none })) ∧
      (let keep := freeThrough ack k.replay
       k.nakFor ≠ some ack → (keep.any fun f => f.lseq == ack + 1) = true → exec (.nak p ack) s = .next (s.updPort p fun k =>
        { k with nakFor := some ack, replay := keep, resend := keep.dropWhile fun f => f.lseq != ack + 1 }))) ∧
    (∀ i ∈ [Instr.controlWord p w, .fecUncorrectable p .codeword, .fecUncorrectable p .hcrc, .fecUncorrectable p .word],
      (i = .controlWord p w → crc16 (b.take 14) ≠ field b 14 2) → ∃ t, exec i s = .next t ∧
        t.get pg LINK_FEC_UE_COUNT = min (s.get pg LINK_FEC_UE_COUNT + 1) (2 ^ LINK_FEC_UE_COUNT.width - 1)) ∧
    exec (.fecUncorrectable p .corrected) s = .next (s.add pg LINK_FEC_CE_COUNT 1) ∧
    (k.st = .train → k.vcq = Vector.replicate 3 [] → ∃ t, exec (.trainTimeout p) s = .next t ∧
      (t.port p).attempts = k.attempts + 1 ∧ (t.port p).st = if 2 ≤ k.attempts then .failed else .train)

/-- 09_weave.md R307, R313-R316, R326, R328, R330, R332-R336, R338-R342; 04_contract.md R137: once a tick a port sends a slot: a
VC0 flit of its owner, or one of VC1 to VC3; a replay that is behind; in every fourth slot a control word. A flit that arrives
at its tick or later is accepted or discarded; a VC0 flit that its RECV claims lands, and one that none claims is counted and
lands nowhere. Where the rules leave a point open the statement holds the model's reading, logs 43, 45, 46 and 114. -/
def Obligations.FlitsLeaveAndLand : Prop :=
  ∀ (p : PortId) (f : Flit) (slot : Dword) (s : State), s.canonical = true → s.portUp p = true →
    let pg := Page.link p.1
    let k := s.port p
    let c := coreOf f.dcore.toNat
    let wt := s.weave.wt
    let plus (t : State) (f : Fld) : Prop := t.get pg f = min (s.get pg f + 1) (2 ^ f.width - 1)
    let idle (k : Port) : Prop := ∀ o x r, s.slotOwner k = some o → k.vc0[o] = x :: r → s.clock.cclk < x.ready
    (k.txAt = some wt → exec (.slotTransmit p) s = .next s) ∧
    (k.txAt ≠ some wt → wt.toNat % 4 ≠ 0 → (∀ q, s.pressQ q = []) → (∀ c, s.ringQ c = []) → k.st = .active →
      s.slotOpen k = true → s.powerStopped = false →
      let left (k' : Port) (fs : List Flit) : State := s.updPort p fun _ => { k' with txAt := some wt, wire := fs.map Flit.bytes }
      (∀ o x r, k.resend = [] → s.slotOwner k = some o → k.vc0[o] = x :: r → x.ready ≤ s.clock.cclk →
        exec (.slotTransmit p) s =
          .next (left (Port.sent { k with vc0 := k.vc0.set o r } x.flit) [{ x.flit with lseq := k.lseqTx }])) ∧
      (∀ g k', k.resend = [] → idle k → k.drr = some (g, k') →
        exec (.slotTransmit p) s = .next (left (k'.sent g) [{ g with lseq := k.lseqTx }])) ∧
      (k.resend ≠ [] → idle k → k.drr = none →
        let n := if 77 ≤ k.surplus then 2 else 1
        exec (.slotTransmit p) s = .next (left { k with
          resend := k.resend.drop n
          surplus := if (k.resend.drop n).isEmpty then 0 else (k.surplus + 23) % 100 } (k.resend.take n)))) ∧
    (k.txAt ≠ some wt → wt.toNat % 4 = 0 → s.laneOut p 0 = .fec →
      let sent (w : List Byte) (r : List Ctl) : State := s.updPort p fun k => { k with txAt := some wt, wire := [w], ctl := r }
      (k.st = .train → k.ident = none → exec (.slotTransmit p) s = .next (sent (k.word 1 1 (s.identArg p)) k.ctl)) ∧
      (∀ sub arg r, k.st = .train → k.ident ≠ none → k.ctl = .train sub arg :: r →
        exec (.slotTransmit p) s = .next (sent (k.word 1 sub arg) r)) ∧
      (∀ r, k.st = .pin → k.sentPin = false → k.ctl = .marker :: r →
        exec (.slotTransmit p) s = .next (sent (k.word 2 0 s.wt48) r)) ∧
      (∀ arg got r, k.st = .pin → k.sentPin = false → k.ctl = .echo arg got :: r →
        exec (.slotTransmit p) s = .next (sent (k.word 3 ((wt - got).toNat % 8) arg) r)) ∧
      (k.st = .active → s.slotOpen k = false → k.ctl = [] → exec (.slotTransmit p) s = .next (sent (k.word 0 0 0) []))) ∧
    (let late := (wt - (slot + BitVec.ofNat 64 (s.get pg LINK_LAT_PIN))).toNat
     let arrive := Instr.vc0FlitArrival p f slot
     k.st = .active → late ≤ 2 ^ 63 → (late = 0 → ∀ c, (s.core c).held = none) →
      (k.nakOut = true → f.lseq ≠ k.ackRx + 1 → exec arrive s = .next s) ∧
      (k.nakOut = false ∨ f.lseq = k.ackRx + 1 →
        (f.vc ≠ 0 → s.flag Page.mangle MANGLE_EARLY_STALLED = false → exec arrive s = .next (s.updPort p fun k =>
          { k with ackRx := f.lseq, nakOut := false,
                   freed := k.freed.set (vcOf f.vc.toNat) (k.freed[vcOf f.vc.toNat] + 1) })) ∧
        (f.vc = 0 →
          (∀ r, s.partOf c = some f.part.toNat → (s.core c).recvOf p f.bslot = some r → f.last = false →
            256 * f.fidx.toNat + 256 ≤ r.rows * r.rowBytes →
            let a := r.base + 256 * f.fidx.toNat / r.rowBytes * r.stride + 256 * f.fidx.toNat % r.rowBytes
            ((s.core c).st = .running → (s.core c).staging.length < 64 → ∃ t, exec arrive s = .next t ∧
              t.core c = { s.core c with staging := (s.core c).staging ++ [⟨a, slice f.payload 0 256, none⟩] } ∧
              (t.port p).ackRx = f.lseq ∧ (t.port p).nakOut = false) ∧
            ((s.core c).st = .stopped → ∃ t, exec arrive s = .next t ∧
              t.readMem (.cmem c) a 256 = slice f.payload 0 256)) ∧
          (s.partOf c ≠ some f.part.toNat → ∃ t, exec arrive s = .next t ∧ t.cores = s.cores ∧
            plus t LINK_VC0_UNCLAIMED_COUNT ∧ (late ≠ 0 → plus t LINK_VC0_LATE_COUNT)))))

/-- 06_tiers.md R195; 09_weave.md R317, R320, R322, R341, R343, R353; 15_clocks_power.md R558: an epoch boundary with its table
swap, table loads, the master, and a change of reference. Where the rules leave a point open the statement holds the model's
reading, log 108. -/
def Obligations.WeaveTimeAndTables : Prop :=
  ∀ (path : Path) (deciW : BitVec 12) (p : PortId) (v : Bool) (link : LinkRead) (s : State), s.canonical = true →
    let pw := Page.weave
    let n := if s.epochNo ≤ s.weave.epoch then s.epochNo + 1 else s.epochNo
    (s.resets.cold = false → s.resets.warm = false → s.epochNo + 1 < 2 ^ 47 → ∃ t, exec (.epochBoundary deciW) s = .next t ∧
      t.weave.epoch = n ∧ t.epochNo = n ∧ t.get Page.pwr PWR_MEAS_DECIW = deciW.toNat ∧
      ∀ e, s.weave.armed = some ⟨false, p.1, e⟩ → e ≤ n → t.weave.armed = none ∧ (t.port p).table = (s.port p).shadow ∧
        (t.port p).shadow = (s.port p).table) ∧
    (s.commitsOne path pw 0 →
      let w := WLoad.ofWords fun off => s.stagedWord pw off
      ∃ t, exec (.weaveLoadCommit path) s = .next t ∧ t.committedOne pw 0 ∧ t.weave.loading = some ⟨w.path, w.port, w.epoch⟩ ∧
        t.get pw WEAVE_LOAD_STATUS_BUSY = 1) ∧
    (∀ e, s.plainDram → s.weave.loading = some ⟨false, p.1, e⟩ → (e = 0 ∨ s.epochNo < e) →
      let bs := s.dram.read (s.pair pw 0 WEAVE_LOAD_BASE_LO_BASE WEAVE_LOAD_BASE_HI_BASE) (s.get pw WEAVE_LOAD_LEN_LEN)
      (link ≠ .failed → s.slotTableCheck p bs = .ok → ∃ t, exec (.tableLoadDone link) s = .next t ∧ (t.port p).shadow = bs ∧
        t.weave.loading = none ∧ t.weave.armed = some ⟨false, p.1, if e = 0 then s.epochNo + 1 else e⟩ ∧
        t.get pw WEAVE_LOAD_STATUS_ARMED = 1 ∧ t.get pw WEAVE_LOAD_STATUS_BUSY = 0) ∧
      (link = .failed ∨ s.slotTableCheck p bs ≠ .ok → ∃ t, exec (.tableLoadDone link) s = .next t ∧ t.ports = s.ports ∧
        t.weave.loading = none ∧ t.weave.armed = s.weave.armed ∧
        t.get pw WEAVE_LOAD_STATUS_STATUS = (if link = .failed then .eccFatal else s.slotTableCheck p bs).code)) ∧
    (s.takesWrite path pw WEAVE_CTRL_MASTER.off → s.flag pw WEAVE_CTRL_MASTER = false → ∃ t,
      exec (.masterWrite path true) s = .next t ∧
        if s.aligned = false ∧ s.flag Page.chip CHIP_PCN_VALID = true then
          t.aligned = true ∧ t.flag pw WEAVE_CTRL_MASTER = true ∧ t.get pw WEAVE_STATUS_PARENT = 0xF ∧
            t.get pw WEAVE_STATUS_MASTER_PCN = s.pcn.toNat
        else t.aligned = s.aligned ∧ t.flag pw WEAVE_CTRL_MASTER = false ∧ t.ports = s.ports) ∧
    (s.takesWrite path Page.clk CLK_REF_SRC.off → v.toNat ≠ s.get Page.clk CLK_REF_SRC → ∃ t,
      exec (.refChange path v) s = .next t ∧ t.get Page.clk CLK_REF_SRC = v.toNat ∧ t.aligned = false ∧
        t.flag pw WEAVE_CTRL_MASTER = false ∧ t.port 0 = s.port 0 ∧ t.port 1 = s.port 1 ∧
        (2 ≤ p.1 → (s.port p).st = .active → (t.port p).st = .train))

/-! ## Mangle -/

/-- 10_mangle.md R363, R365, R370, R372, R373, R376, R382: what the flits of an outstanding collective do at a member: a piece
of a partial is kept, a whole partial and a result are taken, a child's DONE is noted or, with another signature, aborts; FINISH
completes a leaf; ABORT opens its window. Where the rules leave a point open the statement holds the model's reading, log 61. -/
def Obligations.MangleFlitsReachTheirCollective : Prop :=
  ∀ (sender : Nat) (f : Flit) (x : Coll) (s : State),
    let c := coreOf f.dcore.toNat
    let gi : BitVec 6 := BitVec.ofNat 6 f.bslot.toNat
    let g := s.grp f.bslot.toNat
    let d := s.collDesc x.desc
    let n := g.count
    let me := (s.grpRank g c).getD 0
    let ch := f.eng.toNat % 8192
    let len := (d.chunk n ch).2.1
    let root := (d.chunk n ch).2.2
    let pos := posOf n root me
    let kind := bits f.eng.toNat 14 13
    let up := len * (if d.wide then 8 else 4)
    let down := len * elemSize d.ofmt
    let e : Word := BitVec.ofNat 32 (field f.payload 4 4)
    s.mangleNames f →
    (s.collAt c gi (s.dataEpoch c gi (f.fidx.toNat / 32)) = some x → x.frag = [] → ch < d.chunks n →
      let now (t : State) (y : Coll) : Prop := t.collAt c gi x.epoch = some y
      (kind = 0 → 256 < up → 256 * (f.fidx.toNat % 32) < up → ∃ t, exec (.mangleUpFlit sender f) s = .next t ∧
        now t { x with frag := [(2 * sender, ch, f.fidx.toNat % 32, f.payload)] } ∧ t.regs = s.regs ∧ t.cores = s.cores) ∧
      (kind = 0 → 0 < up → up ≤ 256 → f.fidx.toNat % 32 = 0 → x.phase ≠ .window → d.op ≠ 3 → d.op ≠ 4 →
        x.res.contains ch = false → ∀ l l', (childLevels n pos).find? (fun l => pos + 2 ^ l == posOf n root sender) = some l →
        l' ∈ childLevels n pos → l' ≠ l → (∀ p ∈ x.parts, p.1 = ch → p.2.1 ≠ l ∧ p.2.1 ≠ l') →
        ∃ t, exec (.mangleUpFlit sender f) s = .next t ∧
          now t { x with parts := x.parts ++ [(ch, l, bytesPairs d.wide len ((padTo 256 f.payload).take up))] } ∧
          t.regs = s.regs ∧ t.cores = s.cores) ∧
      (kind = 1 → 0 < down → down ≤ 256 → f.fidx.toNat % 32 = 0 → x.phase = .running → d.op ≠ 2 → pos ≠ 0 →
        x.res.contains ch = false → posOf n root sender = parentPos n pos → childLevels n pos = [] →
        (∃ i, i < d.chunks n ∧ i ≠ ch ∧ x.res.contains i = false) → ∃ t, exec (.mangleDownFlit sender f) s = .next t ∧
          now t { x with res := insertNat x.res ch } ∧
          let w := s.writeTileAt c (Handle.of x.th) (d.outOff + (d.chunk n ch).1 * elemSize d.ofmt)
            ((padTo 256 f.payload).take down)
          t.cores = w.cores ∧ t.xmem = w.xmem ∧ t.dram = w.dram)) ∧
    (kind = 2 → s.collAt c gi e = some x →
      let now (t : State) (y : Coll) : Prop := t.collAt c gi e = some y
      (field f.payload 0 1 = 1 → x.phase = .running → (ctlChildren n me).contains sender = true →
        (field f.payload 8 2 = s.signature x.desc → (∃ r ∈ ctlChildren n me, r ≠ sender ∧ x.dones.contains r = false) →
          ∃ t, exec (.done sender f) s = .next t ∧ now t { x with dones := insertNat x.dones sender } ∧ t.regs = s.regs) ∧
        (field f.payload 8 2 ≠ s.signature x.desc → (∀ r ∈ ctlNeighbours n me, s.grpCore g r = none) →
          ∃ t, exec (.done sender f) s = .next t ∧
            now t { x with phase := .window, cause := BitVec.ofNat 4 cMemberFault, origin := me })) ∧
      (field f.payload 0 1 = 2 → x.phase = .sentDone → ctlChildren n me = [] → ∃ t, exec (.finish sender f) s = .next t ∧
        t.mangle.colls = s.mangle.colls.filter (fun y => !(y.core == c && y.grp == gi && y.epoch == e)) ∧
        t.collEpoch c gi = s.collEpoch c gi + 1 ∧
        ((s.core c).life = x.life → t.core c = (s.tagEnd c (Handle.of x.th).bslot .ok).core c)) ∧
      (field f.payload 0 1 = 3 → x.phase ≠ .window → (∀ r ∈ ctlNeighbours n me, r = sender) →
        ∃ t, exec (.abort sender f) s = .next t ∧
          now t { x with phase := .window, cause := BitVec.ofNat 4 (field f.payload 1 1), origin := field f.payload 2 2 } ∧
          t.regs = s.regs ∧ t.cores = s.cores))

/-- 10_mangle.md R358, R372, R374, R375, R377, R379, R387: a deadline originates ABORT with cause TIMEOUT, or completes a member
that has sent DONE; an abort window ends ABORTED; an accepted descriptor and an accepted group take their staged words. Where
the rules leave a point open the statement holds the model's reading, log 61. -/
def Obligations.CollectivesEndAndGroupsBegin : Prop :=
  ∀ (path : Path) (c : CoreId) (grp : BitVec 6) (x : Coll) (s : State),
    let pg := Page.mangle
    let g := s.grp grp.toNat
    let me := (s.grpRank g c).getD 0
    let i := s.get pg MANGLE_SEL_INDEX
    (s.canonical = true → x.origin < 16384 →
      let gone (t : State) (cause origin : Nat) : Prop :=
        t.mangle.colls = s.mangle.colls.filter (fun y => !(y.core == c && y.grp == grp && y.epoch == x.epoch)) ∧
        t.collEpoch c grp = s.collEpoch c grp + 1 ∧
        ((s.core c).life = x.life → t.core c = (s.tagEnd c (Handle.of x.th).bslot .aborted).core c) ∧
        t.get pg MANGLE_LAST_ABORT_CAUSE = cause ∧ t.get pg MANGLE_LAST_ABORT_ORIGIN = origin ∧
        t.get pg MANGLE_LAST_ABORT_GROUP = grp.toNat ∧
        t.get pg MANGLE_ABORTS_COUNT = min (s.get pg MANGLE_ABORTS_COUNT + 1) (2 ^ MANGLE_ABORTS_COUNT.width - 1)
      (s.oldestColl c grp (· != .window) = some x →
        (x.phase = .running → s.collAt c grp x.epoch = some x → (∀ r ∈ ctlNeighbours g.count me, s.grpCore g r = none) →
          ∃ t, exec (.collDeadline c grp) s = .next t ∧ t.collAt c grp x.epoch =
            some { x with phase := .window, cause := BitVec.ofNat 4 cTimeout, origin := me }) ∧
        (x.phase ≠ .running → me < 16384 → ∃ t, exec (.collDeadline c grp) s = .next t ∧ gone t cTimeout me)) ∧
      (s.oldestColl c grp (· == .window) = some x →
        ∃ t, exec (.abortWindowEnd c grp) s = .next t ∧ gone t x.cause.toNat x.origin)) ∧
    (s.commitsOne path pg 0 → ∃ t, exec (.mangleDescCommit path) s = .next t ∧ t.committedOne pg 0 ∧
      t.collDesc i = CollDesc.of (s.stagedWord pg 0x044) (s.stagedWord pg 0x048) (s.stagedWord pg 0x04C) (s.stagedWord pg 0x050)
        (s.stagedWord pg 0x054) ∧ t.mangle = s.mangle ∧ t.cores = s.cores) ∧
    (s.commitsOne path pg 1 → ∃ t, exec (.mangleGroupCommit path) s = .next t ∧ t.committedOne pg 1 ∧
      t.grp i = Grp.ofWords (fun off => s.stagedWord pg off) ∧ t.mangle.colls = s.mangle.colls ∧ t.cores = s.cores ∧
      ∀ m : CoreId, t.collEpoch m (BitVec.ofNat 6 i) = 0)

/-! ## Press, hangers and rings -/

/-- 11_press.md R400, R409, R412-R414, R418: a press sends its tiles on its group, and ends no sooner than its last flit has
been sent; a CANCEL goes out on CGROUP; the coordinator notes ACK_READY, and ends with a CANCEL on the first NACK and at its
deadline. Where the rules leave a point open the statement holds the model's reading, logs 78 and 79. -/
def Obligations.PressDescriptorsRunAndEnd : Prop :=
  ∀ (q : Fin 5) (d : Desc) (s : State), s.plainDram → s.pressQ q = [d] →
    let pg := Page.press
    let data := s.dram.read d.src 4096
    let side := s.dram.read (sideStore + 32 * (d.src / 4096)) 32
    let coord : Pcn := BitVec.ofNat 12 d.pCoordPcn
    let one (t : State) (f : Fld) : Prop := t.get pg f = min (s.get pg f + 1) (2 ^ f.width - 1)
    let queued (t : State) (e : Nat) (fs : List Flit) : Prop := ∀ p ∈ s.mcPorts e none,
      (t.port p).vcq[vc1] = (s.port p).vcq[vc1] ++ fs
    let failed (t : State) (st : Status) (cause : Nat) : Prop := t.pressQ q = [] ∧ one t PRESS_CANCELS_COUNT ∧
      t.get pg PRESS_LAST_STATUS = st.code ∧ t.get pg PRESS_LAST_CAUSE = cause ∧ t.get pg PRESS_LAST_MODEL = d.pModel ∧
      t.get pg PRESS_LAST_VER_VERSION = d.pVersion
    (d.begun = false → s.pressMay d = true → s.pressCheck d = .ok →
      (∀ e x, d.op = 1 → d.ntiles = 1 → d.srct = tDram → d.pCoord = false → d.pGroup ≠ 0xFFF → s.mcEntry d.pGroup = some e →
        s.mcLocal e = false → (s.mcPorts e none).all s.portActive = true → d.pressSide 0 data side = some x →
        s.mcPorts e none ≠ [] → ∃ t, exec (.press q ⟨[], [], []⟩) s = .next t ∧ one t PRESS_TILES_SENT_COUNT ∧
          queued t e (tileFlits s.pcn d.pGroup d.part.toNat d.pModel coord x data) ∧ t.dram = s.dram ∧
          t.pressQ q = [{ d with begun := true, n := 1, wt := s.weave.wt, out := t.outMarks (s.mcPorts e none) }] ∧
          t.outSent { d with out := t.outMarks (s.mcPorts e none) } = false) ∧
      (∀ e, d.op = 2 → d.pCgroup ≠ 0xFFF → coord ≠ s.pcn → s.mcEntry d.pCgroup = some e →
        (s.mcPorts e none).all s.portActive = true → ∃ t, exec (.cancel q) s = .next t ∧ t.pressQ q = [] ∧
          one t PRESS_CANCELS_COUNT ∧ queued t e [mcFlit s.pcn d.pCgroup d.part.toNat (engWord .pressCtrl d.pModel 0) 0 true
            (ctrlPayload mCancel pcSource d.pVersion 0)])) ∧
    (d.begun = true → d.op = 1 → d.pCoord = true →
      (∃ t, exec (.pressDeadline q) s = .next t ∧ failed t .timeout pcTimeout) ∧
      ∀ (src : Pcn) (version : Word) (cause : Byte) (model : BitVec 4),
        s.coordinator d.part.toNat model.toNat version = some (q, 0) →
        (cause.toNat < 16 → ∃ t, exec (.pressNack src d.part model version cause) s = .next t ∧
          failed t .aborted cause.toNat) ∧
        (d.acks.contains src = false → (d.n < d.ntiles ∨ d.acks.length + 1 < d.pNdest) →
          exec (.ackReady src d.part model version) s = .next (s.setPressQ q [{ d with acks := d.acks ++ [src] }])))

/-- 11_press.md R396-R400, R403, R416, R419, R437, R438: a tile lands in the inactive bank and the last one makes its version
READY; ARM arms it, CANCEL abandons it, and the last flip settles the model; what accepted COMMITs of the two pages leave. Where
the rules leave a point open the statement holds the model's reading, log 115. -/
def Obligations.HangersFillArmAndSettle : Prop :=
  ∀ (path : Path) (s : State), s.canonical = true →
    (∀ (x : PressTile) (e : Nat),
      let m := modelOf x.model.toNat
      let side := slice x.side 0 32
      let data := slice x.data 0 4096
      let idx := field side 20 4
      let h := s.hanger m
      let n := h.landed.length + 1
      s.mcEntry x.group.toNat = some e → s.mcLocal e = true → s.inReset Page.hanger = false → s.modelValid m = true →
      s.hg m HANGER_CFG_PART = x.part.toNat → s.hg m HANGER_STATE_STATE = hFilling →
      s.hg m HANGER_PEND_VER_VERSION = field side 16 4 → sideOk data side = true → field side 0 1 % 16 < 10 →
      idx < s.hg m HANGER_TILES_TILES → h.landed.contains idx = false → n ≤ s.hg m HANGER_TILES_TILES → x.coord ≠ s.pcn →
      ∃ t, exec (.pressTile x) s = .next t ∧ t.hanger m = { h with
          landed := insertNat h.landed idx
          coord := x.coord
          readyAt := if n = s.hg m HANGER_TILES_TILES then some s.clock.cclk else h.readyAt } ∧
        t.xmem.read (s.bankSeg m (s.newBank m) * segBytes + idx * 4096) 4096 = data ∧ t.hg m HANGER_LANDED_TILES = n ∧
        t.hg m HANGER_STATE_STATE = (if n = s.hg m HANGER_TILES_TILES then hReady else hFilling) ∧
        (∀ k, k ≠ m → t.hanger k = s.hanger k) ∧ t.dram = s.dram) ∧
    (∀ (port : PortId) (group part : BitVec 12) (model : BitVec 4) (version : Word) (epoch : Dword) (cause : Byte) (e : Nat),
      let m := modelOf model.toNat
      let st := s.hg m HANGER_STATE_STATE
      s.mcEntry group.toNat = some e → s.mcLocal e = true → s.modelValid m = true → s.hg m HANGER_CFG_PART = part.toNat →
      s.hg m HANGER_PEND_VER_VERSION = version.toNat →
      (st = hReady → ∃ t, exec (.arm port group part model version epoch) s = .next t ∧
        t.hg m HANGER_STATE_STATE = hArmed ∧ t.hg m HANGER_ARM_E_LO_E = epoch.toNat % 2 ^ 32 ∧
        t.hg m HANGER_ARM_E_HI_E = epoch.toNat / 2 ^ 32 % 2 ^ 15 ∧ t.xmem = s.xmem ∧
        t.hanger m = { s.hanger m with readyAt := some s.clock.cclk }) ∧
      (st = hFilling ∨ st = hReady ∨ st = hArmed → ∃ t, exec (.pressCtrlCancel port group part model version cause) s = .next t ∧
        t.hg m HANGER_STATE_STATE = hSettled ∧ t.hg m HANGER_STATE_MARK = markIncomplete ∧
        t.hanger m = { s.hanger m with landed := [] } ∧ t.hg m HANGER_LANDED_TILES = 0 ∧ t.xmem = s.xmem)) ∧
    (∀ model : BitVec 4,
      let m := modelOf model.toNat
      s.hg m HANGER_STATE_STATE = hSplit → s.hg m HANGER_STATE_ON_NEW = s.hg m HANGER_CFG_CORES →
      ∃ t, exec (.hangerSettle model) s = .next t ∧ t.hg m HANGER_STATE_STATE = hSettled ∧ t.hg m HANGER_STATE_ON_NEW = 0 ∧
        t.hg m HANGER_STATE_MARK = markOld ∧ t.hanger m = { s.hanger m with bank := !(s.hanger m).bank, landed := [] } ∧
        t.xmem = s.xmem ∧ t.cores = s.cores) ∧
    (s.commitsOne path Page.hanger 0 →
      let m := s.selModel
      ∃ t, exec (.hangerCommit path) s = .next t ∧ t.committedOne Page.hanger 0 ∧ t.hanger m = Hanger.reset ∧
        t.hg m HANGER_STATE_STATE = hSettled ∧ t.hg m HANGER_STATE_MARK = markInvalid ∧
        (∀ c : CoreId, t.hg m (HANGER_ACTIVE_VERSION.nth c.1) = 0) ∧
        ∀ f ∈ [HANGER_CFG_CORES, HANGER_CFG_LOCKSTEP, HANGER_CFG_PART, HANGER_CFG_VALID, HANGER_SEGS_BANK0, HANGER_SEGS_BANK1,
          HANGER_SEGS_NSEG, HANGER_TILES_TILES], t.hg m f = f.of (s.stagedWord Page.hanger f.off)) ∧
    (s.commitsOne path Page.press 0 → ∃ t, exec (.pressMcCommit path) s = .next t ∧ t.committedOne Page.press 0 ∧
      ∀ f ∈ [PRESS_MC_ENTRY_GROUP, PRESS_MC_ENTRY_LOCAL, PRESS_MC_ENTRY_FWD, PRESS_MC_ENTRY_VALID],
        t.getI Page.press (s.get Page.press PRESS_MC_SEL_ENTRY) f = f.of (s.stagedWord Page.press f.off))

/-- 11_press.md R423-R431, R439: a record lands in its lane's next slot with its SEQ, LANE and CRC; credits are granted, come
back and release pushes; a push with its credit sends its record, and ends no sooner than its last flit has been sent; an
accepted COMMIT begins its ring empty. Where the rules leave a point open the statement holds the model's reading, log 116. -/
def Obligations.RingRecordsAndCredits : Prop :=
  ∀ (path : Path) (src : Pcn) (ring : BitVec 6) (s : State), s.plainDram →
    let n := ring.toNat
    let info := s.ringInfo n
    let x := s.ring n
    (∀ (part : BitVec 12) (bytes : List Byte) (lane : Nat), s.inReset Page.xring = false → info.valid = true →
      info.part = part.toNat → 64 + field bytes 32 4 ≤ info.recb → info.lane (field bytes 6 2) = some lane →
      let l := x.lane lane
      (l.landed - l.taken < info.depth → ∃ t, exec (.ringRec src part ring bytes) s = .next t ∧
        (t.ring n).lane lane = { l with landed := l.landed + 1, granted := l.granted - 1 } ∧
        (t.ring n).arrival = x.arrival ++ [(lane, l.landed)] ∧
        let r := t.dram.read (info.slot lane l.landed) info.recb
        field r 0 4 = l.landed % 2 ^ 32 ∧ field r 4 2 = lane % 2 ^ 16 ∧ recCrc r = field r 60 4 ∧
          r.drop 64 = (slice bytes 0 info.recb).drop 64) ∧
      (info.depth ≤ l.landed - l.taken → info.drop = false → ∃ t, exec (.ringRec src part ring bytes) s = .next t ∧
        t.eng = s.eng ∧ t.dram = s.dram ∧ t.getI Page.xring n XRING_OVERRUN_COUNT =
          min (s.getI Page.xring n XRING_OVERRUN_COUNT + 1) (2 ^ XRING_OVERRUN_COUNT.width - 1))) ∧
    (∀ (part : BitVec 12) (rank lane : BitVec 16) (count : Word) (k : Nat) (u : State),
      let l := x.lane k
      let free := info.depth - (l.landed - l.taken) - l.granted
      let y := x.lane lane.toNat
      (s.inReset Page.xring = false → info.valid = true → info.part = part.toNat → info.lane rank.toNat = some k →
        s.sendRing src.toNat part.toNat n 2 0 k rank.toNat free = some u → exec (.creditReq src part ring rank) s =
          .next (u.setRing n (x.setLane { l with granted := l.granted + free, src := some src }))) ∧
      (info.valid = true → info.part = part.toNat → lane.toNat < info.nprod →
        exec (.creditReturn src part ring lane rank count) s =
          .next (s.setRing n (x.setLane { y with granted := y.granted - count.toNat, src := none }))) ∧
      (∀ p, s.prodOf src.toNat n rank.toNat = some p → s.waitingPush src.toNat n rank.toNat = [] →
        exec (.credit src ring lane rank count) s =
          .next (s.setProd { p with lane := lane, opened := true, free := p.free + count.toNat }) ∧
        exec (.ringNack src ring rank) s = .next (s.delProd p))) ∧
    (∀ (core : CoreId) (d : Desc) (space o : Nat) (payload : List Byte) (u : State), s.ringQ core = [d] → d.op = 1 →
      d.out = [] → s.ringMay d = true → addrOf d.rAddr = some (space, o) → d.rLen ≤ 65472 → space ≤ 2 →
      s.engRange core space o d.rLen = true →
      let holds := if d.rDest = s.pcn.toNat then !(s.ringInfo d.rRing).drop
        else Config.ringHolds (BitVec.ofNat 12 d.rDest) (BitVec.ofNat 6 d.rRing)
      let rec' (v : State) : List Byte := v.pushRecord core d payload
      let flits (v : State) : List (List Byte) :=
        (List.range ((64 + d.rLen + 255) / 256)).map fun j => slice (rec' v) (256 * j) 256
      let sent (v : State) : Prop := v.readSpace core space o d.rLen = (payload, false, v) →
        v.sendEng vc1 false d.rDest d.part.toNat (ringEng .ringRec d.rRing) (flits v) = some u →
        exec (.push core) s = .next (u.setRingQ core [{ d with
          begun := true
          out := match u.route d.rDest false with
            | some (p, _) => u.outMarks [p]
            | none => [] }])
      (holds = false → sent s) ∧
      (∀ p, holds = true → s.prodOf d.rDest d.rRing (s.rankOf core) = some p → p.opened = true →
        (0 < p.free → sent (s.setProd { p with free := p.free - 1 })) ∧
        (p.free = 0 → exec (.push core) s = .next (s.setRingQ core [{ d with begun := true }])))) ∧
    (s.commitsOne path Page.xring 0 →
      let i := s.get Page.xring XRING_SEL_RING
      ∃ t, exec (.xringCommit path) s = .next t ∧ t.committedOne Page.xring 0 ∧ t.ring i = ⟨[], [], 0⟩ ∧ t.dram = s.dram ∧
        ∀ f ∈ [XRING_BASE_LO_BASE, XRING_BASE_HI_BASE, XRING_REC_RECU, XRING_REC_DEPTH, XRING_PROD_PROD_BASE, XRING_PROD_STRIDE,
          XRING_MODE_NPROD, XRING_MODE_POLICY, XRING_MODE_ORDER, XRING_MODE_PART, XRING_MODE_VALID, XRING_MAXLAG_LAG],
          t.getI Page.xring i f = f.of (s.stagedWord Page.xring f.off))

/-- 11_press.md R432-R436; 12_serving.md R445, R446, R449, R450, R453, R454, R466: a pop takes its record or ends at its
deadline; a gather begins when its checks pass, latches its table when its step is posted, and ends at its deadline; what
accepted COMMITs of PATCH leave. Where the rules leave a point open the statement holds the model's reading, logs 116 and 117.
-/
def Obligations.PopsAndGathers : Prop :=
  ∀ (path : Path) (core : CoreId) (d : Desc) (env : MediaEnv) (s : State), s.plainDram →
    (s.ringQ core = [d] → d.op = 2 →
      let n := d.rRing
      let info := s.ringInfo n
      (∀ space o lane seq, s.ringMay d = true → d.begun = false → d.rCount = 1 → addrOf d.rAddr = some (space, o) →
        info.valid = true → s.partOf core = some info.part → (space = 1 ∨ space = 2) →
        s.engRange core space o info.recb = true → (s.ring n).nextRec info = some (lane, seq) → info.drop = true →
        info.maxlag = 0xFFFF → d.n = 0 →
        let bs := s.dram.read (info.slot lane seq) info.recb
        let w := s.writeSpace core space o bs
        recCrc bs = field bs 60 4 → ∃ t, exec (.pop core) s = .next t ∧ t.ringQ core = [] ∧
          t.ring n = (s.ring n).consume info lane seq ∧ t.get Page.xring (XRING_POP_N_COUNT.nth core.1) = 1 ∧
          t.xmem = w.xmem ∧ t.dram = w.dram) ∧
      (d.rDeadline ≠ 0 → d.n ≤ 4096 → ∃ t, exec (.popDeadline core) s = .next t ∧ t.ringQ core = [] ∧
        t.get Page.xring (XRING_POP_N_COUNT.nth core.1) = d.n ∧ t.dram = s.dram ∧ t.xmem = s.xmem)) ∧
    (∀ r, s.gatherQ core = d :: r →
      let i := d.gInst
      let x := s.instInfo i.1
      let table := s.dram.read (x.tbl + 16384 * (d.gStep % 2)) (64 + 16 * x.rows)
      let ended (t : State) (st : Status) : Prop := t = (s.setGatherQ core r).completeDesc d st d.rPost d.rCookie
      (d.begun = false → s.inReset Page.patch = false → s.mayStart = true → s.postsFree d d.rPost = true →
        (s.gatherCheck core d = true →
          exec (.gather core) s = .next (s.setGatherQ core ({ d with begun := true, n := 1 } :: r))) ∧
        (s.gatherCheck core d = false → ∃ t, exec (.gather core) s = .next t ∧ ended t .param)) ∧
      (d.begun = true → s.inReset Page.patch = false → s.powerStopped = false → d.n = 1 → d.gStep < (s.serve i).posted →
        tableOk table d.gStep x.rows = true →
        let ver := field table 12 4
        s.hg x.model (HANGER_ACTIVE_VERSION.nth core.1) < ver → s.hg x.model HANGER_STATE_STATE = hFilling →
        let active : Word := BitVec.ofNat 32 (s.hg x.model (HANGER_ACTIVE_VERSION.nth core.1))
        ∃ t, exec (.gatherResume core env) s = .next t ∧ (t.serve i).tables[core] = table ∧
          (t.serve i).latched[core] = d.gStep + 1 ∧ t.gatherQ core = { d with n := 2, verL := active } :: r) ∧
      (d.begun = true → s.inReset Page.patch = false → s.powerStopped = false → d.n = 2 →
        let held := (s.serve i).tables[core]
        field held 12 4 = 0 → (∀ k, k < x.rows → rowValid held k = false ∨ rowPatch held k = 0xFFFF) →
        ∀ space o, addrOf d.gDst = some (space, o) →
        let w := s.writeSpace core space o (s.stepRecord x core d.gStep held d.verL.toNat [] [])
        ∃ t, exec (.gatherResume core env) s = .next t ∧ t = (w.setGatherQ core r).completeDesc d .ok d.rPost d.rCookie) ∧
      (d.begun = true → d.gDeadline ≠ 0 → ∃ t, exec (.gatherDeadline core) s = .next t ∧ ended t .timeout)) ∧
    (s.commitsOne path Page.patch 0 →
      ∃ t, exec (.patchInstanceCommit path) s = .next t ∧ t.committedOne Page.patch 0 ∧ t.serve s.selInst = Serving.reset ∧
        ∀ f ∈ [PATCH_I_CFG_CORES, PATCH_I_CFG_RMAX, PATCH_I_CFG_MODEL, PATCH_I_CFG_CTX, PATCH_I_CFG_VALID, PATCH_I_PART_PART,
          PATCH_I_PART_ROWS, PATCH_I_TBL_LO_TBL, PATCH_I_TBL_HI_TBL, PATCH_I_STORE_LO_STORE, PATCH_I_STORE_HI_STORE,
          PATCH_I_RES_SEG, PATCH_I_RES_NRES, PATCH_I_RES_SLOT_TILES],
          t.getI Page.patch s.selInst.1 f = f.of (s.stagedWord Page.patch f.off)) ∧
    (s.commitsOne path Page.patch 1 →
      let y := stagedEntry fun off => s.stagedWord Page.patch off
      let a := (s.instInfo s.selInst.1).store + 32 * s.get Page.patch PATCH_SEL_ENTRY
      let old := s.dram.read a 32
      ∃ t, exec (.patchEntryCommit path) s = .next t ∧ t.committedOne Page.patch 1 ∧
        t.dram.read a 32 = (if y.valid then y else { y with gen := field old 20 4 }).bytes)

/-! ## Partitions and contexts -/

/-- 13_partitions.md R469-R473, R489-R494, R496-R498: an accepted PART_CORE COMMIT resets and wipes the cores that change
partition; grants, releases and zero-fills move segments; an eviction becomes pending, and ends when its cores have halted or at
its deadline. Where the rules leave a point open the statement holds the model's reading, log 118. -/
def Obligations.PartitionsGrantsAndEvictions : Prop :=
  ∀ (path : Path) (s : State),
    let pg := Page.part
    let staged (off : Nat) : Word := s.stagedWord pg off
    (s.commitsOne path pg 0 → ∃ t, exec (.partCoreCommit path) s = .next t ∧ t.committedOne pg 0 ∧
      ∀ c : CoreId, t.member c = Member.of (staged (0x040 + 4 * c.1)) ∧
        ((t.member c).partition = (s.member c).partition → t.core c = s.core c) ∧
        ((t.member c).partition ≠ (s.member c).partition → (t.core c).wiping = true ∧ (t.core c).st = .stopped ∧
          (t.core c).cmem = [] ∧ (t.core c).imem = [] ∧ (t.core c).owner = none ∧ t.resets.core.getLsbD c.1 = true)) ∧
    (∀ c : CoreId, s.canonical = true → (s.core c).wiping = true → ∃ t, exec (.coreWipeDone c) s = .next t ∧
      t.core c = { s.core c with wiping := false } ∧ t.resets.core.getLsbD c.1 = false ∧
      t.flag (Page.core c.1) PAGE_STATUS_READY = true ∧ t.flag (Page.cmem c.1) PAGE_STATUS_READY = true ∧
      ∀ d, d ≠ c → t.core d = s.core d) ∧
    (s.commitsOne path pg 1 →
      let g := GrantReq.of (staged 0x050)
      (g.release = false → ∃ t, exec (.grant path) s = .next t ∧ t.committedOne pg 1 ∧ t.xmem = s.xmem ∧ ∀ x, x < 128 →
        if x ∈ g.segs then t.segState x = 1 ∧ t.getI pg x PART_SEG_INFO_PART = g.part ∧ t.segZeroing x = false
        else t.segState x = s.segState x) ∧
      (g.release = true → ∃ t, exec (.release path) s = .next t ∧ t.committedOne pg 1 ∧ t.xmem = s.xmem ∧ ∀ x, x < 128 →
        t.segState x = s.segState x ∧ t.segZeroing x = (s.segZeroing x || decide (x ∈ g.segs)))) ∧
    (∀ seg : Fin 128, s.canonical = true → s.segZeroing seg.1 = true → ∃ t, exec (.zeroFillDone seg) s = .next t ∧
      t.segState seg.1 = 0 ∧ t.segZeroing seg.1 = false ∧
      ∀ a, t.xmem.byte a = if a / segBytes = seg.1 then 0 else s.xmem.byte a) ∧
    (s.commitsOne path pg 2 →
      let r := EvictReq.ofWords staged
      let e : Evict := ⟨BitVec.ofNat 4 r.cores, r.epoch, if r.deadline = 0 then 100 else r.deadline, r.save, false⟩
      ∃ t, exec (.evictCommit path) s = .next t ∧ t.committedOne pg 2 ∧ t.get pg PART_EVICT_STATUS_BUSY = 1 ∧
        (s.epochNo < r.epoch → t.evict = some e ∧ t.cores = s.cores) ∧
        (r.epoch ≤ s.epochNo → t.evict = some { e with pending := true } ∧
          ∀ c ∈ coresOf r.cores, (s.core c).idle = false → t.core c = { s.core c with evict := true })) ∧
    (∀ e, s.plainDram → s.evict = some e → e.pending = true →
      let named := coresOf e.cores.toNat
      let forced := named.filter fun c => !(s.core c).idle
      let ended (t : State) (st : Status) : Prop := t.evict = none ∧ t.get pg PART_EVICT_STATUS_BUSY = 0 ∧
        t.get pg PART_EVICT_STATUS_STATUS = st.code ∧ (∀ c ∈ named, (t.core c).evict = false) ∧
        t.get pg PART_EVICT_STATUS_FORCED = ((forced.map fun c => 2 ^ c.1).sum)
      (forced = [] → ∃ t, exec .evictDone s = .next t ∧ ended t .ok ∧
        ∀ c, named = [c] → t.dram.read e.save 16384 = laneImage (s.core c).lanes) ∧
      (forced ≠ [] → ∃ t, exec .evictForced s = .next t ∧ ended t .timeout ∧
        ∀ c ∈ forced, (t.core c).st = .stopped ∧ t.resets.core.getLsbD c.1 = true))

/-- 04_contract.md R121; 06_tiers.md R194, R195; 13_partitions.md R475-R487, R499: accepted bindings and queues, the two
doorbells, the fetch of a submission and what each of its commands does. Where the rules leave a point open the statement holds
the model's reading, logs 67, 109 and 118. -/
def Obligations.ContextsTakeCommands : Prop :=
  ∀ (path : Path) (n : CtxId) (s : State),
    let pg := Page.ctx n.1
    let q := s.ctx n
    (s.commitsOne path pg 0 → ∃ t, exec (.ctxBindCommit path n) s = .next t ∧ t.committedOne pg 0 ∧
      t.binding n = Binding.of (fun off => s.stagedWord pg off) ∧ t.ctxs = s.ctxs ∧
      ((t.binding n).valid = false → t.get pg CTX_QCTRL_ENABLE = 0)) ∧
    (s.commitsOne path pg 1 → q.held = [] → q.kept = [] → ∃ t, exec (.ctxQueueCommit path n) s = .next t ∧ t.committedOne pg 1 ∧
      t.sqDepth n = 0 ∧ t.cqDepth n = 0 ∧ (t.ctx n).phase = true ∧ (t.ctx n).cmds = q.cmds ∧
      ∀ f ∈ [CTX_SQ_ADDR.nth 0, CTX_SQ_ADDR.nth 1, CTX_CQ_ADDR.nth 0, CTX_CQ_ADDR.nth 1, CTX_QCTRL_ENABLE],
        t.get pg f = f.of (s.stagedWord pg f.off)) ∧
    (s.canonical = true → ∀ x : BitVec 9,
      let bad (t : State) : Prop := t.get pg CTX_ERR_DB_BAD = min (s.get pg CTX_ERR_DB_BAD + 1) 255 ∧
        t.sqDepth n = s.sqDepth n ∧ t.cqDepth n = s.cqDepth n ∧ t.ctxs = s.ctxs
      (s.takesWrite path pg CTX_SQ_DB_TAIL.off →
        let d := qDepth (s.get pg CTX_SQ_STATE_HEAD) x.toNat
        ∃ t, exec (.sqDoorbell path n x) s = .next t ∧
          if s.sqDepth n ≤ d ∧ d ≤ 256 then t.get pg CTX_SQ_STATE_TAIL = x.toNat ∧ t.ctxs = s.ctxs else bad t) ∧
      (s.takesWrite path pg CTX_CQ_DB_HEAD.off → q.held = [] → q.kept = [] →
        ∃ t, exec (.cqDoorbell path n x) s = .next t ∧
          if qDepth (s.get pg CTX_CQ_STATE_HEAD) x.toNat ≤ s.cqDepth n then
            t.get pg CTX_CQ_STATE_HEAD = x.toNat ∧ t.ctxs = s.ctxs
          else bad t)) ∧
    (s.plainDram → s.inReset pg = false → s.powerStopped = false →
      (q.cmds = [] → s.ctxEnabled n = true → q.flr = false → 0 < s.sqDepth n → s.cqDepth n < 256 →
        let head := s.get pg CTX_SQ_STATE_HEAD
        let raw := s.hostRead (s.pair pg 0 (CTX_SQ_ADDR.nth 0) (CTX_SQ_ADDR.nth 1) + 64 * (head % 256)) 64
        1 ≤ field raw 0 1 → field raw 0 1 ≤ 5 → ∃ t, exec (.sqFetch n) s = .next t ∧
          t.get pg CTX_SQ_STATE_HEAD = (head + 1) % 512 ∧
          t.ctx n = { q with cmds := [⟨BitVec.ofNat 9 head, raw, false, none⟩] }) ∧
      (∀ k : Cmd, q.cmds = [k] → k.begun = false → (s.binding n).valid = true →
        let works (t : State) : Prop := t.ctx n = { q with cmds := [{ k with begun := true, result := none }] }
        let ended (t : State) : Prop := (t.ctx n).cmds = []
        (∀ c : CoreId, k.code = 1 → field k.raw 8 1 = c.1 →
          let blk := field k.raw 9 1
          let cnt := field k.raw 10 1
          s.cmdCheck n (!(s.binding n).cores.testBit c.1 || decide (cnt = 0 ∨ 32 < cnt ∨ 32 < blk + cnt)) [c] = .ok →
          ∃ t, exec (.loadImem n) s = .next t ∧ ended t ∧
            t.readMem (.imem c) (8192 * blk) (8192 * cnt) = s.hostRead (field k.raw 16 8) (8192 * cnt) ∧
            (t.core c).imemOk = (s.core c).imemOk ||| (BitVec.ofNat 32 (2 ^ cnt - 1) <<< blk)) ∧
        (∀ c : CoreId, k.code = 2 → field k.raw 8 1 = 2 ^ c.1 → (field k.raw 9 1).testBit 0 = false →
          s.cmdCheck n (!(s.binding n).cores.testBit c.1 || decide (2047 < field k.raw 10 2)) [c] = .ok →
          s.flag (Page.core c.1) CORE_CTRL_HALT_REQ = false → ∃ t, exec (.start n) s = .next t ∧ ended t ∧
            (t.core c).st = .running ∧ (t.core c).pc = BitVec.ofNat 11 (field k.raw 10 2) ∧ (t.core c).cyc = 0 ∧
            (t.core c).start = s.frameCclk ∧
            (t.core c).rs 0 = BitVec.ofNat 64 (field k.raw 16 8) ∧ (t.core c).owner = some n ∧
            (t.core c).cmem = (s.core c).cmem ∧ ∀ d, d ≠ c → t.core d = s.core d) ∧
        (k.code = 3 →
          let d := Desc.new (s.hostRead (field k.raw 16 8) 64) none (some n) k.idx none 0 (BitVec.ofNat 12 (s.binding n).part)
            s.weave.wt
          (field k.raw 8 1 = 0 → s.tier.queues[4].length + (s.tier.hold.filter fun x => x.queue == 4).length < 64 →
            s.inReset Page.tier = false → ∃ t, exec (.engine n) s = .next t ∧ works t ∧
              t.tier.queues[4] = s.tier.queues[4] ++ [d]) ∧
          (field k.raw 8 1 = 2 → (s.pressQ 4).length < 16 → s.inReset Page.press = false →
            ∃ t, exec (.engine n) s = .next t ∧ works t ∧ t.pressQ 4 = s.pressQ 4 ++ [d])) ∧
        (∀ i : Fin 16, k.code = 4 → s.inReset Page.patch = false → field k.raw 8 1 = i.1 → (s.instInfo i.1).valid = true →
          (s.instInfo i.1).ctx = n.1 → field k.raw 16 8 = (s.serve i).posted → (s.serve i).posted ≤ s.latchedAll i →
          ∃ t, exec (.batch n) s = .next t ∧ ended t ∧
            t.serve i = { s.serve i with posted := (s.serve i).posted + 1 }) ∧
        (k.code = 5 → field k.raw 8 1 ≤ 1 → field k.raw 12 4 % 64 = 0 → field k.raw 12 4 ≤ 2 ^ 30 →
          let addr := field k.raw 24 8
          let stop := addr + field k.raw 12 4
          (inWindows (s.binding n).wins addr (field k.raw 12 4) = true → stop ≤ dramGeneral →
            ∃ t, exec (.copy n) s = .next t ∧ works t ∧ t.dram = s.dram ∧ t.host = s.host) ∧
          (field k.raw 8 1 = 0 → addr < dramBytes → dramGeneral < stop → 0 < field k.raw 12 4 →
            ∃ t, exec (.copy n) s = .next t ∧ ended t ∧ t.dram = s.dram))) ∧
      (∀ (k : Cmd) (link : LinkRead), q.cmds = [k] → k.works = true → k.code = 5 →
        let len := field k.raw 12 4
        let host := field k.raw 16 8
        let addr := field k.raw 24 8
        ∃ t, exec (.copyDone n link) s = .next t ∧ (t.ctx n).cmds = [] ∧
          (field k.raw 8 1 = 0 → t.dram.read addr len = s.hostRead host len) ∧
          (field k.raw 8 1 ≠ 0 → s.ctxEnabled n = false → t.dram = s.dram ∧
            (link ≠ .failed → t.host.read host len = s.dram.read addr len) ∧ (link = .failed → t.host = s.host))))

/-! ## Clocks, power and temperature -/

/-- 04_contract.md R152, R153; 15_clocks_power.md R542-R553, R555-R559, R570, R571: gear commands from the page and from the
fabric, the decision at a boundary, the pause and the restart; the cap; voltage steps, droop, and loss of the reference. Where
the rules leave a point open the statement holds the model's reading, logs 50, 52 and 120. -/
def Obligations.GearsCapsAndVoltages : Prop :=
  ∀ (path : Path) (c : CoreId) (b : Bool) (lock cycles : Nat) (s : State), s.canonical = true →
    let pk := Page.clk
    let pw := Page.pwr
    let up (t : State) (page : Nat) (f : Fld) (n : Nat) : Prop := t.get page f = min (s.get page f + n) (2 ^ f.width - 1)
    (s.commitsOne path pk 0 →
      let e := CLK_GEAR_E_LO_E.of (s.stagedWord pk 0x048) + 2 ^ 32 * CLK_GEAR_E_HI_E.of (s.stagedWord pk 0x04C)
      ∃ t, exec (.clkGearCommit path) s = .next t ∧ t.committedOne pk 0 ∧ t.gearPending = true ∧
        t.get pk CLK_GEAR_PEND_GEAR = CLK_GEAR_GEAR.of (s.stagedWord pk 0x044) ∧ t.clock.pendE = max e s.nextMeet ∧
        t.gear = s.gear ∧ t.cores = s.cores) ∧
    (∀ payload : List Byte, s.inReset pk = false →
      let g := field payload 0 1
      let cap := field payload 2 1
      (g ≤ 4 → (cap = 0 ∨ (60 ≤ cap ∧ cap ≤ 150)) → ∃ t, exec (.gear 0 payload) s = .next t ∧ t.gearPending = true ∧
        t.get pk CLK_GEAR_PEND_GEAR = g ∧ t.clock.pendE = max (field payload 8 8) s.nextMeet ∧ t.get pk CLK_GEAR_GEAR = g ∧
        t.get pw PWR_CAP_CAP = (if cap = 0 then s.get pw PWR_CAP_CAP else cap)) ∧
      (4 < g → exec (.gear 0 payload) s = .next (s.raise pk Ev.GEAR_BAD))) ∧
    (let n := s.epochNo + 1
     let u := (s.passTicks (decideOffset - s.epochOffset)).takeLimits n
     let use := u.gearPending && decide (u.clock.pendE ≤ n)
     let req := if use then u.get pk CLK_GEAR_PEND_GEAR else u.clock.reqGear
     let new := u.wantGear req
     s.inReset pk = false → s.clock.paused = false → s.clock.decided < n →
     ∃ t, exec (.gearPause b) s = .next t ∧ t.clock.decided = n ∧ t.gear = u.gear ∧
       (new = u.gear → t.clock.paused = false ∧ t.clock.reqGear = req ∧ (use = true → t.gearPending = false)) ∧
       (new ≠ u.gear → (u.gear < new ∨ b = true) →
         t.clock.paused = true ∧ t.clock.nextGear = new ∧ t.flag pk CLK_STATUS_LOCKED = false ∧ t.clock.reqGear = req) ∧
       (new < u.gear → b = false → t.clock.paused = false ∧ t.gearPending = u.gearPending)) ∧
    (s.clock.paused = true → s.clock.failQueued = false → s.resets.queued = [] → s.clock.nextGear ≤ 4 →
      ∃ t, exec (.gearRestart lock) s = .next t ∧ t.clock.paused = false ∧ t.gear = s.clock.nextGear ∧
        t.flag pk CLK_STATUS_LOCKED = true ∧ up t pk CLK_CHANGES_COUNT 1) ∧
    (s.commitsOne path pw 0 →
      let cap := PWR_CAP_CAP.of (s.stagedWord pw 0x040)
      ∃ t, exec (.pwrCapCommit path) s = .next t ∧ t.committedOne pw 0 ∧ t.get pw PWR_CAP_CAP = cap ∧
        if s.get pw PWR_CAP_CAP ≤ cap ∨ s.lastPower ≤ 10 * cap then
          t.get pw PWR_CAP_IN_FORCE_CAP = cap ∧ t.clock.capDec = none
        else
          t.get pw PWR_CAP_IN_FORCE_CAP = s.get pw PWR_CAP_IN_FORCE_CAP ∧ t.clock.capDec.map (·.2) = some s.nextMeet) ∧
    (s.inReset pw = false →
      let byte (t : State) (d : CoreId) : Nat := bits (t.get pw PWR_AVS_VOLT) (8 * d.1 + 7) (8 * d.1)
      (∃ t, exec (.avsStep c b) s = .next t ∧ t.cores = s.cores ∧
        byte t c = (if b then min 170 (byte s c + 1) else max 110 (byte s c - 1)) ∧ ∀ d, d ≠ c → byte t d = byte s d) ∧
      (byte s c = 170 → ∃ t, exec (.avsLimit c) s = .next t ∧ t.clock = { s.clock with voltNext := some (min 4 (s.clock.voltGear + 1)), voltRun := 0 }) ∧
      (s.clock.stretched = false → s.clock.paused = false → ∃ t, exec .droop s = .next t ∧
        t.clock = { s.clock with stretched := true } ∧ up t pw PWR_STRETCH_CNT_COUNT 1 ∧ t.cores = s.cores)) ∧
    (s.clock.stretched = true →
      let add := 16 * max 64 cycles / (32 - 4 * s.gear)
      ∃ t, exec (.stretchEnd cycles) s = .next t ∧ t.clock = { s.clock with stretched := false } ∧
        up t pw PWR_STRETCH_TIME_TIME add ∧ ∀ d : CoreId, up t (Page.core d.1) CORE_STRETCH_TIME_TIME add ∧
          up t (Page.core d.1) CORE_STRETCH_CNT_COUNT (max 64 cycles / 4)) ∧
    (s.resets.cold = false → ∀ i ∈ [(Instr.refclkLoss, true), (.refclkReturn, false)], s.pins.refclk = i.2 →
      ∃ t, exec i.1 s = .next t ∧ t.pins = { s.pins with refclk := !i.2 } ∧ t.flag pk CLK_STATUS_REF_HOLD = i.2 ∧
        t.aligned = false ∧ t.flag Page.weave WEAVE_CTRL_MASTER = false ∧ t.port 0 = s.port 0 ∧ t.port 1 = s.port 1 ∧
        ∀ p : PortId, 2 ≤ p.1 → (s.port p).st = .active → (t.port p).st = .train)

/-- 15_clocks_power.md R561-R569, R571, R572; 19_signals.md R671: temperature samples with a thermal trip, and the power-fail
sequence from its start to a return of the supply. Where the rules leave a point open the statement holds the model's reading,
logs 40 and 51. -/
def Obligations.TemperatureAndPowerFail : Prop :=
  ∀ (path : Path) (us : BitVec 16) (linted : Bool) (s : State), s.canonical = true →
    let pt := Page.therm
    let pw := Page.pwr
    let step := s.get pw PWR_FAIL_STEP
    let ready := step = 0 ∧ s.clock.failQueued = false ∧ s.clock.paused = false
    let begun (t : State) : Prop := t.get pw PWR_FAIL_STEP = 1 ∧ t.gearPending = false ∧
      ∀ c : CoreId, (t.core c).st ≠ .running ∧ (t.core c).st ≠ .waiting
    (∀ (readings : List Int) (trimBad : List Bool),
      let r (i : Nat) : Int := readings.getD i 0
      s.inReset pt = false → (∀ i, i < 24 → -160 ≤ r i ∧ r i ≤ 600 ∧ trimBad.getD i false = false) →
      ∃ t, exec (.thermalSample readings trimBad) s = .next t ∧ t.get pt THERM_STATE_EXCLUDED = 0 ∧
        (∀ i, i < 24 → signed11 (t.get pt (THERM_SENS_TEMP.nth i)) = r i) ∧
        (∃ h, h < 24 ∧ t.get pt THERM_MAX_SENSOR = h ∧ signed11 (t.get pt THERM_MAX_TEMP) = r h ∧ ∀ i, i < 24 → r i ≤ r h) ∧
        ((∀ i, i < 24 → r i < 420) → t.cores = s.cores ∧ t.pins = s.pins) ∧
        ((∃ i, i < 24 ∧ 420 ≤ r i) → s.pins.thermtrip = false → ready → t.pins.thermtrip = true ∧ begun t)) ∧
    (s.resets.cold = false →
      (ready → (∃ t, exec .pwrfail s = .next t ∧ begun t ∧ t.pins.pwrfailLow = true) ∧
        ∃ t, exec .railLow s = .next t ∧ begun t ∧ t.pins = s.pins) ∧
      (step = 0 → s.clock.failQueued = false → s.clock.paused = true →
        exec .railLow s = .next { s with clock := { s.clock with failQueued := true } })) ∧
    (step ≠ 0 → step ≠ 5 → s.clock.perstQueued = false → ∃ t, exec (.powerFailSequenceDone us linted) s = .next t ∧
      t.get pw PWR_FAIL_STEP = 5 ∧ t.get pw PWR_FAIL_LAST_US = us.toNat) ∧
    (s.pins.pwrfailLow = true → step ≠ 0 → ∃ t, exec .pwrfailNReturn s = .next t ∧ t.pins = { s.pins with pwrfailLow := false } ∧
      t.get pw PWR_FAIL_RETURNED = 1 ∧ t.cores = s.cores ∧
      t.get pw PWR_FAIL_LAST_STEP = if s.flag pw PWR_FAIL_RETURNED then s.get pw PWR_FAIL_LAST_STEP else step) ∧
    (step = 5 → s.flag pw PWR_FAIL_RETURNED = true → s.pins.pwrfailLow = false →
      ∃ t, exec .powerReturnDuringShutdown s = .next t ∧ t.resets.warm = true ∧ t.weave.wt = 0 ∧ t.xmem = [] ∧
        ∀ c : CoreId, (t.core c).st = .stopped) ∧
    (s.takesWrite path pw PWR_CTRL_PEAK_CLR.off → ∃ t, exec (.pwrPeakClr path) s = .next t ∧ t.get pw PWR_PEAK_DECIW = 0 ∧
      t.get pw PWR_MEAS_DECIW = s.get pw PWR_MEAS_DECIW) ∧
    (s.takesWrite path pt THERM_CTRL_PEAK_CLR.off → ∃ t, exec (.thermPeakClr path) s = .next t ∧ t.get pt THERM_PEAK_TEMP = 0 ∧
      t.get pt THERM_MAX_TEMP = s.get pt THERM_MAX_TEMP)

/-! ## Resets and firmware -/

/-- 16_reset.md R575-R581, R587, R591-R596; 14_pages.md R531; 15_clocks_power.md R678: entering and leaving each reset domain,
cold reset, PERST_N, trial images, the tier controller's firmware swap, and the number of the chip. Where the rules leave a
point open the statement holds the model's reading, logs 33 and 69. -/
def Obligations.ResetsAndFirmware : Prop :=
  ∀ (path : Path) (env : BootEnv) (image : List Byte) (s : State), s.canonical = true →
    let free (domain mask : Nat) : Prop := s.resets.cold = false ∧ s.clock.paused = false ∧ s.resetBusy domain mask = false
    let step := s.get Page.pwr PWR_FAIL_STEP
    (free 1 0 → ∃ t, exec .warmReset s = .next t ∧ t.resets.warm = true ∧ t.xmem = [] ∧ t.dram = s.dram ∧ t.nor = s.nor ∧
      t.weave.wt = 0 ∧ ∀ c : CoreId, (t.core c).st = .stopped ∧ (t.core c).cmem = []) ∧
    (∀ mask : BitVec 4, mask ≠ 0 → free 2 mask.toNat → ∃ t, exec (.coreReset mask) s = .next t ∧
      t.resets.core = s.resets.core ||| mask ∧ t.dram = s.dram ∧
      (∀ c : CoreId, mask.getLsbD c.1 = true → (t.core c).st = .stopped ∧ (t.core c).pc = 0 ∧ (t.core c).cyc = 0 ∧
        (t.core c).s = Vector.replicate 64 0 ∧ (t.core c).p = 0 ∧ t.inReset (Page.core c.1) = true) ∧
      (s.mangle.colls = [] → ∀ c : CoreId,
        if mask.getLsbD c.1 then (t.core c).cmem = (s.core c).cmem ∧ (t.core c).imem = (s.core c).imem
        else t.core c = s.core c)) ∧
    (∀ mask : BitVec 12, mask ≠ 0 → free 3 mask.toNat → ∃ t, exec (.portReset mask) s = .next t ∧
      t.resets.port = s.resets.port ||| mask ∧
      ∀ p : PortId, mask.getLsbD p.1 = true → (t.port p).st = .down ∧ (mask.toNat = 2 ^ p.1 → t.port p = Port.reset)) ∧
    (free 4 0 → ∃ t, exec .tierReset s = .next t ∧ t.resets.tier = true ∧ t.tier.queues = Vector.replicate 5 [] ∧
      t.dram = s.dram) ∧
    (free 5 0 → ∃ t, exec .mgmtCoreReset s = .next t ∧ t.resets.mgmt = true ∧ t.flag Page.chip CHIP_STATUS_MGMT_UP = false ∧
      t.ecc.watch = [] ∧ t.cores = s.cores ∧ t.dram = s.dram) ∧
    (free 6 0 → ∃ t, exec .mangleReset s = .next t ∧ t.resets.mangle = true ∧ t.mangle = ⟨[], [], [], []⟩ ∧ t.dram = s.dram) ∧
    (s.resets.reply = none →
      (s.resets.warm = true → ∃ t, exec (.resetExit 1) s = .next t ∧ t.resets.warm = false) ∧
      (s.resets.tier = true → ∃ t, exec (.resetExit 4) s = .next t ∧ t.resets.tier = false ∧
        ∀ p ∈ [Page.dram, Page.shelf, Page.tier], t.flag p PAGE_STATUS_READY = true) ∧
      (s.resets.mangle = true → ∃ t, exec (.resetExit 6) s = .next t ∧ t.resets.mangle = false ∧
        t.flag Page.mangle PAGE_STATUS_READY = true)) ∧
    (s.onTrial = true →
      (∃ t, exec .trialWatchdog s = .next t ∧ t.resets.mgmt = true ∧ t.cores = s.cores) ∧
      ∃ t, exec .trialConfirm s = .next t ∧ t.get Page.mgmt MGMT_FW_TRIAL = 0 ∧
        t.nor.byte (imageBase (s.get Page.mgmt MGMT_FW_IMAGE) + 112) norFill = 0) ∧
    (s.inReset Page.tier = false → s.tier.swapping = false → step = 0 →
      exec (.tierSwapRequest image) s = .next
        (if imageValid tierMagic (image.length - 256) image (fun n => slice image 256 n) then
          { s with tier := { s.tier with swapping := true } }
        else s)) ∧
    (s.tier.swapping = true → ∀ c ∈ [Instr.fwSwap, .swapRevert], ∃ t, exec c s = .next t ∧ t.tier.swapping = false ∧
      t.tier.hold = [] ∧ t.cores = s.cores ∧ (∀ d ∈ s.tier.hold, d ∈ t.tier.queues[d.queue]) ∧
      ∀ q : Fin 5, ∀ d ∈ s.tier.queues[q], d ∈ t.tier.queues[q]) ∧
    (s.resets.cold = true ∨ s.ecc.boots = 0 → (∀ b ∈ env.bankFail, b < 512) → ∃ t, exec (.coldReset env) s = .next t ∧
      t.pins.perstLow = false ∧ t.cores = State.reset.cores ∧ t.tier.shelf = s.tier.shelf ∧
      if env.refclk then t.resets.cold = false ∧ t.flag Page.clk CLK_STATUS_LOCKED = true ∧ t.ecc.boots = s.ecc.boots + 1
      else t.resets.cold = true ∧ t.pins.bootAlert = true) ∧
    (s.resets.cold = false →
      (step = 0 ∨ step = 5 → ∃ t, exec .perstNAssert s = .next t ∧ t.resets.cold = true ∧ t.pins.perstLow = true ∧
        t.cores = State.reset.cores ∧ t.nor = s.nor ∧ t.tier.shelf = s.tier.shelf) ∧
      (0 < step → step < 5 →
        exec .perstNAssert s = .next { s with clock := { s.clock with perstQueued := true } })) ∧
    (s.commitsOne path Page.chip 0 → ∃ t, exec (.chipPcnCommit path) s = .next t ∧ t.committedOne Page.chip 0 ∧
      t.get Page.chip CHIP_PCN_PCN = CHIP_PCN_PCN.of (s.stagedWord Page.chip 0x04C) ∧
      t.get Page.chip CHIP_PCN_VALID = CHIP_PCN_VALID.of (s.stagedWord Page.chip 0x04C) ∧ t.ports = s.ports)

/-! ## Lint -/

/-- 17_lint.md R599-R603, R607, R611, R614-R618, R621, R624-R627, R629: what the arbiter does with the event it takes; the
mirror from its trigger to its end; reading, clearing, LASTGASP and the trigger table. Where the rules leave a point open the
statement holds the model's reading, logs 31 and 75. -/
def Obligations.LintRecordsMirrorsAndClears : Prop :=
  ∀ (path : Path) (page : BitVec 12) (x : Event) (r : List Event) (val : Word) (st : Status) (unread : List Nat) (s : State), s.canonical = true →
    let pl := Page.lint
    let latest := s.lint.latest
    let rest (t : State) : Prop := assocGet t.lint.bufs page.toNat = if r = [] then none else some r
    let up (t : State) (f : Fld) : Prop := t.get pl f = min (s.get pl f + 1) (2 ^ f.width - 1)
    (assocGet s.lint.bufs page.toNat = some (x :: r) →
      (s.degraded = true → x.sev < 4 → ∃ t, exec (.lintAccept page []) s = .next t ∧ rest t ∧ up t LINT_DROPPED_COUNT ∧
        t.lint.slots = s.lint.slots ∧ t.lint.ring = s.lint.ring) ∧
      (s.degraded = false ∨ 4 ≤ x.sev →
        (∀ a y, latest = some (a, y) → y.event = x.id → y.sev = x.sev → y.origin = x.origin →
          ∃ t, exec (.lintAccept page []) s = .next t ∧ rest t ∧ t.regs = s.regs ∧
            t.lint.slots = (s.lint.putRec a (y.again s.weave.wt)).slots ∧
            t.lint.ring = (s.lint.putRec a (y.again s.weave.wt)).ring) ∧
        ((∀ a y, latest = some (a, y) → ¬ (y.event = x.id ∧ y.sev = x.sev ∧ y.origin = x.origin)) →
          s.flag pl LINT_MODE_SEQ_EXHAUSTED = false → s.lintSeq + 1 < 2 ^ 48 - 1 →
          ∃ t, exec (.lintAccept page []) s = .next t ∧ rest t ∧ t.lintSeq = s.lintSeq + 1 ∧
            (s.lintPlace x.sev = none → up t LINT_DROPPED_COUNT ∧ t.lint.slots = s.lint.slots ∧ t.lint.ring = s.lint.ring) ∧
            ∀ k, s.lintPlace x.sev = some (.slot k) → ∃ y, assocGet t.lint.slots k = some y ∧ y.seq.toNat = s.lintSeq + 1 ∧
              y.event = x.id ∧ y.sev = x.sev ∧ y.origin = x.origin ∧ y.args = x.args.take 8 ∧ y.rep = 0 ∧
              y.tFirst = s.weave.wt ∧ y.tLast = s.weave.wt ∧
              ∀ j, j ≠ k → assocGet t.lint.slots j = assocGet s.lint.slots j))) ∧
    (s.resets.cold = false → s.flag pl LINT_CTRL_MIRROR_EN = true →
      (s.flag pl LINT_MODE_MIRROR_BUSY = true →
        exec (.lintMirror []) s = .next { s with lint := { s.lint with again := true } }) ∧
      (s.flag pl LINT_MODE_MIRROR_BUSY = false → s.shelfRo = false →
        (s.inReset Page.tier = true → ∃ t, exec (.lintMirror []) s = .next t ∧
          t.get pl LINT_MIRROR_STATUS_STATUS = Status.resetNack.code ∧ t.flag pl LINT_MODE_MIRROR_BUSY = false) ∧
        (s.inReset Page.tier = false → s.flag Page.shelf PAGE_STATUS_READY = true →
          ∃ t, exec (.lintMirror []) s = .next t ∧ t.flag pl LINT_MODE_MIRROR_BUSY = true ∧ t.lint = s.lint ∧
            ∀ i, i < 64 → (assocGet t.tier.shelf (imageBlock s.lint.image (i + 1))).map (·.data) = some (s.lint.tile i)))) ∧
    (s.flag pl LINT_MODE_MIRROR_BUSY = true → s.lint.clear = none → s.lint.again = false → s.lint.image < 64 →
      (∃ t, exec (.lintMirrorEnd none) s = .next t ∧ t.flag pl LINT_MODE_MIRROR_BUSY = false ∧
        t.get pl LINT_MIRROR_STATUS_STATUS = Status.ok.code ∧ t.get pl LINT_MIRROR_STATUS_IMAGE = s.lint.image ∧
        up t LINT_MIRRORS_COUNT ∧ t.lint.image = (s.lint.image + 1) % 64) ∧
      ∃ t, exec (.lintMirrorEnd (some st)) s = .next t ∧ t.flag pl LINT_MODE_MIRROR_BUSY = false ∧
        t.get pl LINT_MIRROR_STATUS_STATUS = st.code ∧ t.get pl LINT_MIRROR_STATUS_IMAGE = s.lint.image ∧
        t.lint.image = s.lint.image) ∧
    (s.lint.shelfOk = false → s.inReset Page.shelf = false → s.flag Page.shelf PAGE_STATUS_READY = true →
      ∃ t, exec (.lintShelfReady unread) s = .next t ∧ t.lint.shelfOk = true ∧ t.lint.slots = s.lint.slots ∧
        ((State.newestImage unread 64 s).1 = none → t.lint.boot = 1 ∧ t.lint.image = 0) ∧
        ∀ h, (State.newestImage unread 64 s).1 = some h → t.lint.boot = h.1 + 1 ∧ t.lint.image = (h.2.2.2 + 1) % 64) ∧
    (s.takesWrite path pl LINT_RD_SEL_SLOT.off → LINT_RD_SEL_RING.of val = 0 →
      let k := LINT_RD_SEL_SLOT.of val
      let b := match assocGet s.lint.slots k with
        | some y => y.bytes
        | none => List.replicate 64 0
      s.lint.bad.contains k = false → ∃ t, exec (.lintRdSelWrite path val false) s = .next t ∧ t.lint = s.lint ∧
        t.getI pl path.code LINT_RD_STATUS_STATUS = Status.ok.code ∧
        ∀ n, n < 16 → t.getI pl path.code (LINT_RD_DATA_DATA.nth n) = field b (4 * n) 4) ∧
    (s.takesWrite path pl LINT_CLEAR_REQ.off →
      let upto := s.pair pl 0 LINT_CLEAR_UPTO_LO_SEQ LINT_CLEAR_UPTO_HI_SEQ
      (s.flag Page.access ACCESS_STATE_CLEAR_AUTH = false → ∃ t, exec (.lintClear path) s = .next t ∧
        t.get pl LINT_CLEAR_STATUS_STATUS = Status.authFail.code ∧ t.lint.slots = s.lint.slots ∧ t.lint.ring = s.lint.ring) ∧
      (s.flag Page.access ACCESS_STATE_CLEAR_AUTH = true →
        (s.flag pl LINT_MODE_MIRROR_BUSY = true → ∃ t, exec (.lintClear path) s = .next t ∧
          t.lint = { s.lint with clear := some (path, BitVec.ofNat 48 upto) }) ∧
        (s.flag pl LINT_MODE_MIRROR_BUSY = false → s.flag pl LINT_MODE_SEQ_EXHAUSTED = false → s.lintSeq + 1 < 2 ^ 48 - 1 →
          ∃ t, exec (.lintClear path) s = .next t ∧ t.get pl LINT_CLEAR_STATUS_STATUS = Status.ok.code ∧
            t.get pl LINT_DROPPED_COUNT = 0 ∧ t.get pl LINT_FILTERED_COUNT = 0 ∧ t.lintSeq = s.lintSeq + 1 ∧
            ∀ e ∈ t.lint.held, upto < e.2.seq.toNat ∨ e.2.seq.toNat = s.lintSeq + 1))) ∧
    (s.takesWrite path pl LINT_LASTGASP_ACK.off → ∃ t, exec (.lastgaspAck path) s = .next t ∧
      t.get pl LINT_LASTGASP_CODE = 0 ∧ t.get pl LINT_LASTGASP_SLOT = s.get pl LINT_LASTGASP_SLOT ∧ t.lint = s.lint) ∧
    (s.commitsOne path Page.lintsnap 0 →
      let e := s.get Page.lintsnap LINTSNAP_SEL_ENTRY
      ∃ t, exec (.lintsnapCommit path) s = .next t ∧ t.committedOne Page.lintsnap 0 ∧ t.lint = s.lint ∧
        ∀ f ∈ [LINTSNAP_MATCH_EVENT, LINTSNAP_MATCH_PAGE_ONLY, LINTSNAP_MATCH_NREG, LINTSNAP_MATCH_VALID, LINTSNAP_REG_PAGE,
            LINTSNAP_REG_WORD],
          t.getI Page.lintsnap e f = f.of (s.stagedWord Page.lintsnap f.off))

/-! ## Management -/

/-- 18_access.md R632-R639; 16_reset.md R579, R582: what each operation of the management path does and answers, a request that
meets a reset, SMBus held low, and QUIESCE_N. Where the rules leave a point open the statement holds the model's reading, logs
71 and 72. -/
def Obligations.ManagementOperationsAnswer : Prop :=
  ∀ (tag : Byte) (page off : BitVec 16) (count image core space domain : Byte) (ioff w : Word) (moff : Dword) (data : List Word)
    (bs : List Byte) (s : State), s.canonical = true →
    let pm := Page.mgmt
    let answers (t : State) (op : Nat) (st : Status) (d : List Byte) : Prop :=
      t.mgmt.reply = leBytes 1 (op + 0x80) ++ [tag] ++ leBytes 1 st.code ++ [0] ++ d
    let img := image.toNat
    let base := norBase img + ioff.toNat
    (s.resets.cold = false → (s.resets.warm = true ∨ s.resets.mgmt = true) →
      ∀ c ∈ [(Instr.read tag page off count, 1), (.write tag page off count data, 2), (.reset tag domain w, 3),
          (.imgErase tag image, 4), (.imgWrite tag image ioff bs, 5), (.imgRead tag image ioff count, 6),
          (.memRead tag core space moff count, 7)],
        ∃ t, exec c.1 s = .next t ∧ answers t c.2 .resetNack [] ∧ t.cores = s.cores ∧ t.nor = s.nor) ∧
    (s.resets.cold = false → s.resets.warm = false → s.resets.mgmt = false → s.flag Page.chip CHIP_STATUS_MGMT_UP = true →
      (wordsBad page.toNat off.toNat count.toNat = true →
        ∀ c ∈ [(Instr.read tag page off count, 1), (.write tag page off count data, 2)],
          ∃ t, exec c.1 s = .next t ∧ answers t c.2 .param [] ∧ t.cores = s.cores) ∧
      (wordsBad page.toNat off.toNat count.toNat = false → reaches .mgmt page.toNat = true → s.inReset page.toNat = false →
        ∃ t, exec (.read tag page off count) s = .next t ∧ t.cores = s.cores ∧ answers t 1 .ok
          ((List.range count.toNat).flatMap fun i => leBytes 4 (s.readWord .mgmt page.toNat (off.toNat + 4 * i)).toNat)) ∧
      (wordsBad page.toNat off.toNat 1 = false → page.toNat ≠ Page.hostif →
        ∃ t u, exec (.write tag page off 1 [w]) s = .next t ∧ answers t 2 .ok [] ∧
          exec (.registerWrite .mgmt (page.setWidth 12) (off.setWidth 12) 15 w) s = .next u ∧ t.cores = u.cores ∧ t.dram = u.dram ∧
          ∀ p i o, p ≠ pm → i < 0x10000 → o < 0x1000 → t.word p i o = u.word p i o) ∧
      (resetBad domain.toNat w.toNat = true →
        ∃ t, exec (.reset tag domain w) s = .next t ∧ answers t 3 .param [] ∧ t.resets = s.resets) ∧
      (s.clock.paused = false →
        (resetBad domain.toNat w.toNat = false → s.resetBusy domain.toNat w.toNat = true →
          ∃ t, exec (.reset tag domain w) s = .next t ∧ answers t 3 .busy [] ∧ t.resets = s.resets) ∧
        (s.resetBusy 4 0 = false → ∃ t, exec (.reset tag 4 0) s = .next t ∧ t.resets.tier = true ∧
          t.resets.reply = some (tag, 4, 0))) ∧
      (∀ h : img < 4,
        (s.mgmt.erasing ≠ none → ∃ t, exec (.imgErase tag image) s = .next t ∧ answers t 4 .busy [] ∧ t.nor = s.nor) ∧
        (s.mgmt.erasing = none →
          (s.imageLocked img = true → ∃ t, exec (.imgErase tag image) s = .next t ∧ answers t 4 .readOnly [] ∧
            t.nor = s.nor ∧ t.mgmt.erasing = none) ∧
          (s.imageLocked img = false → ∃ t, exec (.imgErase tag image) s = .next t ∧ answers t 4 .ok [] ∧ t.nor = s.nor ∧
            t.mgmt.erasing = some ⟨img, h⟩) ∧
          (s.imageLocked img = false → ioff.toNat % 4 = 0 → bs.length ≤ 240 → ioff.toNat + bs.length ≤ norSize img →
            ∃ t, exec (.imgWrite tag image ioff bs) s = .next t ∧ answers t 5 .ok [] ∧
              ∀ a, t.nor.byte a norFill =
                if base ≤ a ∧ a < base + bs.length then s.nor.byte a norFill &&& bs.getD (a - base) 0xFF
                else s.nor.byte a norFill) ∧
          (1 ≤ count.toNat → count.toNat ≤ 60 → ioff.toNat + 4 * count.toNat ≤ norSize img →
            ∃ t, exec (.imgRead tag image ioff count) s = .next t ∧ t.nor = s.nor ∧
              answers t 6 .ok (s.nor.read base (4 * count.toNat) norFill)))) ∧
      (∀ size, (space = 0 ∨ (3 ≤ space.toNat ∧ space.toNat ≤ 6)) → spaceSize space.toNat = some size → core.toNat < 4 →
        1 ≤ count.toNat → count.toNat ≤ 60 → moff.toNat + 4 * count.toNat ≤ size →
        let c := coreOf core.toNat
        let m := memOfSpace c space.toNat
        (s.ownerOpen = false → ∃ t, exec (.memRead tag core space moff count) s = .next t ∧ answers t 7 .authFail []) ∧
        (s.ownerOpen = true → s.inReset (Page.core core.toNat) = false →
          ((s.core c).st = .running → ∃ t, exec (.memRead tag core space moff count) s = .next t ∧ answers t 7 .busy []) ∧
          ((s.core c).st ≠ .running → (s.core c).st ≠ .waiting → s.uesIn m moff.toNat (4 * count.toNat) = [] →
            ∃ t, exec (.memRead tag core space moff count) s = .next t ∧ t.cores = s.cores ∧
              answers t 7 .ok (s.readMem m moff.toNat (4 * count.toNat)))))) ∧
    (∀ i, s.mgmt.erasing = some i → ∃ t, exec .imgEraseDone s = .next t ∧ t.mgmt = { s.mgmt with erasing := none } ∧
      ∀ a, t.nor.byte a norFill = if norBase i.1 ≤ a ∧ a < norBase i.1 + norSize i.1 then 0xFF else s.nor.byte a norFill) ∧
    (s.resets.cold = false →
      let dead := s.flag Page.hostif HOSTIF_MGMT_SMBUS_DEAD
      (dead = false → ∃ t, exec .smbusReset s = .next t ∧ t.get pm MGMT_STATUS_SMBUS = 1 ∧
        t.get pm MGMT_SMB_RESETS_COUNT = min (s.get pm MGMT_SMB_RESETS_COUNT + 1) (2 ^ 32 - 1)) ∧
      (s.get pm MGMT_STATUS_SMBUS = 1 → ∃ t, exec .smbusDead s = .next t ∧ t.get pm MGMT_STATUS_SMBUS = 2 ∧
        t.get pm MGMT_STATUS_PATH = 1 ∧ t.flag Page.hostif HOSTIF_MGMT_SMBUS_DEAD = true) ∧
      (dead = true → ∃ t, exec .smbusBack s = .next t ∧ t.get pm MGMT_STATUS_SMBUS = 0 ∧ t.get pm MGMT_STATUS_PATH = 0 ∧
        t.flag Page.hostif HOSTIF_MGMT_SMBUS_DEAD = false) ∧
      (s.flag pm MGMT_QSC_QSC_MASK = false → ∃ t, exec .quiesceEnter s = .next t ∧ t.pins = { s.pins with quiesceLow := true } ∧
        t.cores = s.cores ∧
        ((∀ c : CoreId, (s.core c).heldQuiet = true) → s.descRunning = false → t.flag pm MGMT_QSC_QUIESCED = true))) ∧
    (s.pins.quiesceLow = true →
      (s.mgmt.stuck = false → ∃ t, exec .quiesceStuck s = .next t ∧ t.mgmt = { s.mgmt with stuck := true } ∧ t.cores = s.cores) ∧
      ∃ t, exec .quiesceExit s = .next t ∧ t.pins = { s.pins with quiesceLow := false } ∧
        t.flag pm MGMT_QSC_QUIESCED = false ∧ ∀ c : CoreId, t.core c = { s.core c with quiet := false })

/-! ## Access, calibration, lamps -/

/-- 18_access.md R640, R643-R645, R649-R651, R655, R656, R659: the owner password, challenge and response, CLOSE; a COMMIT and a
rewrite of the calibration page, a re-derivation; lamp configurations and lamp faults. Where the rules leave a point open the
statement holds the model's reading, logs 59 and 74. -/
def Obligations.AccessCalibrationAndLamps : Prop :=
  ∀ (path : Path) (raw : List Byte) (ok short : Bool) (val : Word) (res : Derived) (lamp : Fin 2) (s : State),
    s.canonical = true →
    let pa := Page.access
    let pc := Page.cal
    let pl := Page.lamp
    let level := s.get pa ACCESS_STATE_LEVEL
    let fails := s.get pa ACCESS_STATE_PW_FAILS
    let locked := s.flag pa ACCESS_STATE_PW_LOCKOUT
    let kept (t : State) (st : Status) : Prop := t.get pa ACCESS_STATUS_STATUS = st.code ∧ t.get pa ACCESS_STATE_LEVEL = level
    let opens (t : State) (n : Nat) : Prop := t.get pa ACCESS_STATUS_STATUS = Status.ok.code ∧
      t.get pa ACCESS_STATE_LEVEL = max n level ∧ t.flag pa ACCESS_STATE_CLEAR_AUTH = true
    (s.takesWrite path pa ACCESS_CTRL_OPEN_PW.off →
      let hit := s.flag pa ACCESS_STATE_PW_SET && (sha256 (wordBytes s.mgmt.tries.toList)).take 16 == s.ownerDigest
      ∃ t, exec (.openPw path) s = .next t ∧ t.mgmt.tries = Vector.replicate 8 0 ∧
        (locked = false → s.pwTooSoon = true → kept t .busy ∧ t.get pa ACCESS_STATE_PW_FAILS = fails) ∧
        (locked = false → s.pwTooSoon = false → hit = true → opens t 1) ∧
        (locked = true ∨ (s.pwTooSoon = false ∧ hit = false) → kept t .authFail ∧
          t.get pa ACCESS_STATE_PW_FAILS = min (fails + 1) 255 ∧ (15 ≤ fails → t.flag pa ACCESS_STATE_PW_LOCKOUT = true))) ∧
    (s.takesWrite path pa ACCESS_CTRL_CHAL.off →
      let block := if s.entropy then (State.fillBlock raw s.emptyBlock).conditioned else none
      ∃ t, exec (.chal path raw) s = .next t ∧
        (∀ d, block = some d → kept t .ok ∧ t.mgmt.nonce = true ∧
          ∀ n, n < 4 → t.get pa (ACCESS_NONCE_NONCE.nth n) = field d (4 * n) 4) ∧
        (block = none → kept t .notReady ∧ t.mgmt.nonce = false)) ∧
    (s.takesWrite path pa ACCESS_CTRL_RESP.off →
      let n := s.get pa ACCESS_CTRL_REQ_LEVEL
      let sig := wordBytes s.mgmt.sig.toList
      ∃ t, exec (.resp path) s = .next t ∧ t.mgmt = { s.mgmt with nonce := false } ∧
        (s.mgmt.nonce = false → kept t .notReady) ∧
        (s.mgmt.nonce = true →
          if n = 1 ∨ n = 2 then
            if ecdsaOk Config.debugKeyX Config.debugKeyY (s.signedDigest n) (beNat (slice sig 0 32)) (beNat (slice sig 32 32)) then
              opens t n
            else kept t .authFail
          else kept t .param)) ∧
    exec .nonceExpiry s = .next { s with mgmt := { s.mgmt with nonce := false } } ∧
    (s.takesWrite path pa ACCESS_CTRL_CLOSE.off → ∃ t, exec (.close path) s = .next t ∧
      t.get pa ACCESS_STATUS_STATUS = Status.ok.code ∧ t.get pa ACCESS_STATE_LEVEL = 0 ∧
      t.flag pa ACCESS_STATE_CLEAR_AUTH = false ∧ t.cores = s.cores) ∧
    (s.commitsOne path pc 0 →
      let sec := s.get pc CAL_SEL_SECTION
      ∃ t, exec (.calCommit path) s = .next t ∧ t.committedOne pc 0 ∧ t.flag pc CAL_STATUS_NOR_BUSY = true ∧
        t.getI pc (256 * sec + s.get pc CAL_SEL_INDEX) CAL_DATA_DATA = (s.stagedWord pc CAL_DATA_DATA.off).toNat ∧
        (t.get pc CAL_STATUS_FACTORY).testBit (sec - 1) = false ∧
        (sec ∈ [1, 2, 3, 5] → t.flag Page.chip CHIP_STATUS_CAL_VALID = false)) ∧
    (s.flag pc CAL_STATUS_NOR_BUSY = true → ∃ t, exec (.calWrite ok) s = .next t ∧
      t.flag pc CAL_STATUS_NOR_BUSY = false ∧ (ok = true → t.get pc CAL_STATUS_NOR_STATUS = Status.ok.code) ∧
      (∀ k, t.getI pc k CAL_DATA_DATA = s.getI pc k CAL_DATA_DATA) ∧
      ∀ a, a < calBase ∨ calBase + calBytes ≤ a → t.nor.byte a norFill = s.nor.byte a norFill) ∧
    (s.takesWrite path pc CAL_DERIVE_START.off → CAL_DERIVE_START.of val = 1 →
      let inUse := ∃ p : PortId, (CAL_DERIVE_PORTS.of val).testBit p.1 = true ∧ (s.port p).st ≠ .down ∧ (s.port p).st ≠ .failed
      ∃ t, exec (.calDerive path val) s = .next t ∧
        (inUse ∨ s.deriving? = true → t.get pc CAL_DERIVE_STATUS_STATUS = Status.busy.code ∧ t.deriving? = s.deriving?) ∧
        (¬ inUse → s.deriving? = false → t.word pc 0 CAL_DERIVE_START.off = val ∧ t.deriving? = true)) ∧
    (s.deriving? = true → s.flag pc CAL_STATUS_NOR_BUSY = false →
      let w := s.word pc 0 CAL_DERIVE_START.off
      let named (p : PortId) : Bool := (CAL_DERIVE_PORTS.of w).testBit p.1
      let preset (p : PortId) : Option (BitVec 8) := (assocGet res.presets p.1).getD none
      ∃ t, exec (.deriveDone res) s = .next t ∧ t.deriving? = false ∧
        ∀ p, named p = true →
          (∀ x, preset p = some x → t.getI pc (1024 + p.1) CAL_DATA_DATA = x.toNat) ∧
          (preset p = none → t.getI pc (1024 + p.1) CAL_DATA_DATA = s.getI pc (1024 + p.1) CAL_DATA_DATA ∧
            (t.get pc CAL_DERIVE_STATUS_FAILED).testBit p.1 = true)) ∧
    (s.takesWrite path pl COMMIT_APPLY.off → s.flag pl PAGE_STATUS_READY = true → s.isTouched pl 0 = true →
      let duty (n : Nat) : Nat := LAMP_CFG_DUTY.of (s.stagedWord pl (0x040 + 4 * n))
      let mode (n : Nat) : Nat := LAMP_CFG_MODE.of (s.stagedWord pl (0x040 + 4 * n))
      let wrong (n : Nat) : Prop := (1 ≤ duty n ∧ duty n ≤ 3) ∨ 1000 < duty n ∨ mode n = 3
      ∃ t, exec (.lampCommit path) s = .next t ∧
        (wrong 0 ∨ wrong 1 → t.get pl COMMIT_STATUS_STATUS = Status.param.code ∧ samePage s t pl) ∧
        (¬ wrong 0 → ¬ wrong 1 → t.committedOne pl 0 ∧ ∀ n, n < 2 → t.get pl (LAMP_CFG_DUTY.nth n) = duty n ∧
          t.get pl (LAMP_CFG_MODE.nth n) = mode n)) ∧
    (s.inReset pl = false → s.lampState lamp ≠ 0 → s.lampState lamp ≠ 4 →
      ∃ t, exec (.lampFault lamp short) s = .next t ∧ t.lampState lamp = (if short then 3 else 2) ∧
        ∀ n, n ≠ lamp → t.mgmt.lampBad[n] = s.mgmt.lampBad[n])

/-! ## The rack -/

/-- 01_machine.md R38-R44, R46-R48, R51-R55: the governor's caps, which a redistribution keeps within the pool; the tray
controller; the lease of the rack managers. Where the rules leave a point open the statement holds the model's reading, logs 35,
36, 37, 38 and 88. -/
def Obligations.RackCapsAndLease : Prop :=
  ∀ (caps reports : List (Nat × Nat)) (chip : Fin 64) (deciW failed : Nat) (quarterC : Int) (claimed direct network : Bool)
    (seat : Seat) (m : Mgr) (inForce : List Nat) (term : Dword) (s : State),
    let r := s.rack
    let old (c : Nat) : Nat := r.issued.getD c 0
    let cap (t : State) (c : Nat) : Nat := t.rack.issued.getD c 0
    let within (x : Rack) : State := { s with rack := x }
    let tc (x : Tc) : State := within { r with tc := x }
    (r.issued.length = 64 → r.issued.sum ≤ chipPool →
      ∃ t, exec (.governorRedistribute caps reports) s = .next t ∧ t.rack.issued.sum ≤ chipPool ∧ t.rack.issued.length = 64) ∧
    (s.governor = false → exec (.governorRedistribute caps reports) s = .next s ∧
      exec (.capDecreaseTimeout chip) s = .next s ∧ exec (.busbarOverload deciW) s = .next s) ∧
    (r.issued.length = 64 → s.governor = true →
      (r.waiting = [] →
        let heard := (s.reports reports).foldl (fun x y => x.hear y.1 y.2) r
        let down := (caps.filter fun x => decide (x.2 < old x.1)).foldl (fun x y => x.issue y.1 y.2) heard
        (heard.planOk caps = false ∨ caps = [] → exec (.governorRedistribute caps reports) s = .next (within heard)) ∧
        (heard.planOk caps = true → caps ≠ [] →
          ∃ t, exec (.governorRedistribute caps reports) s = .next t ∧
            (∀ x ∈ caps, x.2 < old x.1 → cap t x.1 = x.2) ∧ (∀ c, (∀ x ∈ caps, x.1 ≠ c) → cap t c = old c) ∧
            if r.read = true ∧ down.settled = true then t.rack.waiting = [] ∧ ∀ x ∈ caps, cap t x.1 = x.2
            else ∀ x ∈ caps, old x.1 < x.2 → cap t x.1 = old x.1 ∧ x ∈ t.rack.waiting)) ∧
      (r.counted.getD chip.1 0 ≤ old chip.1 → exec (.capDecreaseTimeout chip) s = .next s) ∧
      (old chip.1 < r.counted.getD chip.1 0 → exec (.capDecreaseTimeout chip) s = .next (within
        { r with waiting := [], late := r.late.filter (· != chip.1) ++ [chip.1], log := r.log ++ [.lateDecrease] })) ∧
      (r.overload = 0 →
        (deciW ≤ 120000 → exec (.busbarOverload deciW) s = .next s) ∧
        (120000 < deciW → ∃ t, exec (.busbarOverload deciW) s = .next t ∧ t.rack.overload = 1 ∧ t.rack.waiting = [] ∧
          t.rack.log = r.log ++ [.overload] ∧ ∀ c, c < 64 → cap t c = min 115 (old c))) ∧
      (0 < r.overload →
        let first := decide (r.overload = 1)
        let end_ := if first then 120000 else 119600
        (deciW ≤ end_ → exec (.busbarOverload deciW) s = .next (within { r with overload := 0 })) ∧
        (end_ < deciW → ∃ t, exec (.busbarOverload deciW) s = .next t ∧ t.rack.waiting = [] ∧
          (first = true → t.rack.overload = 2 ∧ t.rack.log = r.log ++ [.overload]) ∧
          (first = false → t.rack.overload = r.overload ∧ t.rack.log = r.log) ∧
          ∀ c, c < 64 → cap t c = min (old c) (max 60 (old c - 5))))) ∧
    (r.tc.mode = some .rack → r.fr32h = false → ∃ t, exec .tcCommandSilence s = .next t ∧
      t.rack.tc = { r.tc with caps := #v[min 115 (s.tcCap 0), min 115 (s.tcCap 1)], log := r.tc.log ++ [.silence] }) ∧
    (r.tc.mode ≠ some .rack ∨ r.fr32h = true → exec .tcCommandSilence s = .next s) ∧
    ((r.mgr m).active = true → ∃ t, exec (.managerActive m inForce) s = .next t ∧ t = within t.rack ∧ t.rack.read = true ∧
      t.rack.waiting = [] ∧ t.rack.late = [] ∧ t.rack.mgrA = r.mgrA ∧ t.rack.mgrB = r.mgrB ∧ t.rack.counted = t.rack.issued ∧
      ∀ c, c < 64 → cap t c =
        if s.inRack = true ∧ c = s.rackChip then s.get Page.pwr PWR_CAP_IN_FORCE_CAP else inForce.getD c (r.inForce.getD c 0)) ∧
    ((r.mgr m).active = false → exec (.managerActive m inForce) s = .next s) ∧
    (failed = 0 → exec (.fanFailure failed) s = .next (tc { r.tc with fansBad := 0 })) ∧
    (failed = 1 → ∃ t, exec (.fanFailure failed) s = .next t ∧
      t.rack = { r with tc := { r.tc with fansBad := 1, amber := true, log := r.tc.log ++ [.fanFailed] } }) ∧
    (2 ≤ failed → ∃ t, exec (.fanFailure failed) s = .next t ∧
      t.rack = { r with tc := { r.tc with fansBad := failed, caps := #v[60, 60], log := r.tc.log ++ [.fansFailed] } }) ∧
    (quarterC ≤ 140 → exec (.inletTemperature quarterC) s = .next s) ∧
    (140 < quarterC → quarterC ≤ 160 →
      exec (.inletTemperature quarterC) s = .next (tc { r.tc with log := r.tc.log ++ [.inletWarm] })) ∧
    (160 < quarterC → ∃ t, exec (.inletTemperature quarterC) s = .next t ∧
      t.rack = { r with tc := { r.tc with caps := #v[60, 60], log := r.tc.log ++ [.inletWarm, .inletHot] } }) ∧
    (let log := r.tc.log ++ [.restart]
      let place : Rack :=
        if claimed then
          { r with fr32h := seat.fr32h, index := seat.rack.toNat, tray := seat.tray.toNat,
                   tc := { r.tc with mode := some .rack, log := log } }
        else
          { r with fr32h := seat.fr32h, index := 0, tray := 0,
                   tc := { r.tc with mode := some .standalone, caps := Vector.replicate 2 150, log := log } }
      (s.tcReaches = false → exec (.tcStart claimed seat) s = .next (within place)) ∧
      (claimed = true → s.flag Page.clk CLK_REF_SRC = false → s.flag Page.chip CHIP_PCN_VALID = true →
        s.get Page.chip CHIP_PCN_PCN = (within place).placePcn → exec (.tcStart claimed seat) s = .next (within place))) ∧
    (∃ t, exec (.leaseRenew direct network) s = .next t ∧ t = within t.rack ∧
      ((r.mgr m).holder = false → t.rack.mgr m = r.mgr m) ∧
      ((r.mgr m).holder = true → (t.rack.mgr m).holder = true ∧ (t.rack.mgr m).term = (r.mgr m).term ∧
        ((t.rack.mgr m).missed = true ↔ direct = false ∧ network = false) ∧
        (direct = false → network = false → (t.rack.mgr m).stopped = (r.mgr m).stopped))) ∧
    (∃ t, exec .leaseSelfStop s = .next t ∧ t = within t.rack ∧
      ((r.mgr m).holder = true → (r.mgr m).missed = true → (t.rack.mgr m).active = false) ∧
      ((r.mgr m).missed = false → t.rack.mgr m = r.mgr m)) ∧
    ((r.mgr m).holder = false → (r.peer m).holder = false ∨ (r.peer m).missed = true →
      ∃ t, exec (.leaseTakeover m true) s = .next t ∧ t = within t.rack ∧ (t.rack.mgr m).active = true ∧
        (t.rack.peer m).holder = false ∧ t.rack.read = false ∧
        (t.rack.mgr m).term = (if (r.mgr m).term.ult (r.peer m).term then (r.peer m).term else (r.mgr m).term) + 1) ∧
    ((r.mgr m).holder = true ∨ ((r.peer m).holder = true ∧ (r.peer m).missed = false) →
      exec (.leaseTakeover m true) s = .next s) ∧
    exec (.leaseTakeover m false) s = .next s ∧
    ((r.mgr m).term.ult term = true → ∃ t, exec (.higherTerm m term) s = .next t ∧ t = within t.rack ∧
      (t.rack.mgr m).holder = false ∧ t.rack.peer m = r.peer m) ∧
    ((r.mgr m).term.ult term = false → exec (.higherTerm m term) s = .next s)

/-! ## Reset state and the invariant of every step -/

/-- 16_reset.md R576, R587; 15_clocks_power.md R570, R571; 09_weave.md R307; 14_pages.md R518: what the state right after reset
holds; the empty memories are the model's choice (log 7). -/
def Obligations.ResetState : Prop :=
  let s := State.reset
  s.canonical = true ∧ s.pending = [] ∧ s.touched = [] ∧ s.get Page.pwr PWR_CAP_CAP = 115 ∧ s.get Page.clk CLK_GEAR_GEAR = 4 ∧
    s.gear = 4 ∧ s.flag Page.chip CHIP_STATUS_MGMT_UP = false ∧ s.get Page.access ACCESS_STATE_LEVEL = 0 ∧
    s.get Page.pwr PWR_FAIL_STEP = 0 ∧ (∀ p : PortId, (s.port p).st = .down ∧ s.flag (Page.link p.1) LINK_CTRL_ENABLE = false) ∧
    (∀ c : CoreId, (s.core c).st = .stopped ∧ (s.core c).pc = 0 ∧ (s.core c).cyc = 0 ∧
      ∀ b : BitVec 8, ((s.core c).slot b).tag = .empty) ∧
    s.flag Page.lamp LAMP_CTRL_AUTO = true ∧ s.weave.wt = 0 ∧ s.aligned = false

/-- 00_scope.md R2, 14_pages.md R528, as the model has them (logs 1, 5, 7): from every state in canonical form, a step leaves
registers, staged words and every memory in canonical form, so that equal contents are equal data; it takes exactly the command
at the front off the queue, whatever the command; and on an empty queue it queues what the cores do next of themselves, which is
nothing in cold and warm reset (logs 2, 3). -/
def Obligations.StepKeepsCanonicalForm : Prop :=
  ∀ s t : State, s.canonical = true → step s = .next t → t.canonical = true ∧
    (s.pending ≠ [] → t.pending = s.pending.tail) ∧
    (s.pending = [] → t.pending = if s.resets.cold || s.resets.warm then [] else s.ownInstrs)
end

