-- ==== Sys2Proof/Machine/Cabling.lean ====
section
/-!
DEFINITION. How the machine around the chip is put together (01_machine.md R13-R31, R35): the units of a rack, the hosts, the
cable of every fabric port, the bypass rings, the spine tier, and the power plan; and what a switch does with a flit (09_weave.md
R328; 11_press.md R415). No command changes any of it (log 121).
-/
namespace Sys2Proof.Machine

/-- Trays of a full rack, R13, R23; `h` says that the rack is an FR-32H. -/
def trays (h : Bool) : Nat := if h then 16 else 32

/-- What stands in a rack unit, R13. -/
inductive RackUnit where
  | powerShelf
  | tray (t : Nat)
  | host (n : Nat)
  | switch (k : Nat)
  | managers
  | blank
  deriving DecidableEq, Repr

/-- The equipment of unit `u` of a full rack, R13, R14: an FT-2 takes one unit and an FT-2H two, in ascending order; none beyond the
42 units. -/
def rackUnit (h : Bool) (u : Nat) : Option RackUnit :=
  if u < 1 ∨ 42 < u then none
  else if u ≤ 3 then some .powerShelf
  else if h then
    some (if u ≤ 19 then .tray ((u - 4) / 2) else if u ≤ 23 then .switch (u - 20) else if u = 24 then .managers
      else if u ≤ 40 then .tray (8 + (u - 25) / 2) else .blank)
  else
    some (if u ≤ 19 then .tray (u - 4) else if u = 20 then .host 0 else if u ≤ 24 then .switch (u - 21)
      else if u = 25 then .managers else if u = 26 then .host 1 else .tray (u - 11))

/-- Fans of a tray and how many of them carry full load, R17. -/
def trayFans (h : Bool) : Nat × Nat := if h then (4, 3) else (5, 4)

/-- The most that a tray draws, in watts: two chips at their ceiling and its auxiliaries (R18). -/
def trayWatts (h : Bool) : Nat := 2 * 150 + (if h then 260 else 60)

/-- The host of a chip, R19, R20: a downstream port of an FH-1 host tray, or the host module of the chip's own tray. -/
inductive HostAt where
  | fh1 (n port : Nat)
  | module (tray : Nat)
  deriving DecidableEq, Repr

/-- Where chip `c` of tray `t` finds its host, R19. -/
def hostOf (h : Bool) (t c : Nat) : HostAt :=
  if h then .module t else .fh1 (t / 16) (2 * (t % 16) + c)

/-- The ring successor of tray `t`, R23. -/
def ringNext (h : Bool) (t : Nat) : Nat :=
  if t % 2 = 0 then (if t < trays h - 2 then t + 2 else trays h - 1)
  else if 1 < t then t - 2 else 0

/-- The ring predecessor of tray `t`, R23 read backwards. -/
def ringPrev (h : Bool) (t : Nat) : Nat :=
  if t % 2 = 0 then (if 0 < t then t - 2 else 1)
  else if t < trays h - 1 then t + 2 else trays h - 2

/-- Where the far end of a fabric cable is: a port of a chip, or a downlink port of a rack switch. -/
inductive CableEnd where
  | chip (tray pos port : Nat)
  | downlink (switch port : Nat)
  deriving DecidableEq, Repr

/-- The far end of port `p` of chip `c` of tray `t`, R21-R23. -/
def cable (h : Bool) (t c p : Nat) : CableEnd :=
  if p < 2 then .chip t (1 - c) p
  else if p < 10 then .downlink ((p - 2) / 2) (4 * t + 2 * c + p % 2)
  else if p = 10 then .chip (ringNext h t) c 11
  else .chip (ringPrev h t) c 10

/-- The uplink ports of a rack switch: the first and how many, R25. -/
def uplinks (h : Bool) : Nat × Nat := if h then (64, 16) else (128, 32)

/-- Whether a system may join so many racks of one type, R28. -/
def systemMay (h : Bool) (racks : Nat) : Bool :=
  decide (racks ≤ if h then 128 else 64) && decide (racks * (2 * trays h) ≤ 4096)

/-- Spine switches of a plane, R29; none for more racks than a system may have. -/
def spines (h : Bool) (racks : Nat) : Option Nat :=
  [1, 2, 4, 8].find? fun n => racks ≤ (if h then 16 else 8) * n

/-- Where uplink `u` of a rack switch of rack `r` leads in that switch's plane of `n` spine switches: the spine switch and its port
(R30). -/
def spineEnd (h : Bool) (n r u : Nat) : Nat × Nat :=
  let each := (uplinks h).2 / n
  (u / each, r * each + u % each)

/-- The slot in which a switch sends on a VC0 flit that is delivered to it at slot `j` (09_weave.md R328). -/
def switchSlot (j : Nat) : Nat := j + 32

/-- The latency of a VC0 path over links with these pinned latencies: a switch lies between each two (09_weave.md R328). -/
def pathLatency (pins : List Nat) : Nat := pins.sum + 32 * (pins.length - 1)

/-- The ports to which a switch sends on a multicast flit of a group entry: all but the one it arrived on (11_press.md R415). -/
def switchCopies (entry : List Nat) (arrival : Nat) : List Nat := entry.filter (· != arrival)

/-- The rack power plan, R35: auxiliaries, switches, managers, chip pool. -/
def powerPlan (h : Bool) : List Nat := if h then [4160, 1800, 200, 4800] else [2600, 1800, 200, chipPool]

/-- Nothing in the plan is beyond the busbar: the sum of its budgets is at most 12,000 W (R35). -/
def powerPlanFits (h : Bool) : Bool := decide ((powerPlan h).sum ≤ 12000)

end Sys2Proof.Machine
end

