-- ==== Sys2Proof/Laws/Cabling.lean ====
section
/-!
SUPPORT. The bypass rings close and every chip-to-chip cable has the same two ends from either side (01_machine.md R21, R23).
-/
namespace Sys2Proof.Machine

theorem ringPrev_ringNext (h : Bool) : ∀ t < trays h, ringPrev h (ringNext h t) = t := by cases h <;> decide

theorem ringNext_ringPrev (h : Bool) : ∀ t < trays h, ringNext h (ringPrev h t) = t := by cases h <;> decide

/-- The far end of a chip-to-chip cable has this end for its far end. -/
theorem cable_back (h : Bool) (t c p t' c' p' : Nat) (ht : t < trays h) (hc : c < 2) (hp : p < 12)
    (he : cable h t c p = .chip t' c' p') : cable h t' c' p' = .chip t c p := by
  unfold cable at he
  split at he
  · obtain ⟨rfl, rfl, rfl⟩ : t = t' ∧ 1 - c = c' ∧ p = p' := by simpa using he
    have : 1 - (1 - c) = c := by omega
    simp [cable, *]
  split at he
  · simp at he
  split at he
  · obtain ⟨rfl, rfl, rfl⟩ : ringNext h t = t' ∧ c = c' ∧ 11 = p' := by simpa using he
    simp [cable, ringPrev_ringNext h t ht, *]
  · obtain ⟨rfl, rfl, rfl⟩ : ringPrev h t = t' ∧ c = c' ∧ 10 = p' := by simpa using he
    have : p = 11 := by omega
    simp [cable, ringNext_ringPrev h t ht, *]

end Sys2Proof.Machine
end

