-- ==== Sys2Proof/Laws/Crc.lean ====
section
/-!
SUPPORT. Checksums and byte fields: a CRC-32C fits in 32 bits, a number's little-endian bytes read back as the number, and a
sealed side record checks (06_tiers.md R198, R200).
-/
namespace Sys2Proof.Machine

/-- The little-endian bytes of a number read back as the number. -/
theorem leNat_leBytes : ∀ n x : Nat, x < 256 ^ n → leNat (leBytes n x) = x
  | 0, x, h => by simp at h; simp [leBytes, leNat, h]
  | n + 1, x, h => by
    have : x / 256 < 256 ^ n := Nat.div_lt_of_lt_mul (by rw [Nat.pow_succ] at h; omega)
    simp only [leBytes, leNat, leNat_leBytes n _ this, BitVec.toNat_ofNat]
    omega

theorem length_leBytes : ∀ n x : Nat, (leBytes n x).length = n
  | 0, _ => rfl
  | n + 1, x => by simp [leBytes, length_leBytes n]

/-- A slice of a list's own bytes. -/
theorem slice_of_le (l : List Byte) (i n : Nat) (h : i + n ≤ l.length) : slice l i n = (l.drop i).take n := by
  have : n - ((l.drop i).take n).length = 0 := by simp; omega
  simp only [slice, this, List.replicate_zero, List.append_nil]

theorem slice_left (a b : List Byte) : slice (a ++ b) 0 a.length = a := by
  rw [slice_of_le _ _ _ (by simp)]; simp

theorem slice_right (a b : List Byte) : slice (a ++ b) a.length b.length = b := by
  rw [slice_of_le _ _ _ (by simp)]; simp

theorem slice_self (l : List Byte) (n : Nat) (h : l.length = n) : slice l 0 n = l := by
  subst h; simpa using slice_left l []

theorem length_slice (l : List Byte) (i n : Nat) : (slice l i n).length = n := by
  have := List.length_take_le n (l.drop i)
  simp only [slice, List.length_append, List.length_replicate]; omega

theorem crcBits_lt : ∀ n c : Nat, c < 2 ^ 32 → crcBits n c < 2 ^ 32
  | 0, _, h => h
  | n + 1, c, h => by
    refine crcBits_lt n _ ?_
    split
    · exact Nat.xor_lt_two_pow (by omega) (by decide)
    · omega

theorem crcByte_lt (c : Nat) (b : Byte) (h : c < 2 ^ 32) : crcByte c b < 2 ^ 32 :=
  crcBits_lt 8 _ (Nat.xor_lt_two_pow h (by have := b.isLt; omega))

/-- A CRC-32C is a number of 32 bits. -/
theorem crc32c_lt (l : List Byte) : crc32c l < 2 ^ 32 := by
  have h : ∀ (l : List Byte) (c : Nat), c < 2 ^ 32 → l.foldl crcByte c < 2 ^ 32 := by
    intro l
    induction l with
    | nil => exact fun _ h => h
    | cons b r ih => exact fun c hc => ih _ (crcByte_lt c b hc)
  exact Nat.xor_lt_two_pow (h l _ (by decide)) (by decide)

/-- A sealed side record keeps its first 28 bytes and has 32. -/
theorem slice_sealSide (data side : List Byte) : slice (sealSide data side) 0 28 = slice side 0 28 := by
  have := slice_left (slice side 0 28) (leBytes 4 (crc32c (data ++ slice side 0 28)))
  rwa [length_slice] at this

theorem length_sealSide (data side : List Byte) : (sealSide data side).length = 32 := by
  simp [sealSide, length_slice, length_leBytes]

/-- A sealed side record checks over its data (R198, R200). -/
theorem sideOk_sealSide (data side : List Byte) : sideOk data (sealSide data side) = true := by
  have h : slice (sealSide data side) 28 4 = leBytes 4 (crc32c (data ++ slice side 0 28)) := by
    have := slice_right (slice side 0 28) (leBytes 4 (crc32c (data ++ slice side 0 28)))
    rwa [length_slice, length_leBytes] at this
  have e := leNat_leBytes 4 _ (show _ < 256 ^ 4 from crc32c_lt (data ++ slice side 0 28))
  simp only [sideOk, slice_sealSide, field, h, e, beq_self_eq_true]

end Sys2Proof.Machine
end

