-- ==== Sys2Proof/Laws/Sparse.lean ====
section
/-!
SUPPORT. Sparse tables: what is read after a write, and that every operation on a memory keeps the canonical form.
-/
namespace Sys2Proof.Machine

section
variable {α : Type} {d : Nat → α}

variable [DecidableEq α]

/-- The canonical form of a table with one entry more. -/
theorem Sparse.wf_cons {k : Nat} {v : α} {r : List (Nat × α)} :
    Sparse.wf d ((k, v) :: r) = true ↔ v ≠ d k ∧ (∀ c ∈ r, k < c.1) ∧ Sparse.wf d r = true := by
  simp [Sparse.wf, and_assoc]

@[simp] theorem Sparse.wf_nil : Sparse.wf d ([] : List (Nat × α)) = true := rfl

omit [DecidableEq α] in
/-- A key below every entry reads as unlisted. -/
theorem Sparse.get_of_all (l : List (Nat × α)) (k : Nat) (h : ∀ c ∈ l, k < c.1) : Sparse.get d l k = d k := by
  induction l with
  | nil => rfl
  | cons c r ih => rw [Sparse.get, if_neg (Nat.ne_of_gt (h c (.head _))), ih fun x hx => h x (.tail _ hx)]

/-- What a write does to the first entry's place: three cases by the order of the keys. -/
theorem Sparse.put_cons (k' : Nat) (v' : α) (r : List (Nat × α)) (k : Nat) (v : α) :
    (k < k' ∧ Sparse.put d ((k', v') :: r) k v = Sparse.put d [] k v ++ (k', v') :: r) ∨
    (k = k' ∧ Sparse.put d ((k', v') :: r) k v = Sparse.put d [] k v ++ r) ∨
    (k' < k ∧ Sparse.put d ((k', v') :: r) k v = (k', v') :: Sparse.put d r k v) := by
  rcases Nat.lt_trichotomy k k' with h | h | h
  · refine .inl ⟨h, ?_⟩; by_cases e : v = d k <;> simp [Sparse.put, h, e]
  · refine .inr (.inl ⟨h, ?_⟩); subst h; by_cases e : v = d k <;> simp [Sparse.put, e]
  · exact .inr (.inr ⟨h, by simp [Sparse.put, Nat.not_lt.2 (Nat.le_of_lt h), Nat.ne_of_gt h]⟩)

/-- Reading behind a write to an empty table. -/
theorem Sparse.get_put_nil_append (k j : Nat) (v : α) (r : List (Nat × α)) :
    Sparse.get d (Sparse.put d [] k v ++ r) j = if v ≠ d k ∧ j = k then v else Sparse.get d r j := by
  by_cases e : v = d k <;> by_cases g : k = j <;> simp_all [Sparse.put, Sparse.get, eq_comm]

theorem Sparse.get_put_ne (l : List (Nat × α)) (k j : Nat) (v : α) (h : j ≠ k) :
    Sparse.get d (Sparse.put d l k v) j = Sparse.get d l j := by
  induction l with
  | nil => simpa [h] using Sparse.get_put_nil_append (d := d) k j v []
  | cons c r ih =>
    rcases Sparse.put_cons (d := d) c.1 c.2 r k v with ⟨_, e⟩ | ⟨g, e⟩ | ⟨_, e⟩ <;> rw [e]
    · simp [Sparse.get_put_nil_append, h]
    · rw [Sparse.get_put_nil_append, if_neg (fun x => h x.2), Sparse.get, if_neg (fun x => h (g ▸ x.symm))]
    · simp only [Sparse.get, ih]

theorem Sparse.get_put_self (l : List (Nat × α)) (k : Nat) (v : α) (h : Sparse.wf d l = true) :
    Sparse.get d (Sparse.put d l k v) k = v := by
  have free (r : List (Nat × α)) (g : ∀ c ∈ r, k < c.1) : Sparse.get d (Sparse.put d [] k v ++ r) k = v := by
    rw [Sparse.get_put_nil_append, Sparse.get_of_all r k g]
    by_cases e : v = d k <;> simp [e]
  induction l with
  | nil => simpa using free [] (by simp)
  | cons c r ih =>
    obtain ⟨_, low, tail⟩ := Sparse.wf_cons.1 h
    rcases Sparse.put_cons (d := d) c.1 c.2 r k v with ⟨g, e⟩ | ⟨g, e⟩ | ⟨g, e⟩ <;> rw [e]
    · exact free _ (List.forall_mem_cons.2 ⟨g, fun x hx => Nat.lt_trans g (low x hx)⟩)
    · exact free r (g ▸ low)
    · rw [Sparse.get, if_neg (Nat.ne_of_lt g), ih tail]

/-- Reading a table after a write of one key. -/
theorem Sparse.get_put (l : List (Nat × α)) (k j : Nat) (v : α) (h : Sparse.wf d l = true) :
    Sparse.get d (Sparse.put d l k v) j = if j = k then v else Sparse.get d l j := by
  split
  · subst j; exact Sparse.get_put_self l k v h
  · rename_i hj; exact Sparse.get_put_ne l k j v hj

/-- The keys after a write are the key written and keys of before. -/
theorem Sparse.keys_put (P : Nat → Prop) (l : List (Nat × α)) (k : Nat) (v : α) (hk : P k) (h : ∀ c ∈ l, P c.1) :
    ∀ c ∈ Sparse.put d l k v, P c.1 := by
  have nil_ : ∀ c ∈ Sparse.put d [] k v, P c.1 := by by_cases e : v = d k <;> simp [Sparse.put, e, hk]
  induction l with
  | nil => exact nil_
  | cons c r ih =>
    have hr := ih fun x hx => h x (.tail _ hx)
    rcases Sparse.put_cons (d := d) c.1 c.2 r k v with ⟨_, e⟩ | ⟨_, e⟩ | ⟨_, e⟩ <;> rw [e]
    · exact List.forall_mem_append.2 ⟨nil_, h⟩
    · exact List.forall_mem_append.2 ⟨nil_, fun x hx => h x (.tail _ hx)⟩
    · exact List.forall_mem_cons.2 ⟨h c (.head _), hr⟩

/-- A write keeps the canonical form. -/
theorem Sparse.wf_put (l : List (Nat × α)) (k : Nat) (v : α) (h : Sparse.wf d l = true) :
    Sparse.wf d (Sparse.put d l k v) = true := by
  have free (r : List (Nat × α)) (g : ∀ c ∈ r, k < c.1) (w : Sparse.wf d r = true) :
      Sparse.wf d (Sparse.put d [] k v ++ r) = true := by
    by_cases e : v = d k
    · simpa [Sparse.put, e] using w
    · simpa [Sparse.put, e] using Sparse.wf_cons.2 ⟨e, g, w⟩
  induction l with
  | nil => simpa using free [] (by simp) rfl
  | cons c r ih =>
    obtain ⟨listed, low, tail⟩ := Sparse.wf_cons.1 h
    rcases Sparse.put_cons (d := d) c.1 c.2 r k v with ⟨g, e⟩ | ⟨g, e⟩ | ⟨g, e⟩ <;> rw [e]
    · exact free _ (List.forall_mem_cons.2 ⟨g, fun x hx => Nat.lt_trans g (low x hx)⟩) h
    · exact free r (g ▸ low) tail
    · exact Sparse.wf_cons.2 ⟨listed, Sparse.keys_put (c.1 < ·) r k v g low, ih tail⟩

/-- Dropping entries keeps the canonical form. -/
theorem Sparse.wf_filter (l : List (Nat × α)) (p : Nat × α → Bool) (h : Sparse.wf d l = true) :
    Sparse.wf d (l.filter p) = true := by
  induction l with
  | nil => rfl
  | cons c r ih =>
    obtain ⟨k', v'⟩ := c
    obtain ⟨h1, h2, h3⟩ := Sparse.wf_cons.1 h
    simp only [List.filter_cons]
    split
    · exact Sparse.wf_cons.2 ⟨h1, fun x hx => h2 x (List.mem_filter.1 hx).1, ih h3⟩
    · exact ih h3

omit [DecidableEq α] in
theorem Sparse.get_filter (l : List (Nat × α)) (p : Nat → Bool) (k : Nat) :
    Sparse.get d (l.filter fun c => p c.1) k = if p k then Sparse.get d l k else d k := by
  induction l with
  | nil => simp [Sparse.get]
  | cons c r ih =>
    obtain ⟨k', v'⟩ := c
    by_cases hp : p k' = true
    · simp only [List.filter_cons, hp, if_true, Sparse.get, ih]
      by_cases e : k' = k
      · subst e; simp [hp]
      · simp [e]
    · simp only [List.filter_cons, hp, Sparse.get, Bool.false_eq_true, if_false]
      by_cases e : k' = k
      · subst e; rw [ih]; simp [hp]
      · rw [ih]; simp [e]

end

/-! Memories. -/

@[simp] theorem Memory.wf_nil (fill : Byte) : Memory.wf fill [] = true := rfl

@[simp] theorem Mem.byte_nil (a : Nat) (fill : Byte) : Mem.byte [] a fill = fill := rfl

/-- Reading a byte after a write of one byte. -/
theorem Mem.byte_setByte {m : Mem} {fill : Byte} (a j : Nat) (b : Byte) (h : Memory.wf fill m = true) :
    (m.setByte a b fill).byte j fill = if j = a then b else m.byte j fill := Sparse.get_put m a j b h

/-- A write of one byte keeps the canonical form. -/
theorem Mem.wf_setByte {m : Mem} {fill : Byte} (a : Nat) (b : Byte) (h : Memory.wf fill m = true) :
    Memory.wf fill (m.setByte a b fill) = true := Sparse.wf_put m a b h

/-- A write of bytes keeps the canonical form. -/
theorem Mem.wf_write {fill : Byte} (bs : List Byte) : ∀ {m : Mem} (a : Nat), Memory.wf fill m = true →
    Memory.wf fill (m.write a bs fill) = true := by
  induction bs with
  | nil => intro m a h; exact h
  | cons b bs ih => intro m a h; exact ih (a + 1) (Mem.wf_setByte a b h)

/-- Reading a byte after a write of bytes. -/
theorem Mem.byte_write {fill : Byte} (bs : List Byte) : ∀ {m : Mem} (a j : Nat), Memory.wf fill m = true →
    (m.write a bs fill).byte j fill = if a ≤ j ∧ j < a + bs.length then bs.getD (j - a) fill else m.byte j fill := by
  induction bs with
  | nil => intro m a j _; rw [Mem.write, if_neg (by simp)]
  | cons b bs ih =>
    intro m a j h
    rw [Mem.write, ih (a + 1) j (Mem.wf_setByte a b h), Mem.byte_setByte a j b h]
    by_cases e : j = a
    · subst e
      have : ¬ (j + 1 ≤ j ∧ j < j + 1 + bs.length) := by omega
      rw [if_neg this, if_pos rfl, if_pos (by simp)]
      simp
    · by_cases r : a + 1 ≤ j ∧ j < a + 1 + bs.length
      · rw [if_pos r, if_pos (by simp; omega)]
        obtain ⟨n, rfl⟩ : ∃ n, j = a + (n + 1) := ⟨j - a - 1, by omega⟩
        rw [show a + (n + 1) - (a + 1) = n from by omega, show a + (n + 1) - a = n + 1 from by omega]
        simp
      · rw [if_neg r, if_neg e, if_neg (by simp; omega)]

/-- Erasing keeps the canonical form. -/
theorem Mem.wf_erase {m : Mem} {fill : Byte} (a n : Nat) (h : Memory.wf fill m = true) :
    Memory.wf fill (m.erase a n) = true := Sparse.wf_filter m _ h

/-- Reading a byte after an erase. -/
theorem Mem.byte_erase {m : Mem} {fill : Byte} (a n j : Nat) :
    (m.erase a n).byte j fill = if a ≤ j ∧ j < a + n then fill else m.byte j fill := by
  have h := Sparse.get_filter (d := fun _ => fill) m (fun k => decide (k < a) || decide (a + n ≤ k)) j
  have e : (m.erase a n).byte j fill =
      Sparse.get (fun _ => fill) (m.filter fun c => decide (c.1 < a) || decide (a + n ≤ c.1)) j := rfl
  rw [e, h]
  by_cases c : a ≤ j ∧ j < a + n
  · rw [if_pos c, if_neg (by simp; omega)]
  · rw [if_neg c, if_pos (by simp; omega)]; rfl

/-- A read of bytes is the bytes at its addresses. -/
theorem Mem.read_length (m : Mem) (a n : Nat) (fill : Byte) : (m.read a n fill).length = n := by simp [Mem.read]

/-! Tables of state. -/

section
variable {κ α : Type} [DecidableEq κ]

theorem assocGet_cons (x : κ × α) (r : List (κ × α)) (j : κ) :
    assocGet (x :: r) j = if x.1 = j then some x.2 else assocGet r j := by
  by_cases e : x.1 = j <;> simp [assocGet, e]

theorem assocGet_append_new (l : List (κ × α)) (k j : κ) (v : α) (h : ∀ e ∈ l, e.1 ≠ k) :
    assocGet (l ++ [(k, v)]) j = if j = k then some v else assocGet l j := by
  induction l with
  | nil =>
    rw [List.nil_append, assocGet_cons]
    by_cases g : k = j
    · simp [g]
    · simp [g, Ne.symm g]
  | cons x r ih =>
    rw [List.cons_append, assocGet_cons, assocGet_cons, ih fun e he => h e (.tail _ he)]
    by_cases g : x.1 = j
    · simp [g, show j ≠ k from g ▸ h x (.head _)]
    · simp [g]

theorem assocGet_map_key (l : List (κ × α)) (k j : κ) (v : α) :
    assocGet (l.map fun e => if e.1 = k then (k, v) else e) j =
      if j = k then (if l.any fun e => e.1 == k then some v else none) else assocGet l j := by
  induction l with
  | nil => simp [assocGet]
  | cons x r ih =>
    rw [List.map_cons, assocGet_cons, assocGet_cons, ih]
    by_cases g : j = k
    · by_cases e : x.1 = k
      · simp [e, g]
      · have e' : (x.1 == k) = false := beq_eq_false_iff_ne.2 e
        simp only [e, g, e', if_true, if_false, List.any_cons, Bool.false_or]
    · by_cases e : x.1 = k
      · simp [e, g, Ne.symm g]
      · simp [e, g]

/-- Reading a table after a key of it got a value. -/
theorem assocGet_assocSet (l : List (κ × α)) (k j : κ) (v : α) :
    assocGet (assocSet l k v) j = if j = k then some v else assocGet l j := by
  unfold assocSet
  split
  · rename_i h; rw [assocGet_map_key, if_pos h]
  · rename_i h
    refine assocGet_append_new l k j v fun e he g => h (List.any_eq_true.2 ⟨e, he, ?_⟩)
    simp [g]

/-- Reading a table after a key was taken out. -/
theorem assocGet_assocDel (l : List (κ × α)) (k j : κ) :
    assocGet (assocDel l k) j = if j = k then none else assocGet l j := by
  unfold assocDel
  induction l with
  | nil => simp [assocGet]
  | cons x r ih =>
    by_cases e : x.1 = k
    · rw [List.filter_cons_of_neg (by simp [e]), ih, assocGet_cons]
      by_cases g : j = k
      · simp [g]
      · simp [e, g, Ne.symm g]
    · rw [List.filter_cons_of_pos (by simp [e]), assocGet_cons, assocGet_cons, ih]
      by_cases g : x.1 = j
      · simp [g, show j ≠ k from g ▸ e]
      · simp [g]

end

end Sys2Proof.Machine
end

