-- ==== Sys2Proof/Laws/State.lean ====
section
/-! SUPPORT. Each field of State after each update of one unit of the state. -/
namespace Sys2Proof.Machine

section
variable (s : State) (c : CoreId) (k : Core)
@[simp] theorem State.setCore_regs : (s.setCore c k).regs = s.regs := rfl
@[simp] theorem State.setCore_staged : (s.setCore c k).staged = s.staged := rfl
@[simp] theorem State.setCore_touched : (s.setCore c k).touched = s.touched := rfl
@[simp] theorem State.setCore_barOut : (s.setCore c k).barOut = s.barOut := rfl
@[simp] theorem State.setCore_dram : (s.setCore c k).dram = s.dram := rfl
@[simp] theorem State.setCore_xmem : (s.setCore c k).xmem = s.xmem := rfl
@[simp] theorem State.setCore_nor : (s.setCore c k).nor = s.nor := rfl
@[simp] theorem State.setCore_host : (s.setCore c k).host = s.host := rfl
@[simp] theorem State.setCore_cores : (s.setCore c k).cores = s.cores.set c k := rfl
@[simp] theorem State.setCore_scale : (s.setCore c k).scale = s.scale := rfl
@[simp] theorem State.setCore_ecc : (s.setCore c k).ecc = s.ecc := rfl
@[simp] theorem State.setCore_xcache : (s.setCore c k).xcache = s.xcache := rfl
@[simp] theorem State.setCore_tier : (s.setCore c k).tier = s.tier := rfl
@[simp] theorem State.setCore_spin : (s.setCore c k).spin = s.spin := rfl
@[simp] theorem State.setCore_ports : (s.setCore c k).ports = s.ports := rfl
@[simp] theorem State.setCore_weave : (s.setCore c k).weave = s.weave := rfl
@[simp] theorem State.setCore_mangle : (s.setCore c k).mangle = s.mangle := rfl
@[simp] theorem State.setCore_hangers : (s.setCore c k).hangers = s.hangers := rfl
@[simp] theorem State.setCore_eng : (s.setCore c k).eng = s.eng := rfl
@[simp] theorem State.setCore_serving : (s.setCore c k).serving = s.serving := rfl
@[simp] theorem State.setCore_evict : (s.setCore c k).evict = s.evict := rfl
@[simp] theorem State.setCore_ctxs : (s.setCore c k).ctxs = s.ctxs := rfl
@[simp] theorem State.setCore_clock : (s.setCore c k).clock = s.clock := rfl
@[simp] theorem State.setCore_pins : (s.setCore c k).pins = s.pins := rfl
@[simp] theorem State.setCore_resets : (s.setCore c k).resets = s.resets := rfl
@[simp] theorem State.setCore_lint : (s.setCore c k).lint = s.lint := rfl
@[simp] theorem State.setCore_mgmt : (s.setCore c k).mgmt = s.mgmt := rfl
@[simp] theorem State.setCore_rack : (s.setCore c k).rack = s.rack := rfl
@[simp] theorem State.setCore_free : (s.setCore c k).free = s.free := rfl
@[simp] theorem State.setCore_pending : (s.setCore c k).pending = s.pending := rfl
end

section
variable (s : State) (c : CoreId) (f : Core → Core)
@[simp] theorem State.updCore_regs : (s.updCore c f).regs = s.regs := rfl
@[simp] theorem State.updCore_staged : (s.updCore c f).staged = s.staged := rfl
@[simp] theorem State.updCore_touched : (s.updCore c f).touched = s.touched := rfl
@[simp] theorem State.updCore_barOut : (s.updCore c f).barOut = s.barOut := rfl
@[simp] theorem State.updCore_dram : (s.updCore c f).dram = s.dram := rfl
@[simp] theorem State.updCore_xmem : (s.updCore c f).xmem = s.xmem := rfl
@[simp] theorem State.updCore_nor : (s.updCore c f).nor = s.nor := rfl
@[simp] theorem State.updCore_host : (s.updCore c f).host = s.host := rfl
@[simp] theorem State.updCore_cores : (s.updCore c f).cores = s.cores.set c (f s.cores[c]) := rfl
@[simp] theorem State.updCore_scale : (s.updCore c f).scale = s.scale := rfl
@[simp] theorem State.updCore_ecc : (s.updCore c f).ecc = s.ecc := rfl
@[simp] theorem State.updCore_xcache : (s.updCore c f).xcache = s.xcache := rfl
@[simp] theorem State.updCore_tier : (s.updCore c f).tier = s.tier := rfl
@[simp] theorem State.updCore_spin : (s.updCore c f).spin = s.spin := rfl
@[simp] theorem State.updCore_ports : (s.updCore c f).ports = s.ports := rfl
@[simp] theorem State.updCore_weave : (s.updCore c f).weave = s.weave := rfl
@[simp] theorem State.updCore_mangle : (s.updCore c f).mangle = s.mangle := rfl
@[simp] theorem State.updCore_hangers : (s.updCore c f).hangers = s.hangers := rfl
@[simp] theorem State.updCore_eng : (s.updCore c f).eng = s.eng := rfl
@[simp] theorem State.updCore_serving : (s.updCore c f).serving = s.serving := rfl
@[simp] theorem State.updCore_evict : (s.updCore c f).evict = s.evict := rfl
@[simp] theorem State.updCore_ctxs : (s.updCore c f).ctxs = s.ctxs := rfl
@[simp] theorem State.updCore_clock : (s.updCore c f).clock = s.clock := rfl
@[simp] theorem State.updCore_pins : (s.updCore c f).pins = s.pins := rfl
@[simp] theorem State.updCore_resets : (s.updCore c f).resets = s.resets := rfl
@[simp] theorem State.updCore_lint : (s.updCore c f).lint = s.lint := rfl
@[simp] theorem State.updCore_mgmt : (s.updCore c f).mgmt = s.mgmt := rfl
@[simp] theorem State.updCore_rack : (s.updCore c f).rack = s.rack := rfl
@[simp] theorem State.updCore_free : (s.updCore c f).free = s.free := rfl
@[simp] theorem State.updCore_pending : (s.updCore c f).pending = s.pending := rfl
end

section
variable (s : State) (p : PortId) (k : Port)
@[simp] theorem State.setPort_regs : (s.setPort p k).regs = s.regs := rfl
@[simp] theorem State.setPort_staged : (s.setPort p k).staged = s.staged := rfl
@[simp] theorem State.setPort_touched : (s.setPort p k).touched = s.touched := rfl
@[simp] theorem State.setPort_barOut : (s.setPort p k).barOut = s.barOut := rfl
@[simp] theorem State.setPort_dram : (s.setPort p k).dram = s.dram := rfl
@[simp] theorem State.setPort_xmem : (s.setPort p k).xmem = s.xmem := rfl
@[simp] theorem State.setPort_nor : (s.setPort p k).nor = s.nor := rfl
@[simp] theorem State.setPort_host : (s.setPort p k).host = s.host := rfl
@[simp] theorem State.setPort_cores : (s.setPort p k).cores = s.cores := rfl
@[simp] theorem State.setPort_scale : (s.setPort p k).scale = s.scale := rfl
@[simp] theorem State.setPort_ecc : (s.setPort p k).ecc = s.ecc := rfl
@[simp] theorem State.setPort_xcache : (s.setPort p k).xcache = s.xcache := rfl
@[simp] theorem State.setPort_tier : (s.setPort p k).tier = s.tier := rfl
@[simp] theorem State.setPort_spin : (s.setPort p k).spin = s.spin := rfl
@[simp] theorem State.setPort_ports : (s.setPort p k).ports = s.ports.set p k := rfl
@[simp] theorem State.setPort_weave : (s.setPort p k).weave = s.weave := rfl
@[simp] theorem State.setPort_mangle : (s.setPort p k).mangle = s.mangle := rfl
@[simp] theorem State.setPort_hangers : (s.setPort p k).hangers = s.hangers := rfl
@[simp] theorem State.setPort_eng : (s.setPort p k).eng = s.eng := rfl
@[simp] theorem State.setPort_serving : (s.setPort p k).serving = s.serving := rfl
@[simp] theorem State.setPort_evict : (s.setPort p k).evict = s.evict := rfl
@[simp] theorem State.setPort_ctxs : (s.setPort p k).ctxs = s.ctxs := rfl
@[simp] theorem State.setPort_clock : (s.setPort p k).clock = s.clock := rfl
@[simp] theorem State.setPort_pins : (s.setPort p k).pins = s.pins := rfl
@[simp] theorem State.setPort_resets : (s.setPort p k).resets = s.resets := rfl
@[simp] theorem State.setPort_lint : (s.setPort p k).lint = s.lint := rfl
@[simp] theorem State.setPort_mgmt : (s.setPort p k).mgmt = s.mgmt := rfl
@[simp] theorem State.setPort_rack : (s.setPort p k).rack = s.rack := rfl
@[simp] theorem State.setPort_free : (s.setPort p k).free = s.free := rfl
@[simp] theorem State.setPort_pending : (s.setPort p k).pending = s.pending := rfl
end

section
variable (s : State) (p : PortId) (f : Port → Port)
@[simp] theorem State.updPort_regs : (s.updPort p f).regs = s.regs := rfl
@[simp] theorem State.updPort_staged : (s.updPort p f).staged = s.staged := rfl
@[simp] theorem State.updPort_touched : (s.updPort p f).touched = s.touched := rfl
@[simp] theorem State.updPort_barOut : (s.updPort p f).barOut = s.barOut := rfl
@[simp] theorem State.updPort_dram : (s.updPort p f).dram = s.dram := rfl
@[simp] theorem State.updPort_xmem : (s.updPort p f).xmem = s.xmem := rfl
@[simp] theorem State.updPort_nor : (s.updPort p f).nor = s.nor := rfl
@[simp] theorem State.updPort_host : (s.updPort p f).host = s.host := rfl
@[simp] theorem State.updPort_cores : (s.updPort p f).cores = s.cores := rfl
@[simp] theorem State.updPort_scale : (s.updPort p f).scale = s.scale := rfl
@[simp] theorem State.updPort_ecc : (s.updPort p f).ecc = s.ecc := rfl
@[simp] theorem State.updPort_xcache : (s.updPort p f).xcache = s.xcache := rfl
@[simp] theorem State.updPort_tier : (s.updPort p f).tier = s.tier := rfl
@[simp] theorem State.updPort_spin : (s.updPort p f).spin = s.spin := rfl
@[simp] theorem State.updPort_ports : (s.updPort p f).ports = s.ports.set p (f s.ports[p]) := rfl
@[simp] theorem State.updPort_weave : (s.updPort p f).weave = s.weave := rfl
@[simp] theorem State.updPort_mangle : (s.updPort p f).mangle = s.mangle := rfl
@[simp] theorem State.updPort_hangers : (s.updPort p f).hangers = s.hangers := rfl
@[simp] theorem State.updPort_eng : (s.updPort p f).eng = s.eng := rfl
@[simp] theorem State.updPort_serving : (s.updPort p f).serving = s.serving := rfl
@[simp] theorem State.updPort_evict : (s.updPort p f).evict = s.evict := rfl
@[simp] theorem State.updPort_ctxs : (s.updPort p f).ctxs = s.ctxs := rfl
@[simp] theorem State.updPort_clock : (s.updPort p f).clock = s.clock := rfl
@[simp] theorem State.updPort_pins : (s.updPort p f).pins = s.pins := rfl
@[simp] theorem State.updPort_resets : (s.updPort p f).resets = s.resets := rfl
@[simp] theorem State.updPort_lint : (s.updPort p f).lint = s.lint := rfl
@[simp] theorem State.updPort_mgmt : (s.updPort p f).mgmt = s.mgmt := rfl
@[simp] theorem State.updPort_rack : (s.updPort p f).rack = s.rack := rfl
@[simp] theorem State.updPort_free : (s.updPort p f).free = s.free := rfl
@[simp] theorem State.updPort_pending : (s.updPort p f).pending = s.pending := rfl
end

section
variable (s : State) (n : CtxId) (f : Ctx → Ctx)
@[simp] theorem State.updCtx_regs : (s.updCtx n f).regs = s.regs := rfl
@[simp] theorem State.updCtx_staged : (s.updCtx n f).staged = s.staged := rfl
@[simp] theorem State.updCtx_touched : (s.updCtx n f).touched = s.touched := rfl
@[simp] theorem State.updCtx_barOut : (s.updCtx n f).barOut = s.barOut := rfl
@[simp] theorem State.updCtx_dram : (s.updCtx n f).dram = s.dram := rfl
@[simp] theorem State.updCtx_xmem : (s.updCtx n f).xmem = s.xmem := rfl
@[simp] theorem State.updCtx_nor : (s.updCtx n f).nor = s.nor := rfl
@[simp] theorem State.updCtx_host : (s.updCtx n f).host = s.host := rfl
@[simp] theorem State.updCtx_cores : (s.updCtx n f).cores = s.cores := rfl
@[simp] theorem State.updCtx_scale : (s.updCtx n f).scale = s.scale := rfl
@[simp] theorem State.updCtx_ecc : (s.updCtx n f).ecc = s.ecc := rfl
@[simp] theorem State.updCtx_xcache : (s.updCtx n f).xcache = s.xcache := rfl
@[simp] theorem State.updCtx_tier : (s.updCtx n f).tier = s.tier := rfl
@[simp] theorem State.updCtx_spin : (s.updCtx n f).spin = s.spin := rfl
@[simp] theorem State.updCtx_ports : (s.updCtx n f).ports = s.ports := rfl
@[simp] theorem State.updCtx_weave : (s.updCtx n f).weave = s.weave := rfl
@[simp] theorem State.updCtx_mangle : (s.updCtx n f).mangle = s.mangle := rfl
@[simp] theorem State.updCtx_hangers : (s.updCtx n f).hangers = s.hangers := rfl
@[simp] theorem State.updCtx_eng : (s.updCtx n f).eng = s.eng := rfl
@[simp] theorem State.updCtx_serving : (s.updCtx n f).serving = s.serving := rfl
@[simp] theorem State.updCtx_evict : (s.updCtx n f).evict = s.evict := rfl
@[simp] theorem State.updCtx_ctxs : (s.updCtx n f).ctxs = s.ctxs.set n (f s.ctxs[n]) := rfl
@[simp] theorem State.updCtx_clock : (s.updCtx n f).clock = s.clock := rfl
@[simp] theorem State.updCtx_pins : (s.updCtx n f).pins = s.pins := rfl
@[simp] theorem State.updCtx_resets : (s.updCtx n f).resets = s.resets := rfl
@[simp] theorem State.updCtx_lint : (s.updCtx n f).lint = s.lint := rfl
@[simp] theorem State.updCtx_mgmt : (s.updCtx n f).mgmt = s.mgmt := rfl
@[simp] theorem State.updCtx_rack : (s.updCtx n f).rack = s.rack := rfl
@[simp] theorem State.updCtx_free : (s.updCtx n f).free = s.free := rfl
@[simp] theorem State.updCtx_pending : (s.updCtx n f).pending = s.pending := rfl
end

section
variable (s : State) (m : Fin 16) (f : Hanger → Hanger)
@[simp] theorem State.updHanger_regs : (s.updHanger m f).regs = s.regs := rfl
@[simp] theorem State.updHanger_staged : (s.updHanger m f).staged = s.staged := rfl
@[simp] theorem State.updHanger_touched : (s.updHanger m f).touched = s.touched := rfl
@[simp] theorem State.updHanger_barOut : (s.updHanger m f).barOut = s.barOut := rfl
@[simp] theorem State.updHanger_dram : (s.updHanger m f).dram = s.dram := rfl
@[simp] theorem State.updHanger_xmem : (s.updHanger m f).xmem = s.xmem := rfl
@[simp] theorem State.updHanger_nor : (s.updHanger m f).nor = s.nor := rfl
@[simp] theorem State.updHanger_host : (s.updHanger m f).host = s.host := rfl
@[simp] theorem State.updHanger_cores : (s.updHanger m f).cores = s.cores := rfl
@[simp] theorem State.updHanger_scale : (s.updHanger m f).scale = s.scale := rfl
@[simp] theorem State.updHanger_ecc : (s.updHanger m f).ecc = s.ecc := rfl
@[simp] theorem State.updHanger_xcache : (s.updHanger m f).xcache = s.xcache := rfl
@[simp] theorem State.updHanger_tier : (s.updHanger m f).tier = s.tier := rfl
@[simp] theorem State.updHanger_spin : (s.updHanger m f).spin = s.spin := rfl
@[simp] theorem State.updHanger_ports : (s.updHanger m f).ports = s.ports := rfl
@[simp] theorem State.updHanger_weave : (s.updHanger m f).weave = s.weave := rfl
@[simp] theorem State.updHanger_mangle : (s.updHanger m f).mangle = s.mangle := rfl
@[simp] theorem State.updHanger_hangers : (s.updHanger m f).hangers = s.hangers.set m (f s.hangers[m]) := rfl
@[simp] theorem State.updHanger_eng : (s.updHanger m f).eng = s.eng := rfl
@[simp] theorem State.updHanger_serving : (s.updHanger m f).serving = s.serving := rfl
@[simp] theorem State.updHanger_evict : (s.updHanger m f).evict = s.evict := rfl
@[simp] theorem State.updHanger_ctxs : (s.updHanger m f).ctxs = s.ctxs := rfl
@[simp] theorem State.updHanger_clock : (s.updHanger m f).clock = s.clock := rfl
@[simp] theorem State.updHanger_pins : (s.updHanger m f).pins = s.pins := rfl
@[simp] theorem State.updHanger_resets : (s.updHanger m f).resets = s.resets := rfl
@[simp] theorem State.updHanger_lint : (s.updHanger m f).lint = s.lint := rfl
@[simp] theorem State.updHanger_mgmt : (s.updHanger m f).mgmt = s.mgmt := rfl
@[simp] theorem State.updHanger_rack : (s.updHanger m f).rack = s.rack := rfl
@[simp] theorem State.updHanger_free : (s.updHanger m f).free = s.free := rfl
@[simp] theorem State.updHanger_pending : (s.updHanger m f).pending = s.pending := rfl
end

section
variable (s : State) (f : Tier → Tier)
@[simp] theorem State.updTier_regs : (s.updTier f).regs = s.regs := rfl
@[simp] theorem State.updTier_staged : (s.updTier f).staged = s.staged := rfl
@[simp] theorem State.updTier_touched : (s.updTier f).touched = s.touched := rfl
@[simp] theorem State.updTier_barOut : (s.updTier f).barOut = s.barOut := rfl
@[simp] theorem State.updTier_dram : (s.updTier f).dram = s.dram := rfl
@[simp] theorem State.updTier_xmem : (s.updTier f).xmem = s.xmem := rfl
@[simp] theorem State.updTier_nor : (s.updTier f).nor = s.nor := rfl
@[simp] theorem State.updTier_host : (s.updTier f).host = s.host := rfl
@[simp] theorem State.updTier_cores : (s.updTier f).cores = s.cores := rfl
@[simp] theorem State.updTier_scale : (s.updTier f).scale = s.scale := rfl
@[simp] theorem State.updTier_ecc : (s.updTier f).ecc = s.ecc := rfl
@[simp] theorem State.updTier_xcache : (s.updTier f).xcache = s.xcache := rfl
@[simp] theorem State.updTier_tier : (s.updTier f).tier = f s.tier := rfl
@[simp] theorem State.updTier_spin : (s.updTier f).spin = s.spin := rfl
@[simp] theorem State.updTier_ports : (s.updTier f).ports = s.ports := rfl
@[simp] theorem State.updTier_weave : (s.updTier f).weave = s.weave := rfl
@[simp] theorem State.updTier_mangle : (s.updTier f).mangle = s.mangle := rfl
@[simp] theorem State.updTier_hangers : (s.updTier f).hangers = s.hangers := rfl
@[simp] theorem State.updTier_eng : (s.updTier f).eng = s.eng := rfl
@[simp] theorem State.updTier_serving : (s.updTier f).serving = s.serving := rfl
@[simp] theorem State.updTier_evict : (s.updTier f).evict = s.evict := rfl
@[simp] theorem State.updTier_ctxs : (s.updTier f).ctxs = s.ctxs := rfl
@[simp] theorem State.updTier_clock : (s.updTier f).clock = s.clock := rfl
@[simp] theorem State.updTier_pins : (s.updTier f).pins = s.pins := rfl
@[simp] theorem State.updTier_resets : (s.updTier f).resets = s.resets := rfl
@[simp] theorem State.updTier_lint : (s.updTier f).lint = s.lint := rfl
@[simp] theorem State.updTier_mgmt : (s.updTier f).mgmt = s.mgmt := rfl
@[simp] theorem State.updTier_rack : (s.updTier f).rack = s.rack := rfl
@[simp] theorem State.updTier_free : (s.updTier f).free = s.free := rfl
@[simp] theorem State.updTier_pending : (s.updTier f).pending = s.pending := rfl
end

section
variable (s : State) (f : Engines → Engines)
@[simp] theorem State.updEng_regs : (s.updEng f).regs = s.regs := rfl
@[simp] theorem State.updEng_staged : (s.updEng f).staged = s.staged := rfl
@[simp] theorem State.updEng_touched : (s.updEng f).touched = s.touched := rfl
@[simp] theorem State.updEng_barOut : (s.updEng f).barOut = s.barOut := rfl
@[simp] theorem State.updEng_dram : (s.updEng f).dram = s.dram := rfl
@[simp] theorem State.updEng_xmem : (s.updEng f).xmem = s.xmem := rfl
@[simp] theorem State.updEng_nor : (s.updEng f).nor = s.nor := rfl
@[simp] theorem State.updEng_host : (s.updEng f).host = s.host := rfl
@[simp] theorem State.updEng_cores : (s.updEng f).cores = s.cores := rfl
@[simp] theorem State.updEng_scale : (s.updEng f).scale = s.scale := rfl
@[simp] theorem State.updEng_ecc : (s.updEng f).ecc = s.ecc := rfl
@[simp] theorem State.updEng_xcache : (s.updEng f).xcache = s.xcache := rfl
@[simp] theorem State.updEng_tier : (s.updEng f).tier = s.tier := rfl
@[simp] theorem State.updEng_spin : (s.updEng f).spin = s.spin := rfl
@[simp] theorem State.updEng_ports : (s.updEng f).ports = s.ports := rfl
@[simp] theorem State.updEng_weave : (s.updEng f).weave = s.weave := rfl
@[simp] theorem State.updEng_mangle : (s.updEng f).mangle = s.mangle := rfl
@[simp] theorem State.updEng_hangers : (s.updEng f).hangers = s.hangers := rfl
@[simp] theorem State.updEng_eng : (s.updEng f).eng = f s.eng := rfl
@[simp] theorem State.updEng_serving : (s.updEng f).serving = s.serving := rfl
@[simp] theorem State.updEng_evict : (s.updEng f).evict = s.evict := rfl
@[simp] theorem State.updEng_ctxs : (s.updEng f).ctxs = s.ctxs := rfl
@[simp] theorem State.updEng_clock : (s.updEng f).clock = s.clock := rfl
@[simp] theorem State.updEng_pins : (s.updEng f).pins = s.pins := rfl
@[simp] theorem State.updEng_resets : (s.updEng f).resets = s.resets := rfl
@[simp] theorem State.updEng_lint : (s.updEng f).lint = s.lint := rfl
@[simp] theorem State.updEng_mgmt : (s.updEng f).mgmt = s.mgmt := rfl
@[simp] theorem State.updEng_rack : (s.updEng f).rack = s.rack := rfl
@[simp] theorem State.updEng_free : (s.updEng f).free = s.free := rfl
@[simp] theorem State.updEng_pending : (s.updEng f).pending = s.pending := rfl
end

section
variable (s : State) (f : Ecc → Ecc)
@[simp] theorem State.updEcc_regs : (s.updEcc f).regs = s.regs := rfl
@[simp] theorem State.updEcc_staged : (s.updEcc f).staged = s.staged := rfl
@[simp] theorem State.updEcc_touched : (s.updEcc f).touched = s.touched := rfl
@[simp] theorem State.updEcc_barOut : (s.updEcc f).barOut = s.barOut := rfl
@[simp] theorem State.updEcc_dram : (s.updEcc f).dram = s.dram := rfl
@[simp] theorem State.updEcc_xmem : (s.updEcc f).xmem = s.xmem := rfl
@[simp] theorem State.updEcc_nor : (s.updEcc f).nor = s.nor := rfl
@[simp] theorem State.updEcc_host : (s.updEcc f).host = s.host := rfl
@[simp] theorem State.updEcc_cores : (s.updEcc f).cores = s.cores := rfl
@[simp] theorem State.updEcc_scale : (s.updEcc f).scale = s.scale := rfl
@[simp] theorem State.updEcc_ecc : (s.updEcc f).ecc = f s.ecc := rfl
@[simp] theorem State.updEcc_xcache : (s.updEcc f).xcache = s.xcache := rfl
@[simp] theorem State.updEcc_tier : (s.updEcc f).tier = s.tier := rfl
@[simp] theorem State.updEcc_spin : (s.updEcc f).spin = s.spin := rfl
@[simp] theorem State.updEcc_ports : (s.updEcc f).ports = s.ports := rfl
@[simp] theorem State.updEcc_weave : (s.updEcc f).weave = s.weave := rfl
@[simp] theorem State.updEcc_mangle : (s.updEcc f).mangle = s.mangle := rfl
@[simp] theorem State.updEcc_hangers : (s.updEcc f).hangers = s.hangers := rfl
@[simp] theorem State.updEcc_eng : (s.updEcc f).eng = s.eng := rfl
@[simp] theorem State.updEcc_serving : (s.updEcc f).serving = s.serving := rfl
@[simp] theorem State.updEcc_evict : (s.updEcc f).evict = s.evict := rfl
@[simp] theorem State.updEcc_ctxs : (s.updEcc f).ctxs = s.ctxs := rfl
@[simp] theorem State.updEcc_clock : (s.updEcc f).clock = s.clock := rfl
@[simp] theorem State.updEcc_pins : (s.updEcc f).pins = s.pins := rfl
@[simp] theorem State.updEcc_resets : (s.updEcc f).resets = s.resets := rfl
@[simp] theorem State.updEcc_lint : (s.updEcc f).lint = s.lint := rfl
@[simp] theorem State.updEcc_mgmt : (s.updEcc f).mgmt = s.mgmt := rfl
@[simp] theorem State.updEcc_rack : (s.updEcc f).rack = s.rack := rfl
@[simp] theorem State.updEcc_free : (s.updEcc f).free = s.free := rfl
@[simp] theorem State.updEcc_pending : (s.updEcc f).pending = s.pending := rfl
end

section
variable (s : State) (f : Clock → Clock)
@[simp] theorem State.updClock_regs : (s.updClock f).regs = s.regs := rfl
@[simp] theorem State.updClock_staged : (s.updClock f).staged = s.staged := rfl
@[simp] theorem State.updClock_touched : (s.updClock f).touched = s.touched := rfl
@[simp] theorem State.updClock_barOut : (s.updClock f).barOut = s.barOut := rfl
@[simp] theorem State.updClock_dram : (s.updClock f).dram = s.dram := rfl
@[simp] theorem State.updClock_xmem : (s.updClock f).xmem = s.xmem := rfl
@[simp] theorem State.updClock_nor : (s.updClock f).nor = s.nor := rfl
@[simp] theorem State.updClock_host : (s.updClock f).host = s.host := rfl
@[simp] theorem State.updClock_cores : (s.updClock f).cores = s.cores := rfl
@[simp] theorem State.updClock_scale : (s.updClock f).scale = s.scale := rfl
@[simp] theorem State.updClock_ecc : (s.updClock f).ecc = s.ecc := rfl
@[simp] theorem State.updClock_xcache : (s.updClock f).xcache = s.xcache := rfl
@[simp] theorem State.updClock_tier : (s.updClock f).tier = s.tier := rfl
@[simp] theorem State.updClock_spin : (s.updClock f).spin = s.spin := rfl
@[simp] theorem State.updClock_ports : (s.updClock f).ports = s.ports := rfl
@[simp] theorem State.updClock_weave : (s.updClock f).weave = s.weave := rfl
@[simp] theorem State.updClock_mangle : (s.updClock f).mangle = s.mangle := rfl
@[simp] theorem State.updClock_hangers : (s.updClock f).hangers = s.hangers := rfl
@[simp] theorem State.updClock_eng : (s.updClock f).eng = s.eng := rfl
@[simp] theorem State.updClock_serving : (s.updClock f).serving = s.serving := rfl
@[simp] theorem State.updClock_evict : (s.updClock f).evict = s.evict := rfl
@[simp] theorem State.updClock_ctxs : (s.updClock f).ctxs = s.ctxs := rfl
@[simp] theorem State.updClock_clock : (s.updClock f).clock = f s.clock := rfl
@[simp] theorem State.updClock_pins : (s.updClock f).pins = s.pins := rfl
@[simp] theorem State.updClock_resets : (s.updClock f).resets = s.resets := rfl
@[simp] theorem State.updClock_lint : (s.updClock f).lint = s.lint := rfl
@[simp] theorem State.updClock_mgmt : (s.updClock f).mgmt = s.mgmt := rfl
@[simp] theorem State.updClock_rack : (s.updClock f).rack = s.rack := rfl
@[simp] theorem State.updClock_free : (s.updClock f).free = s.free := rfl
@[simp] theorem State.updClock_pending : (s.updClock f).pending = s.pending := rfl
end

section
variable (s : State) (f : Lint → Lint)
@[simp] theorem State.updLint_regs : (s.updLint f).regs = s.regs := rfl
@[simp] theorem State.updLint_staged : (s.updLint f).staged = s.staged := rfl
@[simp] theorem State.updLint_touched : (s.updLint f).touched = s.touched := rfl
@[simp] theorem State.updLint_barOut : (s.updLint f).barOut = s.barOut := rfl
@[simp] theorem State.updLint_dram : (s.updLint f).dram = s.dram := rfl
@[simp] theorem State.updLint_xmem : (s.updLint f).xmem = s.xmem := rfl
@[simp] theorem State.updLint_nor : (s.updLint f).nor = s.nor := rfl
@[simp] theorem State.updLint_host : (s.updLint f).host = s.host := rfl
@[simp] theorem State.updLint_cores : (s.updLint f).cores = s.cores := rfl
@[simp] theorem State.updLint_scale : (s.updLint f).scale = s.scale := rfl
@[simp] theorem State.updLint_ecc : (s.updLint f).ecc = s.ecc := rfl
@[simp] theorem State.updLint_xcache : (s.updLint f).xcache = s.xcache := rfl
@[simp] theorem State.updLint_tier : (s.updLint f).tier = s.tier := rfl
@[simp] theorem State.updLint_spin : (s.updLint f).spin = s.spin := rfl
@[simp] theorem State.updLint_ports : (s.updLint f).ports = s.ports := rfl
@[simp] theorem State.updLint_weave : (s.updLint f).weave = s.weave := rfl
@[simp] theorem State.updLint_mangle : (s.updLint f).mangle = s.mangle := rfl
@[simp] theorem State.updLint_hangers : (s.updLint f).hangers = s.hangers := rfl
@[simp] theorem State.updLint_eng : (s.updLint f).eng = s.eng := rfl
@[simp] theorem State.updLint_serving : (s.updLint f).serving = s.serving := rfl
@[simp] theorem State.updLint_evict : (s.updLint f).evict = s.evict := rfl
@[simp] theorem State.updLint_ctxs : (s.updLint f).ctxs = s.ctxs := rfl
@[simp] theorem State.updLint_clock : (s.updLint f).clock = s.clock := rfl
@[simp] theorem State.updLint_pins : (s.updLint f).pins = s.pins := rfl
@[simp] theorem State.updLint_resets : (s.updLint f).resets = s.resets := rfl
@[simp] theorem State.updLint_lint : (s.updLint f).lint = f s.lint := rfl
@[simp] theorem State.updLint_mgmt : (s.updLint f).mgmt = s.mgmt := rfl
@[simp] theorem State.updLint_rack : (s.updLint f).rack = s.rack := rfl
@[simp] theorem State.updLint_free : (s.updLint f).free = s.free := rfl
@[simp] theorem State.updLint_pending : (s.updLint f).pending = s.pending := rfl
end

section
variable (s : State) (f : Mgmt → Mgmt)
@[simp] theorem State.updMgmt_regs : (s.updMgmt f).regs = s.regs := rfl
@[simp] theorem State.updMgmt_staged : (s.updMgmt f).staged = s.staged := rfl
@[simp] theorem State.updMgmt_touched : (s.updMgmt f).touched = s.touched := rfl
@[simp] theorem State.updMgmt_barOut : (s.updMgmt f).barOut = s.barOut := rfl
@[simp] theorem State.updMgmt_dram : (s.updMgmt f).dram = s.dram := rfl
@[simp] theorem State.updMgmt_xmem : (s.updMgmt f).xmem = s.xmem := rfl
@[simp] theorem State.updMgmt_nor : (s.updMgmt f).nor = s.nor := rfl
@[simp] theorem State.updMgmt_host : (s.updMgmt f).host = s.host := rfl
@[simp] theorem State.updMgmt_cores : (s.updMgmt f).cores = s.cores := rfl
@[simp] theorem State.updMgmt_scale : (s.updMgmt f).scale = s.scale := rfl
@[simp] theorem State.updMgmt_ecc : (s.updMgmt f).ecc = s.ecc := rfl
@[simp] theorem State.updMgmt_xcache : (s.updMgmt f).xcache = s.xcache := rfl
@[simp] theorem State.updMgmt_tier : (s.updMgmt f).tier = s.tier := rfl
@[simp] theorem State.updMgmt_spin : (s.updMgmt f).spin = s.spin := rfl
@[simp] theorem State.updMgmt_ports : (s.updMgmt f).ports = s.ports := rfl
@[simp] theorem State.updMgmt_weave : (s.updMgmt f).weave = s.weave := rfl
@[simp] theorem State.updMgmt_mangle : (s.updMgmt f).mangle = s.mangle := rfl
@[simp] theorem State.updMgmt_hangers : (s.updMgmt f).hangers = s.hangers := rfl
@[simp] theorem State.updMgmt_eng : (s.updMgmt f).eng = s.eng := rfl
@[simp] theorem State.updMgmt_serving : (s.updMgmt f).serving = s.serving := rfl
@[simp] theorem State.updMgmt_evict : (s.updMgmt f).evict = s.evict := rfl
@[simp] theorem State.updMgmt_ctxs : (s.updMgmt f).ctxs = s.ctxs := rfl
@[simp] theorem State.updMgmt_clock : (s.updMgmt f).clock = s.clock := rfl
@[simp] theorem State.updMgmt_pins : (s.updMgmt f).pins = s.pins := rfl
@[simp] theorem State.updMgmt_resets : (s.updMgmt f).resets = s.resets := rfl
@[simp] theorem State.updMgmt_lint : (s.updMgmt f).lint = s.lint := rfl
@[simp] theorem State.updMgmt_mgmt : (s.updMgmt f).mgmt = f s.mgmt := rfl
@[simp] theorem State.updMgmt_rack : (s.updMgmt f).rack = s.rack := rfl
@[simp] theorem State.updMgmt_free : (s.updMgmt f).free = s.free := rfl
@[simp] theorem State.updMgmt_pending : (s.updMgmt f).pending = s.pending := rfl
end

section
variable (s : State) (f : Rack → Rack)
@[simp] theorem State.updRack_regs : (s.updRack f).regs = s.regs := rfl
@[simp] theorem State.updRack_staged : (s.updRack f).staged = s.staged := rfl
@[simp] theorem State.updRack_touched : (s.updRack f).touched = s.touched := rfl
@[simp] theorem State.updRack_barOut : (s.updRack f).barOut = s.barOut := rfl
@[simp] theorem State.updRack_dram : (s.updRack f).dram = s.dram := rfl
@[simp] theorem State.updRack_xmem : (s.updRack f).xmem = s.xmem := rfl
@[simp] theorem State.updRack_nor : (s.updRack f).nor = s.nor := rfl
@[simp] theorem State.updRack_host : (s.updRack f).host = s.host := rfl
@[simp] theorem State.updRack_cores : (s.updRack f).cores = s.cores := rfl
@[simp] theorem State.updRack_scale : (s.updRack f).scale = s.scale := rfl
@[simp] theorem State.updRack_ecc : (s.updRack f).ecc = s.ecc := rfl
@[simp] theorem State.updRack_xcache : (s.updRack f).xcache = s.xcache := rfl
@[simp] theorem State.updRack_tier : (s.updRack f).tier = s.tier := rfl
@[simp] theorem State.updRack_spin : (s.updRack f).spin = s.spin := rfl
@[simp] theorem State.updRack_ports : (s.updRack f).ports = s.ports := rfl
@[simp] theorem State.updRack_weave : (s.updRack f).weave = s.weave := rfl
@[simp] theorem State.updRack_mangle : (s.updRack f).mangle = s.mangle := rfl
@[simp] theorem State.updRack_hangers : (s.updRack f).hangers = s.hangers := rfl
@[simp] theorem State.updRack_eng : (s.updRack f).eng = s.eng := rfl
@[simp] theorem State.updRack_serving : (s.updRack f).serving = s.serving := rfl
@[simp] theorem State.updRack_evict : (s.updRack f).evict = s.evict := rfl
@[simp] theorem State.updRack_ctxs : (s.updRack f).ctxs = s.ctxs := rfl
@[simp] theorem State.updRack_clock : (s.updRack f).clock = s.clock := rfl
@[simp] theorem State.updRack_pins : (s.updRack f).pins = s.pins := rfl
@[simp] theorem State.updRack_resets : (s.updRack f).resets = s.resets := rfl
@[simp] theorem State.updRack_lint : (s.updRack f).lint = s.lint := rfl
@[simp] theorem State.updRack_mgmt : (s.updRack f).mgmt = s.mgmt := rfl
@[simp] theorem State.updRack_rack : (s.updRack f).rack = f s.rack := rfl
@[simp] theorem State.updRack_free : (s.updRack f).free = s.free := rfl
@[simp] theorem State.updRack_pending : (s.updRack f).pending = s.pending := rfl
end

section
variable (s : State) (f : Mangle → Mangle)
@[simp] theorem State.updMangle_regs : (s.updMangle f).regs = s.regs := rfl
@[simp] theorem State.updMangle_staged : (s.updMangle f).staged = s.staged := rfl
@[simp] theorem State.updMangle_touched : (s.updMangle f).touched = s.touched := rfl
@[simp] theorem State.updMangle_barOut : (s.updMangle f).barOut = s.barOut := rfl
@[simp] theorem State.updMangle_dram : (s.updMangle f).dram = s.dram := rfl
@[simp] theorem State.updMangle_xmem : (s.updMangle f).xmem = s.xmem := rfl
@[simp] theorem State.updMangle_nor : (s.updMangle f).nor = s.nor := rfl
@[simp] theorem State.updMangle_host : (s.updMangle f).host = s.host := rfl
@[simp] theorem State.updMangle_cores : (s.updMangle f).cores = s.cores := rfl
@[simp] theorem State.updMangle_scale : (s.updMangle f).scale = s.scale := rfl
@[simp] theorem State.updMangle_ecc : (s.updMangle f).ecc = s.ecc := rfl
@[simp] theorem State.updMangle_xcache : (s.updMangle f).xcache = s.xcache := rfl
@[simp] theorem State.updMangle_tier : (s.updMangle f).tier = s.tier := rfl
@[simp] theorem State.updMangle_spin : (s.updMangle f).spin = s.spin := rfl
@[simp] theorem State.updMangle_ports : (s.updMangle f).ports = s.ports := rfl
@[simp] theorem State.updMangle_weave : (s.updMangle f).weave = s.weave := rfl
@[simp] theorem State.updMangle_mangle : (s.updMangle f).mangle = f s.mangle := rfl
@[simp] theorem State.updMangle_hangers : (s.updMangle f).hangers = s.hangers := rfl
@[simp] theorem State.updMangle_eng : (s.updMangle f).eng = s.eng := rfl
@[simp] theorem State.updMangle_serving : (s.updMangle f).serving = s.serving := rfl
@[simp] theorem State.updMangle_evict : (s.updMangle f).evict = s.evict := rfl
@[simp] theorem State.updMangle_ctxs : (s.updMangle f).ctxs = s.ctxs := rfl
@[simp] theorem State.updMangle_clock : (s.updMangle f).clock = s.clock := rfl
@[simp] theorem State.updMangle_pins : (s.updMangle f).pins = s.pins := rfl
@[simp] theorem State.updMangle_resets : (s.updMangle f).resets = s.resets := rfl
@[simp] theorem State.updMangle_lint : (s.updMangle f).lint = s.lint := rfl
@[simp] theorem State.updMangle_mgmt : (s.updMangle f).mgmt = s.mgmt := rfl
@[simp] theorem State.updMangle_rack : (s.updMangle f).rack = s.rack := rfl
@[simp] theorem State.updMangle_free : (s.updMangle f).free = s.free := rfl
@[simp] theorem State.updMangle_pending : (s.updMangle f).pending = s.pending := rfl
end

section
variable (s : State) (f : Resets → Resets)
@[simp] theorem State.updResets_regs : (s.updResets f).regs = s.regs := rfl
@[simp] theorem State.updResets_staged : (s.updResets f).staged = s.staged := rfl
@[simp] theorem State.updResets_touched : (s.updResets f).touched = s.touched := rfl
@[simp] theorem State.updResets_barOut : (s.updResets f).barOut = s.barOut := rfl
@[simp] theorem State.updResets_dram : (s.updResets f).dram = s.dram := rfl
@[simp] theorem State.updResets_xmem : (s.updResets f).xmem = s.xmem := rfl
@[simp] theorem State.updResets_nor : (s.updResets f).nor = s.nor := rfl
@[simp] theorem State.updResets_host : (s.updResets f).host = s.host := rfl
@[simp] theorem State.updResets_cores : (s.updResets f).cores = s.cores := rfl
@[simp] theorem State.updResets_scale : (s.updResets f).scale = s.scale := rfl
@[simp] theorem State.updResets_ecc : (s.updResets f).ecc = s.ecc := rfl
@[simp] theorem State.updResets_xcache : (s.updResets f).xcache = s.xcache := rfl
@[simp] theorem State.updResets_tier : (s.updResets f).tier = s.tier := rfl
@[simp] theorem State.updResets_spin : (s.updResets f).spin = s.spin := rfl
@[simp] theorem State.updResets_ports : (s.updResets f).ports = s.ports := rfl
@[simp] theorem State.updResets_weave : (s.updResets f).weave = s.weave := rfl
@[simp] theorem State.updResets_mangle : (s.updResets f).mangle = s.mangle := rfl
@[simp] theorem State.updResets_hangers : (s.updResets f).hangers = s.hangers := rfl
@[simp] theorem State.updResets_eng : (s.updResets f).eng = s.eng := rfl
@[simp] theorem State.updResets_serving : (s.updResets f).serving = s.serving := rfl
@[simp] theorem State.updResets_evict : (s.updResets f).evict = s.evict := rfl
@[simp] theorem State.updResets_ctxs : (s.updResets f).ctxs = s.ctxs := rfl
@[simp] theorem State.updResets_clock : (s.updResets f).clock = s.clock := rfl
@[simp] theorem State.updResets_pins : (s.updResets f).pins = s.pins := rfl
@[simp] theorem State.updResets_resets : (s.updResets f).resets = f s.resets := rfl
@[simp] theorem State.updResets_lint : (s.updResets f).lint = s.lint := rfl
@[simp] theorem State.updResets_mgmt : (s.updResets f).mgmt = s.mgmt := rfl
@[simp] theorem State.updResets_rack : (s.updResets f).rack = s.rack := rfl
@[simp] theorem State.updResets_free : (s.updResets f).free = s.free := rfl
@[simp] theorem State.updResets_pending : (s.updResets f).pending = s.pending := rfl
end

section
variable (s : State) (f : Weave → Weave)
@[simp] theorem State.updWeave_regs : (s.updWeave f).regs = s.regs := rfl
@[simp] theorem State.updWeave_staged : (s.updWeave f).staged = s.staged := rfl
@[simp] theorem State.updWeave_touched : (s.updWeave f).touched = s.touched := rfl
@[simp] theorem State.updWeave_barOut : (s.updWeave f).barOut = s.barOut := rfl
@[simp] theorem State.updWeave_dram : (s.updWeave f).dram = s.dram := rfl
@[simp] theorem State.updWeave_xmem : (s.updWeave f).xmem = s.xmem := rfl
@[simp] theorem State.updWeave_nor : (s.updWeave f).nor = s.nor := rfl
@[simp] theorem State.updWeave_host : (s.updWeave f).host = s.host := rfl
@[simp] theorem State.updWeave_cores : (s.updWeave f).cores = s.cores := rfl
@[simp] theorem State.updWeave_scale : (s.updWeave f).scale = s.scale := rfl
@[simp] theorem State.updWeave_ecc : (s.updWeave f).ecc = s.ecc := rfl
@[simp] theorem State.updWeave_xcache : (s.updWeave f).xcache = s.xcache := rfl
@[simp] theorem State.updWeave_tier : (s.updWeave f).tier = s.tier := rfl
@[simp] theorem State.updWeave_spin : (s.updWeave f).spin = s.spin := rfl
@[simp] theorem State.updWeave_ports : (s.updWeave f).ports = s.ports := rfl
@[simp] theorem State.updWeave_weave : (s.updWeave f).weave = f s.weave := rfl
@[simp] theorem State.updWeave_mangle : (s.updWeave f).mangle = s.mangle := rfl
@[simp] theorem State.updWeave_hangers : (s.updWeave f).hangers = s.hangers := rfl
@[simp] theorem State.updWeave_eng : (s.updWeave f).eng = s.eng := rfl
@[simp] theorem State.updWeave_serving : (s.updWeave f).serving = s.serving := rfl
@[simp] theorem State.updWeave_evict : (s.updWeave f).evict = s.evict := rfl
@[simp] theorem State.updWeave_ctxs : (s.updWeave f).ctxs = s.ctxs := rfl
@[simp] theorem State.updWeave_clock : (s.updWeave f).clock = s.clock := rfl
@[simp] theorem State.updWeave_pins : (s.updWeave f).pins = s.pins := rfl
@[simp] theorem State.updWeave_resets : (s.updWeave f).resets = s.resets := rfl
@[simp] theorem State.updWeave_lint : (s.updWeave f).lint = s.lint := rfl
@[simp] theorem State.updWeave_mgmt : (s.updWeave f).mgmt = s.mgmt := rfl
@[simp] theorem State.updWeave_rack : (s.updWeave f).rack = s.rack := rfl
@[simp] theorem State.updWeave_free : (s.updWeave f).free = s.free := rfl
@[simp] theorem State.updWeave_pending : (s.updWeave f).pending = s.pending := rfl
end

section
variable (s : State) (f : Spin → Spin)
@[simp] theorem State.updSpin_regs : (s.updSpin f).regs = s.regs := rfl
@[simp] theorem State.updSpin_staged : (s.updSpin f).staged = s.staged := rfl
@[simp] theorem State.updSpin_touched : (s.updSpin f).touched = s.touched := rfl
@[simp] theorem State.updSpin_barOut : (s.updSpin f).barOut = s.barOut := rfl
@[simp] theorem State.updSpin_dram : (s.updSpin f).dram = s.dram := rfl
@[simp] theorem State.updSpin_xmem : (s.updSpin f).xmem = s.xmem := rfl
@[simp] theorem State.updSpin_nor : (s.updSpin f).nor = s.nor := rfl
@[simp] theorem State.updSpin_host : (s.updSpin f).host = s.host := rfl
@[simp] theorem State.updSpin_cores : (s.updSpin f).cores = s.cores := rfl
@[simp] theorem State.updSpin_scale : (s.updSpin f).scale = s.scale := rfl
@[simp] theorem State.updSpin_ecc : (s.updSpin f).ecc = s.ecc := rfl
@[simp] theorem State.updSpin_xcache : (s.updSpin f).xcache = s.xcache := rfl
@[simp] theorem State.updSpin_tier : (s.updSpin f).tier = s.tier := rfl
@[simp] theorem State.updSpin_spin : (s.updSpin f).spin = f s.spin := rfl
@[simp] theorem State.updSpin_ports : (s.updSpin f).ports = s.ports := rfl
@[simp] theorem State.updSpin_weave : (s.updSpin f).weave = s.weave := rfl
@[simp] theorem State.updSpin_mangle : (s.updSpin f).mangle = s.mangle := rfl
@[simp] theorem State.updSpin_hangers : (s.updSpin f).hangers = s.hangers := rfl
@[simp] theorem State.updSpin_eng : (s.updSpin f).eng = s.eng := rfl
@[simp] theorem State.updSpin_serving : (s.updSpin f).serving = s.serving := rfl
@[simp] theorem State.updSpin_evict : (s.updSpin f).evict = s.evict := rfl
@[simp] theorem State.updSpin_ctxs : (s.updSpin f).ctxs = s.ctxs := rfl
@[simp] theorem State.updSpin_clock : (s.updSpin f).clock = s.clock := rfl
@[simp] theorem State.updSpin_pins : (s.updSpin f).pins = s.pins := rfl
@[simp] theorem State.updSpin_resets : (s.updSpin f).resets = s.resets := rfl
@[simp] theorem State.updSpin_lint : (s.updSpin f).lint = s.lint := rfl
@[simp] theorem State.updSpin_mgmt : (s.updSpin f).mgmt = s.mgmt := rfl
@[simp] theorem State.updSpin_rack : (s.updSpin f).rack = s.rack := rfl
@[simp] theorem State.updSpin_free : (s.updSpin f).free = s.free := rfl
@[simp] theorem State.updSpin_pending : (s.updSpin f).pending = s.pending := rfl
end

section
variable (s : State) (page idx off : Nat) (w : Word)
@[simp] theorem State.setWord_regs : (s.setWord page idx off w).regs = Sparse.put resetOfKey s.regs (regKey page idx off) w := rfl
@[simp] theorem State.setWord_staged : (s.setWord page idx off w).staged = s.staged := rfl
@[simp] theorem State.setWord_touched : (s.setWord page idx off w).touched = s.touched := rfl
@[simp] theorem State.setWord_barOut : (s.setWord page idx off w).barOut = s.barOut := rfl
@[simp] theorem State.setWord_dram : (s.setWord page idx off w).dram = s.dram := rfl
@[simp] theorem State.setWord_xmem : (s.setWord page idx off w).xmem = s.xmem := rfl
@[simp] theorem State.setWord_nor : (s.setWord page idx off w).nor = s.nor := rfl
@[simp] theorem State.setWord_host : (s.setWord page idx off w).host = s.host := rfl
@[simp] theorem State.setWord_cores : (s.setWord page idx off w).cores = s.cores := rfl
@[simp] theorem State.setWord_scale : (s.setWord page idx off w).scale = s.scale := rfl
@[simp] theorem State.setWord_ecc : (s.setWord page idx off w).ecc = s.ecc := rfl
@[simp] theorem State.setWord_xcache : (s.setWord page idx off w).xcache = s.xcache := rfl
@[simp] theorem State.setWord_tier : (s.setWord page idx off w).tier = s.tier := rfl
@[simp] theorem State.setWord_spin : (s.setWord page idx off w).spin = s.spin := rfl
@[simp] theorem State.setWord_ports : (s.setWord page idx off w).ports = s.ports := rfl
@[simp] theorem State.setWord_weave : (s.setWord page idx off w).weave = s.weave := rfl
@[simp] theorem State.setWord_mangle : (s.setWord page idx off w).mangle = s.mangle := rfl
@[simp] theorem State.setWord_hangers : (s.setWord page idx off w).hangers = s.hangers := rfl
@[simp] theorem State.setWord_eng : (s.setWord page idx off w).eng = s.eng := rfl
@[simp] theorem State.setWord_serving : (s.setWord page idx off w).serving = s.serving := rfl
@[simp] theorem State.setWord_evict : (s.setWord page idx off w).evict = s.evict := rfl
@[simp] theorem State.setWord_ctxs : (s.setWord page idx off w).ctxs = s.ctxs := rfl
@[simp] theorem State.setWord_clock : (s.setWord page idx off w).clock = s.clock := rfl
@[simp] theorem State.setWord_pins : (s.setWord page idx off w).pins = s.pins := rfl
@[simp] theorem State.setWord_resets : (s.setWord page idx off w).resets = s.resets := rfl
@[simp] theorem State.setWord_lint : (s.setWord page idx off w).lint = s.lint := rfl
@[simp] theorem State.setWord_mgmt : (s.setWord page idx off w).mgmt = s.mgmt := rfl
@[simp] theorem State.setWord_rack : (s.setWord page idx off w).rack = s.rack := rfl
@[simp] theorem State.setWord_free : (s.setWord page idx off w).free = s.free := rfl
@[simp] theorem State.setWord_pending : (s.setWord page idx off w).pending = s.pending := rfl
end

section
variable (s : State) (page idx : Nat) (f : Fld) (v : Nat)
@[simp] theorem State.setI_staged : (s.setI page idx f v).staged = s.staged := rfl
@[simp] theorem State.setI_touched : (s.setI page idx f v).touched = s.touched := rfl
@[simp] theorem State.setI_barOut : (s.setI page idx f v).barOut = s.barOut := rfl
@[simp] theorem State.setI_dram : (s.setI page idx f v).dram = s.dram := rfl
@[simp] theorem State.setI_xmem : (s.setI page idx f v).xmem = s.xmem := rfl
@[simp] theorem State.setI_nor : (s.setI page idx f v).nor = s.nor := rfl
@[simp] theorem State.setI_host : (s.setI page idx f v).host = s.host := rfl
@[simp] theorem State.setI_cores : (s.setI page idx f v).cores = s.cores := rfl
@[simp] theorem State.setI_scale : (s.setI page idx f v).scale = s.scale := rfl
@[simp] theorem State.setI_ecc : (s.setI page idx f v).ecc = s.ecc := rfl
@[simp] theorem State.setI_xcache : (s.setI page idx f v).xcache = s.xcache := rfl
@[simp] theorem State.setI_tier : (s.setI page idx f v).tier = s.tier := rfl
@[simp] theorem State.setI_spin : (s.setI page idx f v).spin = s.spin := rfl
@[simp] theorem State.setI_ports : (s.setI page idx f v).ports = s.ports := rfl
@[simp] theorem State.setI_weave : (s.setI page idx f v).weave = s.weave := rfl
@[simp] theorem State.setI_mangle : (s.setI page idx f v).mangle = s.mangle := rfl
@[simp] theorem State.setI_hangers : (s.setI page idx f v).hangers = s.hangers := rfl
@[simp] theorem State.setI_eng : (s.setI page idx f v).eng = s.eng := rfl
@[simp] theorem State.setI_serving : (s.setI page idx f v).serving = s.serving := rfl
@[simp] theorem State.setI_evict : (s.setI page idx f v).evict = s.evict := rfl
@[simp] theorem State.setI_ctxs : (s.setI page idx f v).ctxs = s.ctxs := rfl
@[simp] theorem State.setI_clock : (s.setI page idx f v).clock = s.clock := rfl
@[simp] theorem State.setI_pins : (s.setI page idx f v).pins = s.pins := rfl
@[simp] theorem State.setI_resets : (s.setI page idx f v).resets = s.resets := rfl
@[simp] theorem State.setI_lint : (s.setI page idx f v).lint = s.lint := rfl
@[simp] theorem State.setI_mgmt : (s.setI page idx f v).mgmt = s.mgmt := rfl
@[simp] theorem State.setI_rack : (s.setI page idx f v).rack = s.rack := rfl
@[simp] theorem State.setI_free : (s.setI page idx f v).free = s.free := rfl
@[simp] theorem State.setI_pending : (s.setI page idx f v).pending = s.pending := rfl
end

section
variable (s : State) (page : Nat) (f : Fld) (v : Nat)
@[simp] theorem State.set_staged : (s.set page f v).staged = s.staged := rfl
@[simp] theorem State.set_touched : (s.set page f v).touched = s.touched := rfl
@[simp] theorem State.set_barOut : (s.set page f v).barOut = s.barOut := rfl
@[simp] theorem State.set_dram : (s.set page f v).dram = s.dram := rfl
@[simp] theorem State.set_xmem : (s.set page f v).xmem = s.xmem := rfl
@[simp] theorem State.set_nor : (s.set page f v).nor = s.nor := rfl
@[simp] theorem State.set_host : (s.set page f v).host = s.host := rfl
@[simp] theorem State.set_cores : (s.set page f v).cores = s.cores := rfl
@[simp] theorem State.set_scale : (s.set page f v).scale = s.scale := rfl
@[simp] theorem State.set_ecc : (s.set page f v).ecc = s.ecc := rfl
@[simp] theorem State.set_xcache : (s.set page f v).xcache = s.xcache := rfl
@[simp] theorem State.set_tier : (s.set page f v).tier = s.tier := rfl
@[simp] theorem State.set_spin : (s.set page f v).spin = s.spin := rfl
@[simp] theorem State.set_ports : (s.set page f v).ports = s.ports := rfl
@[simp] theorem State.set_weave : (s.set page f v).weave = s.weave := rfl
@[simp] theorem State.set_mangle : (s.set page f v).mangle = s.mangle := rfl
@[simp] theorem State.set_hangers : (s.set page f v).hangers = s.hangers := rfl
@[simp] theorem State.set_eng : (s.set page f v).eng = s.eng := rfl
@[simp] theorem State.set_serving : (s.set page f v).serving = s.serving := rfl
@[simp] theorem State.set_evict : (s.set page f v).evict = s.evict := rfl
@[simp] theorem State.set_ctxs : (s.set page f v).ctxs = s.ctxs := rfl
@[simp] theorem State.set_clock : (s.set page f v).clock = s.clock := rfl
@[simp] theorem State.set_pins : (s.set page f v).pins = s.pins := rfl
@[simp] theorem State.set_resets : (s.set page f v).resets = s.resets := rfl
@[simp] theorem State.set_lint : (s.set page f v).lint = s.lint := rfl
@[simp] theorem State.set_mgmt : (s.set page f v).mgmt = s.mgmt := rfl
@[simp] theorem State.set_rack : (s.set page f v).rack = s.rack := rfl
@[simp] theorem State.set_free : (s.set page f v).free = s.free := rfl
@[simp] theorem State.set_pending : (s.set page f v).pending = s.pending := rfl
end

section
variable (s : State) (page : Nat) (f : Fld) (n : Nat)
@[simp] theorem State.add_staged : (s.add page f n).staged = s.staged := rfl
@[simp] theorem State.add_touched : (s.add page f n).touched = s.touched := rfl
@[simp] theorem State.add_barOut : (s.add page f n).barOut = s.barOut := rfl
@[simp] theorem State.add_dram : (s.add page f n).dram = s.dram := rfl
@[simp] theorem State.add_xmem : (s.add page f n).xmem = s.xmem := rfl
@[simp] theorem State.add_nor : (s.add page f n).nor = s.nor := rfl
@[simp] theorem State.add_host : (s.add page f n).host = s.host := rfl
@[simp] theorem State.add_cores : (s.add page f n).cores = s.cores := rfl
@[simp] theorem State.add_scale : (s.add page f n).scale = s.scale := rfl
@[simp] theorem State.add_ecc : (s.add page f n).ecc = s.ecc := rfl
@[simp] theorem State.add_xcache : (s.add page f n).xcache = s.xcache := rfl
@[simp] theorem State.add_tier : (s.add page f n).tier = s.tier := rfl
@[simp] theorem State.add_spin : (s.add page f n).spin = s.spin := rfl
@[simp] theorem State.add_ports : (s.add page f n).ports = s.ports := rfl
@[simp] theorem State.add_weave : (s.add page f n).weave = s.weave := rfl
@[simp] theorem State.add_mangle : (s.add page f n).mangle = s.mangle := rfl
@[simp] theorem State.add_hangers : (s.add page f n).hangers = s.hangers := rfl
@[simp] theorem State.add_eng : (s.add page f n).eng = s.eng := rfl
@[simp] theorem State.add_serving : (s.add page f n).serving = s.serving := rfl
@[simp] theorem State.add_evict : (s.add page f n).evict = s.evict := rfl
@[simp] theorem State.add_ctxs : (s.add page f n).ctxs = s.ctxs := rfl
@[simp] theorem State.add_clock : (s.add page f n).clock = s.clock := rfl
@[simp] theorem State.add_pins : (s.add page f n).pins = s.pins := rfl
@[simp] theorem State.add_resets : (s.add page f n).resets = s.resets := rfl
@[simp] theorem State.add_lint : (s.add page f n).lint = s.lint := rfl
@[simp] theorem State.add_mgmt : (s.add page f n).mgmt = s.mgmt := rfl
@[simp] theorem State.add_rack : (s.add page f n).rack = s.rack := rfl
@[simp] theorem State.add_free : (s.add page f n).free = s.free := rfl
@[simp] theorem State.add_pending : (s.add page f n).pending = s.pending := rfl
end

section
variable (s : State) (page bit : Nat)
@[simp] theorem State.latch_staged : (s.latch page bit).staged = s.staged := rfl
@[simp] theorem State.latch_touched : (s.latch page bit).touched = s.touched := rfl
@[simp] theorem State.latch_barOut : (s.latch page bit).barOut = s.barOut := rfl
@[simp] theorem State.latch_dram : (s.latch page bit).dram = s.dram := rfl
@[simp] theorem State.latch_xmem : (s.latch page bit).xmem = s.xmem := rfl
@[simp] theorem State.latch_nor : (s.latch page bit).nor = s.nor := rfl
@[simp] theorem State.latch_host : (s.latch page bit).host = s.host := rfl
@[simp] theorem State.latch_cores : (s.latch page bit).cores = s.cores := rfl
@[simp] theorem State.latch_scale : (s.latch page bit).scale = s.scale := rfl
@[simp] theorem State.latch_ecc : (s.latch page bit).ecc = s.ecc := rfl
@[simp] theorem State.latch_xcache : (s.latch page bit).xcache = s.xcache := rfl
@[simp] theorem State.latch_tier : (s.latch page bit).tier = s.tier := rfl
@[simp] theorem State.latch_spin : (s.latch page bit).spin = s.spin := rfl
@[simp] theorem State.latch_ports : (s.latch page bit).ports = s.ports := rfl
@[simp] theorem State.latch_weave : (s.latch page bit).weave = s.weave := rfl
@[simp] theorem State.latch_mangle : (s.latch page bit).mangle = s.mangle := rfl
@[simp] theorem State.latch_hangers : (s.latch page bit).hangers = s.hangers := rfl
@[simp] theorem State.latch_eng : (s.latch page bit).eng = s.eng := rfl
@[simp] theorem State.latch_serving : (s.latch page bit).serving = s.serving := rfl
@[simp] theorem State.latch_evict : (s.latch page bit).evict = s.evict := rfl
@[simp] theorem State.latch_ctxs : (s.latch page bit).ctxs = s.ctxs := rfl
@[simp] theorem State.latch_clock : (s.latch page bit).clock = s.clock := rfl
@[simp] theorem State.latch_pins : (s.latch page bit).pins = s.pins := rfl
@[simp] theorem State.latch_resets : (s.latch page bit).resets = s.resets := rfl
@[simp] theorem State.latch_lint : (s.latch page bit).lint = s.lint := rfl
@[simp] theorem State.latch_mgmt : (s.latch page bit).mgmt = s.mgmt := rfl
@[simp] theorem State.latch_rack : (s.latch page bit).rack = s.rack := rfl
@[simp] theorem State.latch_free : (s.latch page bit).free = s.free := rfl
@[simp] theorem State.latch_pending : (s.latch page bit).pending = s.pending := rfl
end

section
variable (s : State) (page : Nat) (f : Fld) (st : Status)
@[simp] theorem State.setStatus_staged : (s.setStatus page f st).staged = s.staged := rfl
@[simp] theorem State.setStatus_touched : (s.setStatus page f st).touched = s.touched := rfl
@[simp] theorem State.setStatus_barOut : (s.setStatus page f st).barOut = s.barOut := rfl
@[simp] theorem State.setStatus_dram : (s.setStatus page f st).dram = s.dram := rfl
@[simp] theorem State.setStatus_xmem : (s.setStatus page f st).xmem = s.xmem := rfl
@[simp] theorem State.setStatus_nor : (s.setStatus page f st).nor = s.nor := rfl
@[simp] theorem State.setStatus_host : (s.setStatus page f st).host = s.host := rfl
@[simp] theorem State.setStatus_cores : (s.setStatus page f st).cores = s.cores := rfl
@[simp] theorem State.setStatus_scale : (s.setStatus page f st).scale = s.scale := rfl
@[simp] theorem State.setStatus_ecc : (s.setStatus page f st).ecc = s.ecc := rfl
@[simp] theorem State.setStatus_xcache : (s.setStatus page f st).xcache = s.xcache := rfl
@[simp] theorem State.setStatus_tier : (s.setStatus page f st).tier = s.tier := rfl
@[simp] theorem State.setStatus_spin : (s.setStatus page f st).spin = s.spin := rfl
@[simp] theorem State.setStatus_ports : (s.setStatus page f st).ports = s.ports := rfl
@[simp] theorem State.setStatus_weave : (s.setStatus page f st).weave = s.weave := rfl
@[simp] theorem State.setStatus_mangle : (s.setStatus page f st).mangle = s.mangle := rfl
@[simp] theorem State.setStatus_hangers : (s.setStatus page f st).hangers = s.hangers := rfl
@[simp] theorem State.setStatus_eng : (s.setStatus page f st).eng = s.eng := rfl
@[simp] theorem State.setStatus_serving : (s.setStatus page f st).serving = s.serving := rfl
@[simp] theorem State.setStatus_evict : (s.setStatus page f st).evict = s.evict := rfl
@[simp] theorem State.setStatus_ctxs : (s.setStatus page f st).ctxs = s.ctxs := rfl
@[simp] theorem State.setStatus_clock : (s.setStatus page f st).clock = s.clock := rfl
@[simp] theorem State.setStatus_pins : (s.setStatus page f st).pins = s.pins := rfl
@[simp] theorem State.setStatus_resets : (s.setStatus page f st).resets = s.resets := rfl
@[simp] theorem State.setStatus_lint : (s.setStatus page f st).lint = s.lint := rfl
@[simp] theorem State.setStatus_mgmt : (s.setStatus page f st).mgmt = s.mgmt := rfl
@[simp] theorem State.setStatus_rack : (s.setStatus page f st).rack = s.rack := rfl
@[simp] theorem State.setStatus_free : (s.setStatus page f st).free = s.free := rfl
@[simp] theorem State.setStatus_pending : (s.setStatus page f st).pending = s.pending := rfl
end

end Sys2Proof.Machine
end

