-- ==== Sys2Proof/Laws/Registers.lean ====
section
/-!
SUPPORT. Register words and fields: what a field reads after a write of a word or of a field.
-/
namespace Sys2Proof.Machine

/-- The bits of a field's value. -/
theorem Fld.testBit_of (f : Fld) (w : Word) (i : Nat) :
    (f.of w).testBit i = (decide (i < f.width) && w.getLsbD (f.lsb + i)) := by
  simp [Fld.of, Nat.testBit_mod_two_pow, Nat.testBit_shiftRight, BitVec.getLsbD]

/-- The bits of a word after a write of a field. -/
theorem Fld.getLsbD_into (f : Fld) (w : Word) (v i : Nat) (hi : i < 32) :
    (f.into w v).getLsbD i =
      if f.lsb ≤ i ∧ i < f.lsb + f.width then v.testBit (i - f.lsb) else w.getLsbD i := by
  simp only [Fld.into, Fld.mask, BitVec.getLsbD_or, BitVec.getLsbD_and, BitVec.getLsbD_not, BitVec.getLsbD_shiftLeft,
    BitVec.getLsbD_ofNat, Nat.testBit_two_pow_sub_one, Nat.testBit_mod_two_pow, hi, decide_true, Bool.true_and]
  by_cases h1 : i < f.lsb
  · rw [if_neg (by omega)]; simp [h1]
  · by_cases h2 : i - f.lsb < f.width
    · rw [if_pos (by omega)]
      have : i - f.lsb < 32 := by omega
      simp [h1, h2, this]
    · rw [if_neg (by omega)]; simp [h1, h2]

/-- A field reads what was written to it, cut to its width. -/
theorem Fld.of_into (f : Fld) (w : Word) (v : Nat) (h : f.lsb + f.width ≤ 32) :
    f.of (f.into w v) = v % 2 ^ f.width := by
  apply Nat.eq_of_testBit_eq
  intro i
  rw [Fld.testBit_of, Nat.testBit_mod_two_pow]
  by_cases c : i < f.width
  · rw [Fld.getLsbD_into _ _ _ _ (by omega), if_pos (by omega)]
    simp [c]
  · simp [c]

/-- A field that shares no bit with the one written reads as before. -/
theorem Fld.of_into_ne (f g : Fld) (w : Word) (v : Nat)
    (h : g.lsb + g.width ≤ f.lsb ∨ f.lsb + f.width ≤ g.lsb) : f.of (g.into w v) = f.of w := by
  apply Nat.eq_of_testBit_eq
  intro i
  rw [Fld.testBit_of, Fld.testBit_of]
  by_cases c : i < f.width
  · by_cases c2 : f.lsb + i < 32
    · rw [Fld.getLsbD_into _ _ _ _ c2, if_neg (by omega)]
    · rw [BitVec.getLsbD_of_ge _ _ (by omega), BitVec.getLsbD_of_ge _ _ (by omega)]
  · simp [c]

/-- A field's value fits its width. -/
theorem Fld.of_lt (f : Fld) (w : Word) : f.of w < 2 ^ f.width := Nat.mod_lt _ (Nat.two_pow_pos _)

/-- Two register words lie at one key only when page, entry and offset agree. -/
theorem regKey_inj {p q i j a b : Nat} (hi : i < 2 ^ 16) (hj : j < 2 ^ 16) (ha : a < 2 ^ 12) (hb : b < 2 ^ 12) :
    regKey p i a = regKey q j b ↔ p = q ∧ i = j ∧ a = b := by
  unfold regKey; omega

variable {s : State}

/-- Reading a register word after a write of one. -/
theorem State.word_setWord (h : RegFile.wf s.regs = true) (p i o q j x : Nat) (w : Word) :
    (s.setWord p i o w).word q j x = if regKey q j x = regKey p i o then w else s.word q j x :=
  Sparse.get_put s.regs (regKey p i o) (regKey q j x) w h

/-- A write of a register word keeps the register file's canonical form. -/
theorem State.wf_setWord (h : RegFile.wf s.regs = true) (p i o : Nat) (w : Word) :
    RegFile.wf (s.setWord p i o w).regs = true := Sparse.wf_put s.regs _ w h

theorem State.wf_setI (h : RegFile.wf s.regs = true) (p i : Nat) (f : Fld) (v : Nat) :
    RegFile.wf (s.setI p i f v).regs = true := State.wf_setWord h _ _ _ _

theorem State.wf_set (h : RegFile.wf s.regs = true) (p : Nat) (f : Fld) (v : Nat) :
    RegFile.wf (s.set p f v).regs = true := State.wf_setI h _ _ _ _

/-- A word at another key reads as before. -/
theorem State.word_setI_ne (p i : Nat) (f : Fld) (v q j x : Nat) (h : regKey q j x ≠ regKey p i f.off) :
    (s.setI p i f v).word q j x = s.word q j x := Sparse.get_put_ne _ _ _ _ h

/-- A field reads what was written to it. -/
theorem State.getI_setI_self (h : RegFile.wf s.regs = true) (p i : Nat) (f : Fld) (v : Nat) (hf : f.lsb + f.width ≤ 32) :
    (s.setI p i f v).getI p i f = v % 2 ^ f.width := by
  rw [State.getI, State.setI, State.word_setWord h, if_pos rfl, Fld.of_into f _ v hf]

/-- A field at another key reads as before. -/
theorem State.getI_setI_ne (p i : Nat) (f : Fld) (v q j : Nat) (g : Fld) (h : regKey q j g.off ≠ regKey p i f.off) :
    (s.setI p i f v).getI q j g = s.getI q j g := by
  rw [State.getI, State.word_setI_ne _ _ _ _ _ _ _ h, State.getI]

/-- Another field of the word written reads as before. -/
theorem State.getI_setI_disjoint (h : RegFile.wf s.regs = true) (p i : Nat) (f g : Fld) (v : Nat) (ho : g.off = f.off)
    (hd : f.lsb + f.width ≤ g.lsb ∨ g.lsb + g.width ≤ f.lsb) : (s.setI p i f v).getI p i g = s.getI p i g := by
  rw [State.getI, State.setI, State.word_setWord h, ho, if_pos rfl, Fld.of_into_ne g f _ _ hd, State.getI, ho]

theorem State.get_set_self (h : RegFile.wf s.regs = true) (p : Nat) (f : Fld) (v : Nat) (hf : f.lsb + f.width ≤ 32) :
    (s.set p f v).get p f = v % 2 ^ f.width := State.getI_setI_self h p 0 f v hf

theorem State.get_set_ne (p : Nat) (f : Fld) (v q : Nat) (g : Fld) (h : regKey q 0 g.off ≠ regKey p 0 f.off) :
    (s.set p f v).get q g = s.get q g := State.getI_setI_ne p 0 f v q 0 g h

theorem State.get_set_disjoint (h : RegFile.wf s.regs = true) (p : Nat) (f g : Fld) (v : Nat) (ho : g.off = f.off)
    (hd : f.lsb + f.width ≤ g.lsb ∨ g.lsb + g.width ≤ f.lsb) : (s.set p f v).get p g = s.get p g :=
  State.getI_setI_disjoint h p 0 f g v ho hd

/-- A counter that is added to saturates. -/
theorem State.get_add_self (h : RegFile.wf s.regs = true) (p : Nat) (f : Fld) (n : Nat) (hf : f.lsb + f.width ≤ 32) :
    (s.add p f n).get p f = min (s.get p f + n) (2 ^ f.width - 1) := by
  have e : (s.add p f n).get p f = min (s.get p f + n) (2 ^ f.width - 1) % 2 ^ f.width := State.get_set_self h p f _ hf
  have := Nat.two_pow_pos f.width
  rw [e, Nat.mod_eq_of_lt (by omega)]

/-! Units of the state. -/

@[simp] theorem State.core_setCore (c d : CoreId) (k : Core) : (s.setCore c k).core d = if d = c then k else s.core d := by
  by_cases e : d = c
  · subst e; simp [State.core]
  · have : c.1 ≠ d.1 := fun h => e (Fin.ext h.symm)
    simp [State.core, e, Vector.getElem_set_ne _ _ this]

@[simp] theorem State.core_updCore (c d : CoreId) (f : Core → Core) :
    (s.updCore c f).core d = if d = c then f (s.core c) else s.core d := State.core_setCore c d _

@[simp] theorem State.port_setPort (p q : PortId) (k : Port) : (s.setPort p k).port q = if q = p then k else s.port q := by
  by_cases e : q = p
  · subst e; simp [State.port]
  · have : p.1 ≠ q.1 := fun h => e (Fin.ext h.symm)
    simp [State.port, e, Vector.getElem_set_ne _ _ this]

@[simp] theorem State.port_updPort (p q : PortId) (f : Port → Port) :
    (s.updPort p f).port q = if q = p then f (s.port p) else s.port q := State.port_setPort p q _

@[simp] theorem State.ctx_updCtx (n m : CtxId) (f : Ctx → Ctx) :
    (s.updCtx n f).ctx m = if m = n then f (s.ctx n) else s.ctx m := by
  by_cases e : m = n
  · subst e; simp [State.ctx]
  · have : n.1 ≠ m.1 := fun h => e (Fin.ext h.symm)
    simp [State.ctx, e, Vector.getElem_set_ne _ _ this]

@[simp] theorem State.hanger_updHanger (m n : Fin 16) (f : Hanger → Hanger) :
    (s.updHanger m f).hanger n = if n = m then f (s.hanger m) else s.hanger n := by
  by_cases e : n = m
  · subst e; simp [State.hanger]
  · have : m.1 ≠ n.1 := fun h => e (Fin.ext h.symm)
    simp [State.hanger, e, Vector.getElem_set_ne _ _ this]

/-- An update of one unit of the state leaves every register word. -/
@[simp] theorem State.word_updCore (c : CoreId) (f : Core → Core) (p i o : Nat) :
    (s.updCore c f).word p i o = s.word p i o := rfl
@[simp] theorem State.word_updPort (q : PortId) (f : Port → Port) (p i o : Nat) :
    (s.updPort q f).word p i o = s.word p i o := rfl
@[simp] theorem State.word_updCtx (n : CtxId) (f : Ctx → Ctx) (p i o : Nat) : (s.updCtx n f).word p i o = s.word p i o := rfl
@[simp] theorem State.word_updLint (f : Lint → Lint) (p i o : Nat) : (s.updLint f).word p i o = s.word p i o := rfl
@[simp] theorem State.word_updMgmt (f : Mgmt → Mgmt) (p i o : Nat) : (s.updMgmt f).word p i o = s.word p i o := rfl
@[simp] theorem State.word_updResets (f : Resets → Resets) (p i o : Nat) : (s.updResets f).word p i o = s.word p i o := rfl
@[simp] theorem State.word_updTier (f : Tier → Tier) (p i o : Nat) : (s.updTier f).word p i o = s.word p i o := rfl
@[simp] theorem State.word_updEcc (f : Ecc → Ecc) (p i o : Nat) : (s.updEcc f).word p i o = s.word p i o := rfl
@[simp] theorem State.word_updClock (f : Clock → Clock) (p i o : Nat) : (s.updClock f).word p i o = s.word p i o := rfl
@[simp] theorem State.word_updWeave (f : Weave → Weave) (p i o : Nat) : (s.updWeave f).word p i o = s.word p i o := rfl
@[simp] theorem State.word_updSpin (f : Spin → Spin) (p i o : Nat) : (s.updSpin f).word p i o = s.word p i o := rfl
@[simp] theorem State.word_updMangle (f : Mangle → Mangle) (p i o : Nat) : (s.updMangle f).word p i o = s.word p i o := rfl
@[simp] theorem State.word_updEng (f : Engines → Engines) (p i o : Nat) : (s.updEng f).word p i o = s.word p i o := rfl
@[simp] theorem State.word_updRack (f : Rack → Rack) (p i o : Nat) : (s.updRack f).word p i o = s.word p i o := rfl
@[simp] theorem State.word_updHanger (m : Fin 16) (f : Hanger → Hanger) (p i o : Nat) :
    (s.updHanger m f).word p i o = s.word p i o := rfl

end Sys2Proof.Machine
end

