-- ==== Sys2Proof/Laws/Events.lean ====
section
/-!
SUPPORT. What raising an event can change: a few register words and Lint's buffers, and nothing else.
-/
namespace Sys2Proof.Machine

open Reg

/-- The keys of the register words that raising an event of a page may write. -/
def raiseKeys (page : Nat) : List Nat :=
  [regKey page 0 INT_STATUS_STATUS.off, regKey Page.chip 0 CHIP_STATUS_FATAL_SEEN.off, regKey Page.chip 0 CHIP_ALERT_PEND.off,
   regKey Page.chip 0 CHIP_ALERT_EVENT_EVENT.off, regKey Page.chip 0 INT_STATUS_STATUS.off,
   regKey Page.lint 0 LINT_FILTERED_COUNT.off, regKey Page.lint 0 LINT_DROPPED_COUNT.off]

/-- A state that differs from another in register words at some keys and in Lint's buffers alone. -/
def EventFrame (keys : List Nat) (s t : State) : Prop :=
  (∃ r b, t = { s with regs := r, lint := { s.lint with bufs := b } }) ∧ (RegFile.wf s.regs = true → RegFile.wf t.regs = true) ∧
    ∀ q j x, regKey q j x ∉ keys → t.word q j x = s.word q j x

theorem EventFrame.refl (keys : List Nat) (s : State) : EventFrame keys s s :=
  ⟨⟨s.regs, s.lint.bufs, rfl⟩, id, fun _ _ _ _ => rfl⟩

theorem EventFrame.trans {keys : List Nat} {s t u : State} (h : EventFrame keys s t) (g : EventFrame keys t u) :
    EventFrame keys s u := by
  obtain ⟨⟨r, b, rfl⟩, h2, h3⟩ := h
  obtain ⟨⟨r', b', rfl⟩, g2, g3⟩ := g
  exact ⟨⟨r', b', rfl⟩, fun w => g2 (h2 w), fun q j x n => (g3 q j x n).trans (h3 q j x n)⟩

theorem EventFrame.setWord {keys : List Nat} (s : State) (p i o : Nat) (w : Word) (h : regKey p i o ∈ keys) :
    EventFrame keys s (s.setWord p i o w) := by
  refine ⟨⟨_, s.lint.bufs, rfl⟩, fun g => State.wf_setWord g p i o w, fun q j x n => ?_⟩
  apply Sparse.get_put_ne
  intro e
  rw [e] at n
  exact n h

theorem EventFrame.set {keys : List Nat} (s : State) (p : Nat) (f : Fld) (v : Nat) (h : regKey p 0 f.off ∈ keys) :
    EventFrame keys s (s.set p f v) := EventFrame.setWord s p 0 f.off _ h

/-- Raising an event writes at most the words of `raiseKeys` and Lint's buffers. -/
theorem State.raise_frame (s : State) (page : Nat) (e : Ev) (org : BitVec 16) (args : List Word) :
    EventFrame (raiseKeys page) s (s.raise page e org args) := by
  have rec_ (s : State) : EventFrame (raiseKeys page) s (s.record page e org args) := by
    unfold State.record
    split
    · exact EventFrame.set _ _ _ _ (by simp [raiseKeys])
    · have bufs (b : List (Nat × List Event)) : EventFrame (raiseKeys page) s (s.updLint fun l => { l with bufs := b }) :=
        ⟨⟨s.regs, b, rfl⟩, id, fun _ _ _ _ => rfl⟩
      exact (bufs _).trans (EventFrame.set _ _ _ _ (by simp [raiseKeys]))
  have alert (s : State) : EventFrame (raiseKeys page) s (s.alert page e) := by
    unfold State.alert
    split
    · refine (EventFrame.set _ _ _ _ ?_).trans ((EventFrame.set _ _ _ _ ?_).trans (EventFrame.setWord _ _ _ _ _ ?_)) <;>
        simp [raiseKeys]
    · exact EventFrame.refl _ _
  have latched : EventFrame (raiseKeys page) s (s.latch page e.sev) := EventFrame.setWord _ _ _ _ _ (by simp [raiseKeys])
  unfold State.raise
  refine EventFrame.trans latched (EventFrame.trans ?_ ((alert _).trans (rec_ _)))
  split
  · exact EventFrame.set _ _ _ _ (by simp [raiseKeys])
  · exact EventFrame.refl _ _

section
variable (s : State) (page : Nat) (e : Ev) (org : BitVec 16) (args : List Word)

theorem State.raise_wf (h : RegFile.wf s.regs = true) : RegFile.wf (s.raise page e org args).regs = true :=
  (s.raise_frame page e org args).2.1 h

/-- A register word that no event writes reads as before. -/
theorem State.raise_word (q j x : Nat) (h : regKey q j x ∉ raiseKeys page) :
    (s.raise page e org args).word q j x = s.word q j x := (s.raise_frame page e org args).2.2 q j x h

@[simp] theorem State.raise_staged : (s.raise page e org args).staged = s.staged := by
  obtain ⟨⟨_, _, h⟩, _⟩ := s.raise_frame page e org args; rw [h]
@[simp] theorem State.raise_touched : (s.raise page e org args).touched = s.touched := by
  obtain ⟨⟨_, _, h⟩, _⟩ := s.raise_frame page e org args; rw [h]
@[simp] theorem State.raise_barOut : (s.raise page e org args).barOut = s.barOut := by
  obtain ⟨⟨_, _, h⟩, _⟩ := s.raise_frame page e org args; rw [h]
@[simp] theorem State.raise_dram : (s.raise page e org args).dram = s.dram := by
  obtain ⟨⟨_, _, h⟩, _⟩ := s.raise_frame page e org args; rw [h]
@[simp] theorem State.raise_xmem : (s.raise page e org args).xmem = s.xmem := by
  obtain ⟨⟨_, _, h⟩, _⟩ := s.raise_frame page e org args; rw [h]
@[simp] theorem State.raise_nor : (s.raise page e org args).nor = s.nor := by
  obtain ⟨⟨_, _, h⟩, _⟩ := s.raise_frame page e org args; rw [h]
@[simp] theorem State.raise_host : (s.raise page e org args).host = s.host := by
  obtain ⟨⟨_, _, h⟩, _⟩ := s.raise_frame page e org args; rw [h]
@[simp] theorem State.raise_cores : (s.raise page e org args).cores = s.cores := by
  obtain ⟨⟨_, _, h⟩, _⟩ := s.raise_frame page e org args; rw [h]
@[simp] theorem State.raise_scale : (s.raise page e org args).scale = s.scale := by
  obtain ⟨⟨_, _, h⟩, _⟩ := s.raise_frame page e org args; rw [h]
@[simp] theorem State.raise_ecc : (s.raise page e org args).ecc = s.ecc := by
  obtain ⟨⟨_, _, h⟩, _⟩ := s.raise_frame page e org args; rw [h]
@[simp] theorem State.raise_xcache : (s.raise page e org args).xcache = s.xcache := by
  obtain ⟨⟨_, _, h⟩, _⟩ := s.raise_frame page e org args; rw [h]
@[simp] theorem State.raise_tier : (s.raise page e org args).tier = s.tier := by
  obtain ⟨⟨_, _, h⟩, _⟩ := s.raise_frame page e org args; rw [h]
@[simp] theorem State.raise_spin : (s.raise page e org args).spin = s.spin := by
  obtain ⟨⟨_, _, h⟩, _⟩ := s.raise_frame page e org args; rw [h]
@[simp] theorem State.raise_ports : (s.raise page e org args).ports = s.ports := by
  obtain ⟨⟨_, _, h⟩, _⟩ := s.raise_frame page e org args; rw [h]
@[simp] theorem State.raise_weave : (s.raise page e org args).weave = s.weave := by
  obtain ⟨⟨_, _, h⟩, _⟩ := s.raise_frame page e org args; rw [h]
@[simp] theorem State.raise_mangle : (s.raise page e org args).mangle = s.mangle := by
  obtain ⟨⟨_, _, h⟩, _⟩ := s.raise_frame page e org args; rw [h]
@[simp] theorem State.raise_hangers : (s.raise page e org args).hangers = s.hangers := by
  obtain ⟨⟨_, _, h⟩, _⟩ := s.raise_frame page e org args; rw [h]
@[simp] theorem State.raise_eng : (s.raise page e org args).eng = s.eng := by
  obtain ⟨⟨_, _, h⟩, _⟩ := s.raise_frame page e org args; rw [h]
@[simp] theorem State.raise_serving : (s.raise page e org args).serving = s.serving := by
  obtain ⟨⟨_, _, h⟩, _⟩ := s.raise_frame page e org args; rw [h]
@[simp] theorem State.raise_evict : (s.raise page e org args).evict = s.evict := by
  obtain ⟨⟨_, _, h⟩, _⟩ := s.raise_frame page e org args; rw [h]
@[simp] theorem State.raise_ctxs : (s.raise page e org args).ctxs = s.ctxs := by
  obtain ⟨⟨_, _, h⟩, _⟩ := s.raise_frame page e org args; rw [h]
@[simp] theorem State.raise_clock : (s.raise page e org args).clock = s.clock := by
  obtain ⟨⟨_, _, h⟩, _⟩ := s.raise_frame page e org args; rw [h]
@[simp] theorem State.raise_pins : (s.raise page e org args).pins = s.pins := by
  obtain ⟨⟨_, _, h⟩, _⟩ := s.raise_frame page e org args; rw [h]
@[simp] theorem State.raise_resets : (s.raise page e org args).resets = s.resets := by
  obtain ⟨⟨_, _, h⟩, _⟩ := s.raise_frame page e org args; rw [h]
@[simp] theorem State.raise_mgmt : (s.raise page e org args).mgmt = s.mgmt := by
  obtain ⟨⟨_, _, h⟩, _⟩ := s.raise_frame page e org args; rw [h]
@[simp] theorem State.raise_rack : (s.raise page e org args).rack = s.rack := by
  obtain ⟨⟨_, _, h⟩, _⟩ := s.raise_frame page e org args; rw [h]
@[simp] theorem State.raise_free : (s.raise page e org args).free = s.free := by
  obtain ⟨⟨_, _, h⟩, _⟩ := s.raise_frame page e org args; rw [h]
@[simp] theorem State.raise_pending : (s.raise page e org args).pending = s.pending := by
  obtain ⟨⟨_, _, h⟩, _⟩ := s.raise_frame page e org args; rw [h]
@[simp] theorem State.raise_lint_slots : (s.raise page e org args).lint.slots = s.lint.slots := by
  obtain ⟨⟨_, _, h⟩, _⟩ := s.raise_frame page e org args; rw [h]
@[simp] theorem State.raise_lint_ring : (s.raise page e org args).lint.ring = s.lint.ring := by
  obtain ⟨⟨_, _, h⟩, _⟩ := s.raise_frame page e org args; rw [h]
end

end Sys2Proof.Machine
end

