-- ==== Sys2Proof/Laws/Keeps.lean ====
section
/-!
SUPPORT. What every operation of the model keeps: the canonical form of registers and memories, and the queue of commands. One
lemma for each operation that others are built of.
-/
namespace Sys2Proof.Machine

open Reg

/-- A core whose memories are in canonical form. -/
theorem Core.canonical_iff (k : Core) : k.canonical = true ↔
    Memory.wf ramFill k.cmem = true ∧ Memory.wf ramFill k.min = true ∧ Memory.wf ramFill k.acc = true ∧
      Memory.wf ramFill k.vec = true ∧ Memory.wf ramFill k.imem = true ∧ Memory.wf ramFill k.stg = true := by
  simp [Core.canonical, and_assoc]

/-- The parts of a state in canonical form. -/
theorem State.canonical_iff (s : State) : s.canonical = true ↔
    RegFile.wf s.regs = true ∧ RegFile.wf s.staged = true ∧ Memory.wf ramFill s.dram = true ∧ Memory.wf ramFill s.xmem = true ∧
      Memory.wf norFill s.nor = true ∧ Memory.wf ramFill s.host = true ∧ ∀ c : CoreId, (s.core c).canonical = true := by
  have h : s.cores.all Core.canonical = true ↔ ∀ c : CoreId, (s.core c).canonical = true := by
    rw [Vector.all_eq_true]
    exact ⟨fun h c => h c.1 c.2, fun h i hi => h ⟨i, hi⟩⟩
  simp only [State.canonical, Bool.and_eq_true, h, and_assoc]

theorem State.canonical_regs {s : State} (h : s.canonical = true) : RegFile.wf s.regs = true := ((State.canonical_iff s).1 h).1
theorem State.canonical_core {s : State} (h : s.canonical = true) (c : CoreId) : (s.core c).canonical = true :=
  ((State.canonical_iff s).1 h).2.2.2.2.2.2 c

/-- A step from `s` to `t` keeps the canonical form, and leaves the queue. -/
def Keeps (s t : State) : Prop := (s.canonical = true → t.canonical = true) ∧ t.pending = s.pending

theorem Keeps.refl (s : State) : Keeps s s := ⟨id, rfl⟩

theorem Keeps.trans {s t u : State} (h : Keeps s t) (g : Keeps t u) : Keeps s u :=
  ⟨fun x => g.1 (h.1 x), g.2.trans h.2⟩

theorem Keeps.ite {s : State} {p : Prop} [Decidable p] {t u : State} (h : p → Keeps s t) (g : ¬ p → Keeps s u) :
    Keeps s (if p then t else u) := by
  split
  · exact h ‹_›
  · exact g ‹_›

/-- An operation for every element of a list. -/
theorem Keeps.eachOf {α : Type} {f : α → State → State} (h : ∀ x s, Keeps s (f x s)) (l : List α) :
    ∀ s, Keeps s (Machine.eachOf l f s) := by
  induction l with
  | nil => exact Keeps.refl
  | cons x r ih => exact fun s => (h x s).trans (ih (f x s))

/-- A change of what is neither a register, nor a memory, nor a core, nor the queue. -/
theorem Keeps.of_eq {s t : State} (h1 : t.regs = s.regs) (h2 : t.staged = s.staged) (h3 : t.dram = s.dram)
    (h4 : t.xmem = s.xmem) (h5 : t.nor = s.nor) (h6 : t.host = s.host) (h7 : t.cores = s.cores)
    (h8 : t.pending = s.pending) : Keeps s t := by
  refine ⟨fun h => ?_, h8⟩
  simpa only [State.canonical, h1, h2, h3, h4, h5, h6, h7] using h

section
variable (s : State)

theorem Keeps.updTier (f : Tier → Tier) : Keeps s (s.updTier f) := Keeps.of_eq rfl rfl rfl rfl rfl rfl rfl rfl
theorem Keeps.updEng (f : Engines → Engines) : Keeps s (s.updEng f) := Keeps.of_eq rfl rfl rfl rfl rfl rfl rfl rfl
theorem Keeps.updEcc (f : Ecc → Ecc) : Keeps s (s.updEcc f) := Keeps.of_eq rfl rfl rfl rfl rfl rfl rfl rfl
theorem Keeps.updClock (f : Clock → Clock) : Keeps s (s.updClock f) := Keeps.of_eq rfl rfl rfl rfl rfl rfl rfl rfl
theorem Keeps.updLint (f : Lint → Lint) : Keeps s (s.updLint f) := Keeps.of_eq rfl rfl rfl rfl rfl rfl rfl rfl
theorem Keeps.updMgmt (f : Mgmt → Mgmt) : Keeps s (s.updMgmt f) := Keeps.of_eq rfl rfl rfl rfl rfl rfl rfl rfl
theorem Keeps.updRack (f : Rack → Rack) : Keeps s (s.updRack f) := Keeps.of_eq rfl rfl rfl rfl rfl rfl rfl rfl
theorem Keeps.updMangle (f : Mangle → Mangle) : Keeps s (s.updMangle f) := Keeps.of_eq rfl rfl rfl rfl rfl rfl rfl rfl
theorem Keeps.updResets (f : Resets → Resets) : Keeps s (s.updResets f) := Keeps.of_eq rfl rfl rfl rfl rfl rfl rfl rfl
theorem Keeps.updWeave (f : Weave → Weave) : Keeps s (s.updWeave f) := Keeps.of_eq rfl rfl rfl rfl rfl rfl rfl rfl
theorem Keeps.updSpin (f : Spin → Spin) : Keeps s (s.updSpin f) := Keeps.of_eq rfl rfl rfl rfl rfl rfl rfl rfl
theorem Keeps.updPort (p : PortId) (f : Port → Port) : Keeps s (s.updPort p f) := Keeps.of_eq rfl rfl rfl rfl rfl rfl rfl rfl
theorem Keeps.updCtx (n : CtxId) (f : Ctx → Ctx) : Keeps s (s.updCtx n f) := Keeps.of_eq rfl rfl rfl rfl rfl rfl rfl rfl
theorem Keeps.updHanger (m : Fin 16) (f : Hanger → Hanger) : Keeps s (s.updHanger m f) :=
  Keeps.of_eq rfl rfl rfl rfl rfl rfl rfl rfl
theorem Keeps.fresh : Keeps s s.fresh.2 := Keeps.of_eq rfl rfl rfl rfl rfl rfl rfl rfl

/-- A core takes another state whose memories are in canonical form. -/
theorem Keeps.setCore (c : CoreId) (k : Core) (h : s.canonical = true → k.canonical = true) : Keeps s (s.setCore c k) := by
  refine ⟨fun g => ?_, rfl⟩
  have g' := (State.canonical_iff s).1 g
  refine (State.canonical_iff _).2 ⟨g'.1, g'.2.1, g'.2.2.1, g'.2.2.2.1, g'.2.2.2.2.1, g'.2.2.2.2.2.1, fun d => ?_⟩
  rw [State.core_setCore]
  split
  · exact h g
  · exact g'.2.2.2.2.2.2 d

/-- An update of a core that keeps its memories in canonical form. -/
theorem Keeps.updCore (c : CoreId) (f : Core → Core) (h : ∀ k : Core, k.canonical = true → (f k).canonical = true) :
    Keeps s (s.updCore c f) := Keeps.setCore s c _ fun g => h _ (State.canonical_core g c)

/-- An update of a core beside its memories. -/
theorem Keeps.updCore_memless (c : CoreId) (f : Core → Core)
    (h : ∀ k : Core, (f k).cmem = k.cmem ∧ (f k).min = k.min ∧ (f k).acc = k.acc ∧ (f k).vec = k.vec ∧ (f k).imem = k.imem ∧
      (f k).stg = k.stg) : Keeps s (s.updCore c f) := by
  refine Keeps.updCore s c f fun k g => ?_
  obtain ⟨h1, h2, h3, h4, h5, h6⟩ := h k
  simpa only [Core.canonical, h1, h2, h3, h4, h5, h6] using g

/-- A write of a register word. -/
theorem Keeps.setWord (p i o : Nat) (w : Word) : Keeps s (s.setWord p i o w) := by
  refine ⟨fun g => ?_, rfl⟩
  have g' := (State.canonical_iff s).1 g
  exact (State.canonical_iff _).2 ⟨State.wf_setWord g'.1 p i o w, g'.2⟩

theorem Keeps.setI (p i : Nat) (f : Fld) (v : Nat) : Keeps s (s.setI p i f v) := Keeps.setWord s p i f.off _
theorem Keeps.set (p : Nat) (f : Fld) (v : Nat) : Keeps s (s.set p f v) := Keeps.setI s p 0 f v
theorem Keeps.setStatus (p : Nat) (f : Fld) (st : Status) : Keeps s (s.setStatus p f st) := Keeps.set s p f _
theorem Keeps.addI (p i : Nat) (f : Fld) (n : Nat) : Keeps s (s.addI p i f n) := Keeps.setI s p i f _
theorem Keeps.add (p : Nat) (f : Fld) (n : Nat) : Keeps s (s.add p f n) := Keeps.addI s p 0 f n
theorem Keeps.latch (p b : Nat) : Keeps s (s.latch p b) := Keeps.setWord s p 0 _ _

/-- Raising an event. -/
theorem Keeps.raise (p : Nat) (e : Ev) (org : BitVec 16) (args : List Word) : Keeps s (s.raise p e org args) := by
  refine ⟨fun g => ?_, State.raise_pending s p e org args⟩
  have g' := (State.canonical_iff s).1 g
  refine (State.canonical_iff _).2 ⟨State.raise_wf s p e org args g'.1, ?_⟩
  have hc (c : CoreId) : (s.raise p e org args).core c = s.core c := by simp [State.core]
  simpa only [State.raise_staged, State.raise_dram, State.raise_xmem, State.raise_nor, State.raise_host, hc] using g'.2

/-- A violation of the page header. -/
theorem Keeps.violate (p : Nat) (f : Fld) (path : Path) (off : Nat) : Keeps s (s.violate p f path off) := by
  unfold State.violate
  refine Keeps.trans (Keeps.trans (Keeps.set s p f 1) (Keeps.latch _ p 31)) (Keeps.ite (fun _ => ?_) (fun _ => ?_))
  · exact (Keeps.set _ _ _ _).trans ((Keeps.set _ _ _ _).trans ((Keeps.set _ _ _ _).trans (Keeps.set _ _ _ _)))
  · exact Keeps.set _ _ _ _

/-- The contents of a memory in canonical form. -/
theorem State.canonical_mem {s : State} (h : s.canonical = true) (m : MemId) : Memory.wf ramFill (s.mem m) = true := by
  have h' := (State.canonical_iff s).1 h
  have hk (c : CoreId) := (Core.canonical_iff _).1 (h'.2.2.2.2.2.2 c)
  cases m with
  | cmem c => exact (hk c).1
  | min c => exact (hk c).2.1
  | acc c => exact (hk c).2.2.1
  | vec c => exact (hk c).2.2.2.1
  | imem c => exact (hk c).2.2.2.2.1
  | stg c => exact (hk c).2.2.2.2.2
  | xmem => exact h'.2.2.2.1

/-- A memory takes other contents in canonical form. -/
theorem Keeps.setMem (m : MemId) (x : Mem) (h : s.canonical = true → Memory.wf ramFill x = true) : Keeps s (s.setMem m x) := by
  have core (c : CoreId) (f : Core → Core) (g : ∀ k : Core, Memory.wf ramFill x = true → k.canonical = true →
      (f k).canonical = true) : Keeps s (s.updCore c f) :=
    Keeps.setCore s c _ fun w => g _ (h w) (State.canonical_core w c)
  cases m with
  | xmem =>
    refine ⟨fun w => ?_, rfl⟩
    have w' := (State.canonical_iff s).1 w
    exact (State.canonical_iff _).2 ⟨w'.1, w'.2.1, w'.2.2.1, h w, w'.2.2.2.2⟩
  | _ =>
    refine core _ _ fun k hx hk => ?_
    have hk' := (Core.canonical_iff k).1 hk
    refine (Core.canonical_iff _).2 ?_
    simp_all

/-- A write of bytes of a memory. -/
theorem Keeps.writeMem (m : MemId) (a : Nat) (bs : List Byte) : Keeps s (s.writeMem m a bs) :=
  Keeps.trans (Keeps.setMem s m _ fun h => Mem.wf_write bs a (State.canonical_mem h m)) (Keeps.updEcc _ _)

end

/-- Entering the canonical form from a table of filtered words. -/
theorem RegFile.wf_filter {r : RegFile} (p : Nat × Word → Bool) (h : RegFile.wf r = true) :
    RegFile.wf (r.filter p) = true := Sparse.wf_filter r p h

/-- Return every register of a page to its reset value. -/
theorem Keeps.resetPage (s : State) (page : Nat) : Keeps s (s.resetPage page) := by
  refine ⟨fun g => ?_, rfl⟩
  have g' := (State.canonical_iff s).1 g
  exact (State.canonical_iff _).2 ⟨RegFile.wf_filter _ g'.1, RegFile.wf_filter _ g'.2.1, g'.2.2⟩

end Sys2Proof.Machine
end

