-- ==== Sys2Proof/Laws/Issue.lean ====
section
/-!
SUPPORT. What one slot operation does that no check stops: it gathers its destinations and its effects.
-/
namespace Sys2Proof.Machine

/-- The state in which a slot operation's issue checks are made, when its decode raises no fault: its destinations are named. -/
def State.named (s : State) (c : CoreId) (slot : Nat) (dests : List Dst) : State :=
  s.updCore c fun k => { k with bundle := { k.bundle with dests := k.bundle.dests ++ dests.map fun d => (slot, d) } }

theorem State.setCore_setCore (s : State) (c : CoreId) (k k' : Core) : (s.setCore c k).setCore c k' = s.setCore c k' := by
  simp [State.setCore]

theorem State.updCore_updCore (s : State) (c : CoreId) (f g : Core → Core) :
    (s.updCore c f).updCore c g = s.updCore c fun k => g (f k) := by
  simp only [State.updCore, State.core_setCore, if_true, State.setCore_setCore]

theorem State.updCore_self (s : State) (c : CoreId) : (s.updCore c fun k => k) = s := by
  simp [State.updCore, State.setCore, State.core]

/-- Naming destinations that no other slot of the bundle names raises no fault. -/
theorem State.nameDests_eq (c : CoreId) (slot : Nat) (ds : List Dst) : ∀ s : State,
    (∀ d ∈ ds, ∀ x ∈ (s.core c).bundle.dests, x.2 = d → x.1 = slot) → s.nameDests c slot ds = s.named c slot ds := by
  induction ds with
  | nil => intro s _; simp [State.nameDests, State.named, State.updCore_self]
  | cons d r ih =>
    intro s h
    have none_ : (s.core c).bundle.dests.find? (fun x => x.2 == d && x.1 != slot) = none := by
      rw [List.find?_eq_none]
      intro x hx hd
      simp only [Bool.and_eq_true, beq_iff_eq, bne_iff_ne] at hd
      exact hd.2 (h d (by simp) x hx hd.1)
    simp only [State.nameDests, none_]
    rw [ih]
    · simp [State.named, State.updCore_updCore]
    · intro e he x hx hxe
      simp only [State.core_updCore, if_true, List.mem_append, List.mem_singleton] at hx
      rcases hx with hx | rfl
      · exact h e (by simp [he]) x hx hxe
      · rfl

/-- What the fetch checks leave of a core: all but its bundle and the mark of an overrun. -/
theorem State.flaw_core (s : State) (c : CoreId) (rank : Nat) (x : Flaw) (slot : Nat) :
    (s.flaw c rank x slot).core c = { s.core c with bundle := (s.core c).bundle.fail rank x slot } := by
  simp [State.flaw]

/-- A slot operation that no check stops is issued: its bundle has its destinations and its effects too. -/
theorem State.slotOp_issued (s : State) (fr : Frame) (op : SlotOp) (effs : List Eff)
    (may : s.mayIssue fr.core = true)
    (holds : frameHolds fr ((s.openBundle fr.core).core fr.core) = true)
    (bad : op.bad = none)
    (delay : op.branch = true ∨ op.yields = true → ((s.openBundle fr.core).core fr.core).br = none)
    (near : op.retFar ((s.openBundle fr.core).named fr.core op.slot op.dests) ((s.openBundle fr.core).core fr.core) = false)
    (sole : ∀ d ∈ op.dests, ∀ x ∈ (s.bundleOf fr.core).dests, x.2 = d → x.1 = op.slot)
    (idle : let k := ((s.openBundle fr.core).named fr.core op.slot op.dests).core fr.core
      k.unitBusy op.units = false)
    (run : let t := (s.openBundle fr.core).named fr.core op.slot op.dests
      op.run t (t.core fr.core) = .ok effs)
    (apart : (((s.openBundle fr.core).named fr.core op.slot op.dests).core fr.core).collides effs = false) :
    s.slotOp fr op = s.issued fr op.slot op.dests
      (op.units.map (fun u => Eff.busy u
        (op.lag (((s.openBundle fr.core).named fr.core op.slot op.dests).core fr.core) + op.occ)) ++ effs) := by
  simp only at idle run
  have dec : (s.openBundle fr.core).decodeSlot fr.core op = (s.openBundle fr.core).named fr.core op.slot op.dests := by
    have hb : (op.branch && ((s.openBundle fr.core).core fr.core).br.isSome) = false := by
      by_cases h : op.branch = true
      · simp [delay (.inl h)]
      · simp [h]
    have hy : (op.yields && ((s.openBundle fr.core).core fr.core).br.isSome) = false := by
      by_cases h : op.yields = true
      · simp [delay (.inr h)]
      · simp [h]
    simp only [State.decodeSlot, bad, State.nameDests_eq fr.core op.slot op.dests _ sole, hb, hy, near,
      Bool.false_eq_true, if_false]
  have held : frameHolds fr (((s.openBundle fr.core).named fr.core op.slot op.dests).core fr.core) = true := by
    simpa [State.named, frameHolds, Core.rp] using holds
  simp only [State.slotOp, may, if_true, held, dec, State.issueSlot, idle, run, apart, Bool.false_eq_true, if_false,
    State.issued]
  simp only [State.named, State.updCore_updCore]
  try rfl

end Sys2Proof.Machine
end

