-- ==== Sys2Proof/Laws/Rack.lean ====
section
/-!
SUPPORT. What the commands of the rack can change of the rack: a cap or a lamp that the TC writes on this chip leaves the rack's own
record alone, and setting a cap changes the TC's record of it and nothing else there.
-/
namespace Sys2Proof.Machine

open Reg

/-- Operations that each keep the rack keep it together. -/
theorem State.eachOf_rack {α : Type} {f : α → State → State} (h : ∀ x s, (f x s).rack = s.rack) (l : List α) :
    ∀ s, (eachOf l f s).rack = s.rack := by
  induction l with
  | nil => exact fun _ => rfl
  | cons x r ih => exact fun s => (ih (f x s)).trans (h x s)

section
variable (s : State) (page : Nat)

@[simp] theorem State.violate_rack (f : Fld) (path : Path) (off : Nat) : (s.violate page f path off).rack = s.rack := by
  unfold State.violate
  simp only
  split <;> simp

@[simp] theorem State.violation_rack (f : Fld) (e : Ev) (path : Path) (off : Nat) :
    (s.violation page f e path off).rack = s.rack := by
  simp [State.violation]

@[simp] theorem State.lastPath_rack (path : Path) : (s.lastPath page path).rack = s.rack := by
  simp [State.lastPath]

@[simp] theorem State.resetAccess_rack (path : Path) (w : Bool) : (s.resetAccess path page w).rack = s.rack := by
  unfold State.resetAccess
  split <;> simp

/-- A write access changes the rack only through the write itself. -/
theorem State.writeAccess_rack (path : Path) (off be : Nat) {f : State → State} (h : ∀ u, (f u).rack = u.rack) :
    (s.writeAccess path page off be f).rack = s.rack := by
  unfold State.writeAccess
  split
  · rfl
  · split
    · simp
    · split
      · simp
      · split
        · simp
        · split
          · rfl
          · cases path <;> simp only [h] <;> (try split) <;> simp [h]

variable (k : Kind)

@[simp] theorem State.untouch_rack (gs : List Nat) : (s.untouch page k gs).rack = s.rack := rfl

@[simp] theorem State.storeWrite_rack (path : Path) (off : Nat) (val : Word) : (s.storeWrite path page k off val).rack = s.rack := by
  unfold State.storeWrite State.holdLevels
  simp only
  repeat' split
  all_goals simp

@[simp] theorem State.touchGroup_rack (path : Path) (g : Nat) : (s.touchGroup path page k g).rack = s.rack := by
  unfold State.touchGroup
  split
  · rfl
  · exact State.eachOf_rack (f := fun off s => s.setStaged page off (s.liveWord path page off)) (fun _ _ => rfl) _ s

@[simp] theorem State.stageWrite_rack (path : Path) (off : Nat) (val : Word) : (s.stageWrite path page k off val).rack = s.rack := by
  unfold State.stageWrite
  simp only
  split
  · split
    · rfl
    · exact s.touchGroup_rack page k path _
  · rfl

@[simp] theorem State.copyLive_rack (path : Path) (gs : List Nat) : (s.copyLive path page k gs).rack = s.rack := by
  unfold State.copyLive
  exact State.eachOf_rack (fun _ _ => State.setWord_rack ..) _ s

@[simp] theorem State.committed_rack (st : Status) (g : Nat) : (s.committed page st g).rack = s.rack := by
  simp [State.committed]

/-- A COMMIT changes the rack only through the groups it applies. -/
theorem State.commitWrite_rack (path : Path) (val : Word)
    (h : ∀ g (t u : State), (t.applyGroup u path page k g).rack = t.rack) : (s.commitWrite path page k val).rack = s.rack := by
  unfold State.commitWrite State.commitApply
  simp only
  repeat' split
  all_goals simp [State.eachOf_rack (fun g t => h g t _)]

end

/-- What a POST among the words of a management write does. -/
theorem State.opWrite_rack (s : State) (page off : Nat) (w : Word)
    (h : ∀ post u, (State.registerWrite u post .mgmt page off 15 w).rack = u.rack) : (s.tcWrite page off w).rack = s.rack := by
  unfold State.tcWrite State.opWrite
  split
  · rfl
  · exact h _ s

@[simp] theorem State.capCommand_rack (s : State) (old cap : Nat) : (s.capCommand old cap).rack = s.rack := by
  unfold State.capCommand State.capInForce
  simp only
  repeat' split
  all_goals simp

/-- A whole word that the TC writes to the power page. -/
theorem State.pwrWrite_rack (s : State) (off : Nat) (w : Word) : (s.tcWrite Page.pwr off w).rack = s.rack := by
  refine State.opWrite_rack s _ _ _ fun post u => State.writeAccess_rack u _ _ _ _ fun u => ?_
  have com := u.commitWrite_rack Page.pwr .pwr .mgmt w fun _ _ _ => by simp [State.applyGroup]
  simp only [show kindOf Page.pwr = some .pwr from rfl]
  unfold State.wordWrite State.startWrite
  simp only
  repeat' split
  all_goals simp_all

/-- A whole word that the TC writes to the lamp page. -/
theorem State.lampWrite_rack (s : State) (off : Nat) (w : Word) : (s.tcWrite Page.lamp off w).rack = s.rack := by
  refine State.opWrite_rack s _ _ _ fun post u => State.writeAccess_rack u _ _ _ _ fun u => ?_
  have com := u.commitWrite_rack Page.lamp .lamp .mgmt w fun _ _ _ => by simp [State.applyGroup]
  simp only [show kindOf Page.lamp = some .lamp from rfl]
  unfold State.wordWrite State.startWrite
  simp only
  repeat' split
  all_goals simp_all

/-- A cap that reaches this chip is written there, and the rack stays as it is. -/
@[simp] theorem State.chipCap_rack (s : State) (cap : Nat) : (s.chipCap cap).rack = s.rack := by
  simp [State.chipCap, State.pwrWrite_rack]

/-- A cap that the TC sets: its record of that chip, and nothing else of the rack. -/
@[simp] theorem State.tcSetCap_rack (s : State) (i : Fin 2) (cap : Nat) :
    (s.tcSetCap i cap).rack = { s.rack with tc := { s.rack.tc with caps := s.rack.tc.caps.set i cap } } := by
  unfold State.tcSetCap
  simp only
  split <;> simp

/-- The caps of the tray after the TC changes both. -/
@[simp] theorem State.tcCaps_rack (s : State) (f : Nat → Nat) :
    (s.tcCaps f).rack = { s.rack with tc := { s.rack.tc with caps := #v[f (s.tcCap 0), f (s.tcCap 1)] } } := by
  simp only [State.tcCaps, State.tcSetCap_rack]
  congr 2
  apply Vector.ext
  intro i hi
  match i, hi with
  | 0, _ => simp
  | 1, _ => simp

/-- A cap that the governor issues: its own record, and at most the TC's record of the caps. -/
theorem State.issueCap_rack (s : State) (chip cap : Nat) :
    ∃ caps, (s.issueCap chip cap).rack = { s.rack.issue chip cap with tc := { s.rack.tc with caps := caps } } := by
  unfold State.issueCap
  simp only
  split
  · exact ⟨s.rack.tc.caps, rfl⟩
  · exact ⟨_, State.tcSetCap_rack _ _ _⟩

/-- The amber lamp, as the TC remembers it. -/
@[simp] theorem State.tcAmber_rack (s : State) : s.tcAmber.rack = { s.rack with tc := { s.rack.tc with amber := true } } := by
  unfold State.tcAmber
  simp only
  split <;> simp [State.lampWrite_rack]

@[simp] theorem State.tcLog_rack (s : State) (e : TcEntry) :
    (s.tcLog e).rack = { s.rack with tc := { s.rack.tc with log := s.rack.tc.log ++ [e] } } := rfl

@[simp] theorem State.governorLog_rack (s : State) (e : MgrEntry) :
    (s.governorLog e).rack = { s.rack with log := s.rack.log ++ [e] } := rfl

end Sys2Proof.Machine
end

