-- ==== Sys2Proof/Laws/Spin.lean ====
section
/-!
SUPPORT. What raw bits of the entropy sources can change: Spin, its two counters and what an event may write; and that Spin after
them follows from Spin before them.
-/
namespace Sys2Proof.Machine

open Reg

/-- The keys of the register words that a raw bit may write. -/
def rawKeys : List Nat :=
  regKey Page.spin 0 SPIN_RCT_FAIL_COUNT.off :: regKey Page.spin 0 SPIN_APT_FAIL_COUNT.off :: raiseKeys Page.spin

/-- A state that differs from another in Spin, in register words at `rawKeys` and in Lint's buffers alone. -/
def RawFrame (s t : State) : Prop := ∃ p, EventFrame rawKeys { s with spin := p } t

theorem RawFrame.refl (s : State) : RawFrame s s := ⟨s.spin, EventFrame.refl _ _⟩

theorem RawFrame.trans {s t u : State} (h : RawFrame s t) (g : RawFrame t u) : RawFrame s u := by
  obtain ⟨p, h⟩ := h
  obtain ⟨p', g⟩ := g
  refine ⟨p', ?_⟩
  obtain ⟨⟨r, b, rfl⟩, h2, h3⟩ := h
  obtain ⟨⟨r', b', rfl⟩, g2, g3⟩ := g
  exact ⟨⟨r', b', rfl⟩, fun w => g2 (h2 w), fun q j x n => (g3 q j x n).trans (h3 q j x n)⟩

theorem RawFrame.updSpin (s : State) (f : Spin → Spin) : RawFrame s (s.updSpin f) := ⟨f s.spin, EventFrame.refl _ _⟩

theorem RawFrame.raise (s : State) (e : Ev) (org : BitVec 16) (args : List Word) : RawFrame s (s.raise Page.spin e org args) :=
  ⟨s.spin, (s.raise_frame Page.spin e org args).1, (s.raise_frame Page.spin e org args).2.1, fun q j x n =>
    (s.raise_frame Page.spin e org args).2.2 q j x fun m => n (by simp [rawKeys, m])⟩

theorem RawFrame.set (s : State) (f : Fld) (v : Nat) (h : regKey Page.spin 0 f.off ∈ rawKeys) :
    RawFrame s (s.set Page.spin f v) := ⟨s.spin, EventFrame.set s Page.spin f v h⟩

theorem RawFrame.spinEvent (s : State) (on : Bool) (e : Ev) : RawFrame s (s.spinEvent on e) := by
  cases on
  · exact RawFrame.refl s
  · exact RawFrame.raise s e _ _

/-- What a failed test can change. -/
theorem State.sourceFails_frame (s : State) (src : Fin 8) (test : HealthTest) : RawFrame s (s.sourceFails src test) := by
  unfold State.sourceFails
  refine RawFrame.trans ?_ ((RawFrame.updSpin _ _).trans ((RawFrame.spinEvent _ _ _).trans
    ((RawFrame.spinEvent _ _ _).trans (RawFrame.spinEvent _ _ _))))
  cases test <;> exact RawFrame.set _ _ _ (by simp [rawKeys])

/-- What a raw bit can change. -/
theorem State.rawBit_frame (s : State) (src : Fin 8) (b : Bool) : RawFrame s (s.rawBit src b) := by
  unfold State.rawBit
  simp only
  split
  · exact RawFrame.refl s
  · split
    · exact s.sourceFails_frame src _
    · split
      · exact (RawFrame.updSpin _ _).trans (RawFrame.updSpin _ _)
      · exact RawFrame.updSpin _ _

theorem State.rawBits_frame (src : Fin 8) (l : List Bool) : ∀ s : State, RawFrame s (s.rawBits src l) := by
  induction l with
  | nil => exact RawFrame.refl
  | cons b r ih => exact fun s => (s.rawBit_frame src b).trans (ih _)

/-- What the raw bits of one PCLK can change. -/
theorem State.rawRow_frame (s : State) (row : Byte) : RawFrame s (s.rawRow row) := by
  unfold State.rawRow eachOf
  generalize List.finRange 8 = l
  induction l generalizing s with
  | nil => exact RawFrame.refl s
  | cons e r ih =>
    refine RawFrame.trans ?_ (ih _)
    simp only
    split
    · exact (s.rawBit_frame e _).trans (RawFrame.updSpin _ _)
    · exact s.rawBit_frame e _

/-- Filling the conditioner's block changes Spin, the words at `rawKeys` and Lint's buffers alone. -/
theorem State.fillBlock_frame (l : List Byte) : ∀ s : State, RawFrame s (State.fillBlock l s) := by
  induction l with
  | nil => exact RawFrame.refl
  | cons row r ih =>
    intro s
    unfold State.fillBlock
    split
    · exact RawFrame.refl s
    · exact (s.rawRow_frame row).trans (ih _)

@[simp] theorem State.spinEvent_spin (s : State) (on : Bool) (e : Ev) : (s.spinEvent on e).spin = s.spin := by
  cases on <;> simp [State.spinEvent]

/-- Spin after a failed test. -/
@[simp] theorem State.sourceFails_spin (s : State) (src : Fin 8) (test : HealthTest) :
    (s.sourceFails src test).spin = s.spin.failed src := by
  simp [State.sourceFails]

theorem State.rawBit_spin {s u : State} (h : s.spin = u.spin) (src : Fin 8) (b : Bool) :
    (s.rawBit src b).spin = (u.rawBit src b).spin := by
  unfold State.rawBit State.sourcePasses
  simp only [h]
  split
  · exact h
  · rcases u.spin.sources[src].health.take b with ⟨x, _ | test⟩
    · dsimp only
      by_cases g : (u.spin.sources[src].testing && decide (1024 ≤ x.total)) = true
      · rw [if_pos g, if_pos g]
        simp only [State.updSpin_spin, h]
      · rw [if_neg g, if_neg g]
        simp only [State.updSpin_spin, h]
    · simp only [State.sourceFails_spin, h]

theorem State.rawRow_spin {s u : State} (h : s.spin = u.spin) (row : Byte) : (s.rawRow row).spin = (u.rawRow row).spin := by
  unfold State.rawRow eachOf
  generalize List.finRange 8 = l
  induction l generalizing s u with
  | nil => exact h
  | cons e r ih =>
    apply ih
    have g := State.rawBit_spin h e (row.getLsbD e.1)
    simp only [h, g]
    split
    · simp only [State.updSpin_spin, g]
    · exact g

/-- Spin after a block is filled follows from Spin before it, whatever the rest of the state. -/
theorem State.fillBlock_spin (l : List Byte) : ∀ {s u : State}, s.spin = u.spin →
    (State.fillBlock l s).spin = (State.fillBlock l u).spin := by
  induction l with
  | nil => exact fun h => h
  | cons row r ih =>
    intro s u h
    unfold State.fillBlock
    rw [h]
    split
    · exact h
    · exact ih (State.rawRow_spin h row)

end Sys2Proof.Machine
end

