-- ==== Sys2Proof/Tests/Slice0.lean ====
section
/-!
SUPPORT. Tests of the model: ill-formed commands that WellFormed refuses, one step of some commands against the spec's own numbers,
and for each statement of Certificates/Slice0/Obligations.lean concrete states and operands that meet its hypotheses, clause by
clause (witness_<statement>).
-/
namespace Sys2Proof.Tests

open Machine Reg

-- One theorem at a time: each waits for the kernel, and a thread per waiting theorem would fill the memory.
set_option Elab.async false

/-! ## Helpers -/

/-- Core 0 RUNNING with every instruction block loaded, and a change of it. -/
def runWith (f : Core → Core) : State :=
  State.reset.updCore 0 fun k => f { k with st := .running, imemOk := BitVec.allOnes 32 }

/-- Core 0 RUNNING with every instruction block loaded. -/
def run : State := runWith id

/-- The frame of a bundle's last operation on core 0, without a predicate; and of one that is not the last. -/
def fr0 : Frame := ⟨0, 0, false, false, true⟩
def frOpen : Frame := ⟨0, 0, false, false, false⟩

/-- And of one whose predicate condition, p0, fails. -/
def frOff : Frame := ⟨0, 0, false, true, true⟩

/-- Core 0 issues, and neither its bundle nor anything in flight is in the way. -/
def freeToIssue (s : State) (fr : Frame) : Bool :=
  s.mayIssue fr.core && (s.bundleOf fr.core).fault.isNone && frameHolds fr (s.core fr.core) &&
    (s.bundleOf fr.core).dests.isEmpty && (s.core fr.core).busy.isEmpty && (s.core fr.core).flights.isEmpty

theorem ready {s : State} {fr : Frame} (h : freeToIssue s fr = true) (slot : Nat) (ds : List Dst) (us : List Unit')
    (ls : List (Nat × Dst)) : SlotReady s fr slot ds us ls := by
  simp only [freeToIssue, Bool.and_eq_true, Option.isNone_iff_eq_none, List.isEmpty_iff] at h
  obtain ⟨⟨⟨⟨⟨h1, h2⟩, h3⟩, h4⟩, h5⟩, h6⟩ := h
  refine ⟨h1, h2, h3, ?_, ?_, ?_⟩
  · simp [h4]
  · simp [Core.unitBusy, h5]
  · simp [h6]

/-- A write of a whole word reaches a register. -/
def takesB (s : State) (path : Path) (page off : Nat) : Bool :=
  reaches path page && !s.inReset page &&
    match kindOf page with
    | some k => !(fieldsAt k off).isEmpty && (match path with | .vf _ => vfMay off | _ => true)
    | none => false

theorem takes {s : State} {path : Path} {page off : Nat} (h : takesB s path page off = true) : s.takesWrite path page off := by
  unfold takesB at h
  split at h
  · next k hk =>
    simp only [Bool.and_eq_true, Bool.not_eq_true'] at h
    refine ⟨h.1.1, h.1.2, k, hk, ?_, ?_⟩
    · intro e; simp [e] at h
    · cases path <;> simp_all
  · simp at h

/-- A COMMIT of one group takes place. -/
def commitsB (s : State) (path : Path) (page g : Nat) : Bool :=
  s.canonical && takesB s path page COMMIT_APPLY.off && s.flag page PAGE_STATUS_READY &&
    match kindOf page with
    | some k => ((pathGroups k path).filter fun x => s.isTouched page x) == [g] &&
        (s.atCommit path page).checkGroup path page k g == .ok
    | none => false

theorem commits {s : State} {path : Path} {page g : Nat} (h : commitsB s path page g = true) : s.commitsOne path page g := by
  unfold commitsB at h
  split at h
  · next k hk =>
    simp only [Bool.and_eq_true, beq_iff_eq] at h
    exact ⟨h.1.1.1, takes h.1.1.2, h.1.2, k, hk, h.2.1, h.2.2⟩
  · simp at h

/-- A group staged with words by offset. -/
def staging (s : State) (page g : Nat) (ws : List (Nat × Word)) : State :=
  { s with staged := ws.foldl (fun r x => Sparse.put resetOfKey r (regKey page 0 x.1) x.2) s.staged,
           touched := s.touched ++ [(page, g)] }

/-- DRAM reads as its bytes. -/
def plainB (s : State) : Bool := s.canonical && s.cacheState == 0 && s.tier.poison.isEmpty

theorem plain {s : State} (h : plainB s = true) : s.plainDram := by
  simp only [plainB, Bool.and_eq_true, beq_iff_eq, List.isEmpty_iff] at h
  exact ⟨h.1.1, h.1.2, h.2⟩

/-- A check answers a value. -/
def okB {α : Type} [DecidableEq α] (x : Except Flaw α) (a : α) : Bool :=
  match x with
  | .ok y => decide (y = a)
  | .error _ => false

theorem ok {α : Type} [DecidableEq α] {x : Except Flaw α} {a : α} (h : okB x a = true) : x = .ok a := by
  cases x with
  | ok y => simpa [okB] using h
  | error e => simp [okB] at h

/-- A check passes with some value. -/
def passes {α : Type} : Except Flaw α → Bool
  | .ok _ => true
  | .error _ => false

theorem passed {α : Type} {x : Except Flaw α} (h : passes x = true) : ∃ y, x = .ok y := by
  cases x with
  | ok y => exact ⟨y, rfl⟩
  | error e => simp [passes] at h

/-- An operation on the fabric is sent. -/
theorem sent {α : Type} {o : Option α} (h : o.isSome = true) : ∃ u, o = some u := Option.isSome_iff_exists.1 h

/-- Fields of entries of pages set one by one: page, entry, field, value. -/
def withFields (s : State) (l : List (Nat × Nat × Fld × Nat)) : State := l.foldl (fun s x => s.setI x.1 x.2.1 x.2.2.1 x.2.2.2) s

/-- A tile handle from its fields; `rowU` counts units of 64 bytes, `tag` is its slot when it is TAGGED. -/
def tileHandle (space base rows rowU fmt : Nat) (tag : Option Nat) : BitVec 128 :=
  BitVec.ofNat 128 (base + space * 2 ^ 40 + fmt * 2 ^ 44 + (rows - 1) * 2 ^ 64 + (rowU - 1) * 2 ^ 76 +
    tag.getD 0 * 2 ^ 88 + (if tag.isSome then 2 ^ 96 else 0))

/-- Slot `b` of a core with a tag and READS 1. -/
def withSlot (b : BitVec 8) (t : Tag) (k : Core) : Core := { k with slots := k.slots.set b.toNat ⟨t, 1, 0, 1, none⟩ }

/-- Core 0 in partition 5, of rank 0, with segments 0 and 1 granted. -/
def parted (s : State) : State :=
  withFields s [(Page.part, 0, PART_CORE_VALID.nth 0, 1), (Page.part, 0, PART_CORE_PART.nth 0, 5),
    (Page.part, 0, PART_SEG_INFO_STATE, 1), (Page.part, 0, PART_SEG_INFO_PART, 5), (Page.part, 1, PART_SEG_INFO_STATE, 1),
    (Page.part, 1, PART_SEG_INFO_PART, 5)]

/-- A page READY with one group touched, and its staged words by offset. -/
def committing (s : State) (page g : Nat) (ws : List (Nat × Word)) : State :=
  staging (withFields s [(page, 0, PAGE_STATUS_READY, 1)]) page g ws

/-- The 64 bytes of a descriptor or submission from its fields: offset, length, value. -/
def rawOf (l : List (Nat × Nat × Nat)) : List Byte :=
  l.foldl (fun r x => patchBytes r x.1 (leBytes x.2.1 x.2.2)) (List.replicate 64 0)

/-- A descriptor of core 0, in partition 5, with slot 9. -/
def descOf (l : List (Nat × Nat × Nat)) : Desc :=
  Desc.new (rawOf l) (some 0) none 0 (some 9) 0 5 0

/-- Core 0 in partition 5, to which context 3 is bound with the first 2 MiB of DRAM as its window. -/
def hosted (s : State) : State :=
  withFields (parted s) [(Page.ctx 3, 0, CTX_BIND_VALID, 1), (Page.ctx 3, 0, CTX_BIND_PART, 5), (Page.ctx 3, 0, CTX_BIND_CORES, 1),
    (Page.ctx 3, 0, CTX_WIN_LEN.nth 0, 1)]

/-- A tier queue of core 0 with descriptors. -/
def tierQ (s : State) (l : List Desc) : State := s.updTier fun t => { t with queues := t.queues.set 0 l }

/-! ## Ill-formed commands -/

/-- A flit without payload is not well formed (09_weave.md R330). -/
theorem test_wf_refuses_short_flit :
    Instr.wf (.vc0FlitArrival 0 ⟨0, false, true, 0, 0, 0, 0, 0, 0, 0, 0, 0, []⟩ 0) = false := by decide

/-- Each check of WellFormed.lean refuses a term. -/
theorem test_wf_refuses_each :
    let f : Flit := ⟨1, false, true, 0, 0, 0, 0, 0, 0, 0, 0, 0, []⟩
    let f0 : Flit := { f with payload := List.replicate 256 0 }
    let boot (rows : List RowId) (banks : List Nat) (cal : Option (BitVec 6 × List (Nat × Word))) : BootEnv :=
      ⟨false, true, rows, [], 0, banks, true, false, cal⟩
    let env : MediaEnv := ⟨[], [], []⟩
    ∀ c ∈ [Instr.pfBar2Access 0 (.read 0 .clean), .pfBar4Access 0 (.write (List.replicate 4097 0)),
      .vfBar2Access 0 0 (.read 4097 .clean), .scrubPass none [⟨.xmem, 2147483648, false, false⟩],
      .scrubPass (some 1) [⟨.cmem 0, 0, false, false⟩], .darn ⟨none, 512, 0⟩ false,
      .darn ⟨some 0, 0, 768⟩ false, .cmemBistDone 0 [⟨none, 0, 0⟩] false, .xmemBistDone [⟨some 0, 0, 0⟩], .patrolRead 0 101 [],
      .move 3 env (some (List.replicate 64 0)), .move 4 env (some []), .readData 0 0 .ok [0] [], .writeData 0 0 0 0 [] [0],
      .spinActionDone (List.replicate 6001 0) .clean, .vc0FlitArrival 0 f 0,
      .mangleUpFlit 65536 f0, .mangleDownFlit 0 f, .done 0 f, .finish 0 f, .abort 0 f, .pressTile ⟨0, 0, 0, 0, 0, 0, [], []⟩,
      .ringRec 0 0 0 [], .gear 0 [], .thermalSample [] [], .coldReset (boot [] [512] none),
      .coldReset (boot [⟨some 0, 16, 0⟩] [] none), .coldReset (boot [] [] (some (0, [(2304, 0)]))), .lintMirrorEnd (some .ok),
      .lintAccept 256 [], .write 0 0 0 1 [], .imgWrite 0 0 0 (List.replicate 256 0), .chal .pf (List.replicate 6001 0), .deriveDone ⟨[(12, none)], []⟩,
      .deriveDone ⟨[], [(2, 0)]⟩, .governorRedistribute [(64, 60)] [],
      .governorRedistribute [] [(0, 151)], .managerActive .a [], .fanFailure 6, .tcStart true ⟨false, 64, 0⟩,
      .stretchEnd 0], c.wf = false := by decide +kernel

/-! ## The spec's worked examples -/

/-- 05_buffers.md, after R172: where a line of a cache with STEPS 2 and BASE 96 lies. -/
theorem test_cache_line_place :
    let p := placeOf 2 96 0x123456
    p = ⟨118, 994, 9⟩ ∧ p.data 0 % segBytes = 0x3E2000 ∧ p.entry 0 % segBytes = 0xFCF880 := by decide

/-- 07_numerics.md, after R278: E4M3 codes of 128 and 396.8 (1984 / 5, in units of 2^-40), without and with stochastic
rounding by a draw of 0x5A0000; the next power of two above 0.00692. -/
theorem test_e4m3_example :
    let x := FV.fin false (1984 * 2 ^ 40 / 5) (-40)
    convert .e4m3 (.fin false 1 7) = (0x70, false) ∧ convert .e4m3 x = (0x7C, false) ∧ convertSr .e4m3 x 0x5A000000 = (0x7D, false) ∧
      ceilPow2 (FV.fin false (692 * 2 ^ 40 / 100000) (-40)).word = (FV.fin false 1 (-7)).word := by decide +kernel

/-- 09_weave.md, after R355: in a table of length 8 whose third entry is 0x05, core 2 owns slot 1,002. -/
theorem test_slot_owner_example :
    let k : Port := { (State.reset.port 0) with table := [1, 3, 5, 7, 0, 0, 0, 0] }
    let s := { State.reset with weave := { State.reset.weave with wt := 1002 } }
    s.slotOwner k = some 2 ∧ ({ s with weave := { s.weave with wt := 1003 } }).slotOwner k = some 3 ∧
      ({ s with weave := { s.weave with wt := 1004 } }).slotOwner k = none := by decide +kernel

/-- 10_mangle.md, after R389: REDUCE_SCATTER of 786,432 BF16 elements over 96 members, results in FP32. -/
theorem test_reduce_scatter_example :
    let d : CollDesc := ⟨3, 0, false, 8, 9, 3, true, 786432, 0, 0, 0⟩
    d.outOff = 0x180000 ∧ d.extent = 4718592 ∧ d.chunk 96 40 = (40960, 1024, 5) ∧ (d.chunk 96 47).2.2 = 5 ∧ (d.chunk 96 48).2.2 = 6 ∧
      d.outOff + (d.chunk 96 40).1 * elemSize d.ofmt = 0x1A8000 ∧ posOf 96 5 3 = 94 ∧ 0 ∈ childLevels 96 94 ∧ rankAt 96 5 95 = 4 := by
  decide +kernel

/-- 13_partitions.md, after R501: register values of PART_CORE0 and PART_GRANT. -/
theorem test_partition_example :
    Member.of 0x800D4017 = ⟨0x17, 212, true⟩ ∧ GrantReq.of 0x00176000 = ⟨0, 96, 0x17, false⟩ := by decide

/-- 15_clocks_power.md R553: at G0 the clocks restart at offset 131,012.5. -/
theorem test_restart_offset : nextFrame 0 (frame84 0) (84 * 131008) * 2 = 84 * 262025 := by decide

/-- 01_machine.md, worked example after R34, and the places of R13 beside it. -/
theorem test_place_example :
    pcnOf false 5 22 1 = 0x016D ∧ rackUnit false 33 = some (.tray 22) ∧ rackUnit true 40 = some (.tray 15) ∧
      rackUnit true 20 = some (.switch 0) ∧ rackUnit true 41 = some .blank ∧ hostOf false 22 1 = .fh1 1 13 := by decide

/-- 01_machine.md R22, R23, R29, R30 at the ends of their ranges, and R35's sums. -/
theorem test_cabling :
    cable false 31 1 9 = .downlink 3 127 ∧ cable false 30 0 10 = .chip 31 0 11 ∧ cable true 1 1 10 = .chip 0 1 11 ∧
      spines false 64 = some 8 ∧ spines true 17 = some 2 ∧ spineEnd false 8 63 31 = (7, 255) ∧
      (powerPlan false).sum = 11960 ∧ (powerPlan true).sum = 10960 := by decide

/-- 15_clocks_power.md, after R573: a cap of 115 W after an epoch of 127.0 W at G1 has target G2 at the end of the epoch. -/
theorem test_cap_example :
    let s := { withFields State.reset [(Page.pwr, 0, PWR_MEAS_DECIW, 1270)] with
      clock := { State.reset.clock with runGear := 1 }, weave := { State.reset.weave with wt := 40000 } }
    (s.capCommand 131 115).clock.capDec = some (2, 1) := by decide +kernel

/-! ## Queue and slot operations -/

theorem witness_NopGathersNothing : run.mayIssue fr0.core = true := by decide +kernel

/-- Scalar fields: destination s15, sources s1 and s2. -/
def sf : ScalarF := ⟨false, 15, 1, 2, 0, false, 0⟩

theorem witness_IntegerOperationsGatherResults :
    SlotReady run fr0 (scalarSlot sf) [.s sf.dst] [scalarUnit sf] [(1, .s sf.dst)] ∧
      SlotReady run fr0 (scalarSlot sf) [.s sf.dst] [scalarUnit sf] [(3, .s sf.dst)] ∧
      run.mayIssue frOff.core = true ∧ (run.bundleOf frOff.core).fault = none ∧ frameHolds frOff (run.core frOff.core) = false ∧
      ∀ x ∈ (run.bundleOf frOff.core).dests, x.2 = .s sf.dst → x.1 = scalarSlot sf :=
  ⟨ready (by decide +kernel) .., ready (by decide +kernel) .., by decide +kernel⟩

/-- Destination number 15, the greatest predicate and address register, and sources p15. -/
theorem witness_OtherScalarOperationsGatherResults :
    let f : ScalarF := { sf with srca := 15, srcb := 15 }
    (∀ l d, SlotReady run fr0 (scalarSlot f) [d] [scalarUnit f] [(l, d)]) ∧ f.dst.toNat < 16 ∧
      f.srca.toNat < 16 ∧ f.srcb.toNat < 16 :=
  ⟨fun _ _ => ready (by decide +kernel) .., by decide⟩

/-- The last aligned doubleword of CMEM is read and written; one byte more is outside, and the store is a fault. -/
theorem witness_ScalarLoadAndStoreGather :
    let f : ScalarF := { sf with imm := 0xBFFF8 }
    let g : ScalarF := { sf with imm := 0xBFFF9 }
    narrowAddr f (run.core 0) = .ok 0xBFFF8 ∧ narrowAddr g (run.core 0) = .error badParam ∧ frOpen.eob = false ∧
      SlotReady run fr0 (scalarSlot f) [.s f.dst] [scalarUnit f] [(4, .s f.dst)] ∧
      SlotReady run frOpen (scalarSlot g) [] [scalarUnit g] [] :=
  ⟨rfl, rfl, rfl, ready (by decide +kernel) .., ready (by decide +kernel) ..⟩

/-- A return to bundle 2,047, the last. -/
theorem witness_BranchOperationsGather :
    let s := runWith fun k => { k with s := k.s.set 1 2047 }
    let f : BranchF := ⟨1, 5, 2⟩
    (s.core 0).br = none ∧ ((s.core 0).rs f.srca).toNat ≤ 2047 ∧ SlotReady s fr0 2 [] [] [] ∧
      SlotReady s fr0 2 [.s f.link] [] [(1, .s f.link)] ∧
      SlotReady s fr0 2 [.s f.srca] [] [(1, .s f.srca)] :=
  ⟨by decide +kernel, by decide +kernel, ready (by decide +kernel) .., ready (by decide +kernel) .., ready (by decide +kernel) ..⟩

theorem witness_BranchInDelayBundleFaults :
    let s := runWith fun k => { k with br := some (2, .goto 5) }
    s.mayIssue frOpen.core = true ∧ frOpen.eob = false ∧ (s.bundleOf frOpen.core).fault = none ∧
      (s.core frOpen.core).br = some (2, .goto 5) := by decide +kernel

def vf (fmt : BitVec 2) (imm8 : BitVec 8) : VecF := ⟨1, 2, 3, 4, 5, true, 6, fmt, 0, imm8⟩

theorem witness_VectorOperationsGatherResults (l : Nat) :
    (vf 0 0).fmt ≠ 3 ∧ (vf 0 0).fmt = 0 ∧ (vf 1 0).fmt = 1 ∧ (vf 1 0).fmt ≠ 3 ∧ (vf 2 0).fmt = 2 ∧ (vf 2 0).fmt ≠ 3 ∧
      SlotReady run fr0 3 [.v 1] [.v] [(l, .v 1)] :=
  ⟨by decide, by decide, by decide, by decide, by decide, by decide, ready (by decide +kernel) ..⟩

/-- The last four blocks of CMEM, the first of the vector buffer; conversions to FP32 packed and from BF16 unpacked. -/
theorem witness_VectorMemoryAndConversionsGather :
    let s := runWith fun k => { k with a := k.a.set 1 (5 * 2 ^ 60) }
    let top : VecF := { vf 0 0xFF with areg := 2 }
    let t := runWith fun k => { k with a := k.a.set 2 (0xBF800 - 2048 * 255) }
    wideAddr { vf 0 0 with areg := 1 } (s.core 0) = .ok (5, 0) ∧ wideAddr top (t.core 0) = .ok (0, 0xBF800) ∧
      SlotReady t fr0 3 [.v 1] [.v] [(6, .v 1)] ∧ SlotReady t fr0 3 [] [.v] [] ∧
      SlotReady t fr0 3 [.s 6] [.v] [(11, .s 6)] ∧
      EFmt.ofCode ((vf 0 0x10).imm8.toNat % 16) = some .e4m3 ∧ cvtBad (vf 0 0x10) = none ∧ (vf 0 0x10).imm8.getLsbD 4 = true ∧
      EFmt.ofCode ((vf 0 0x07).imm8.toNat % 16) = some .int8 ∧ cvtBad (vf 0 0x07) = none ∧ (vf 0 0x07).imm8.getLsbD 4 = false ∧
      SlotReady t fr0 3 [.v 1] [.v] [(3, .v 1)] :=
  ⟨ok (by decide +kernel), ok (by decide +kernel), ready (by decide +kernel) .., ready (by decide +kernel) ..,
    ready (by decide +kernel) .., by decide +kernel, by decide +kernel, by decide +kernel, by decide +kernel, by decide +kernel, by decide +kernel,
    ready (by decide +kernel) ..⟩

/-- An operation of the greatest count that fits, and an odd CYC, at which it begins one CCLK later. -/
theorem witness_MatrixOperationsGather :
    let s := runWith fun k => { k with cyc := 7 }
    let f : MatF := ⟨0, 0, 64, 0, 0, false, 384⟩
    mloadBad { f with count := 128 } = none ∧ mmulBad f = none ∧ mclrBad f = none ∧
      SlotReady s fr0 4 [] [.mload] [] ∧
      SlotReady s fr0 4 [] [.mload, .mcomp] [] ∧
      SlotReady s fr0 4 [] [.mcomp] [] :=
  ⟨by decide, by decide, by decide, ready (by decide +kernel) .., ready (by decide +kernel) .., ready (by decide +kernel) ..⟩
def mf : MovF := ⟨1, 2, 3, 0, 0, 0, 1⟩

/-- Core 0 with tile handles 1 and 2. -/
def tiles (ts td : BitVec 128) (f : Core → Core) : State :=
  parted (runWith fun k => f { k with t := (k.t.set 1 ts).set 2 td })

/-- A tile of one block in CMEM, moved to the first block of the input buffer, to another of CMEM, which is PARAM, and to and
from the first block of the scratchpad; slot 9 is EMPTY for the tile written, and FULL for the tile read. -/
theorem witness_TileMovesGather :
    let c0 := tileHandle 0 0 1 8 0 none
    let c1 := tileHandle 0 512 1 8 0 (some 9)
    let x0 := tileHandle 1 0 1 8 0 none
    let m1 := tileHandle 3 0 1 8 0 (some 9)
    let s0 := tiles c0 m1 (withSlot 9 .empty)
    let s1 := tiles c0 c1 (withSlot 9 .empty)
    let s2 := tiles x0 c1 (withSlot 9 .empty)
    let s3 := tiles c1 x0 (withSlot 9 .full)
    let h0 := Handle.of c0
    let h1 := Handle.of c1
    let hm := Handle.of m1
    let hx := Handle.of x0
    (SlotReady s0 fr0 5 [] [.d] [] ∧ h0.readable (s0.core 0) = .ok () ∧ hm.writable (s0.core 0) = .ok () ∧
      s0.tile 0 (s0.core 0) 1 coreSpaces true = .ok h0 ∧ s0.tile 0 (s0.core 0) 2 coreSpaces true = .ok hm ∧
      h0.space = 0 ∧ hm.space ≠ 0 ∧ tmovData h0 hm (s0.tileBytes (.cmem 0) h0).1 = .ok (List.replicate 512 0, 0)) ∧
    (SlotReady s1 frOpen 5 [] [.d] [] ∧ s1.tile 0 (s1.core 0) 1 coreSpaces true = .ok h0 ∧
      s1.tile 0 (s1.core 0) 2 coreSpaces true = .ok h1 ∧ h0.space = 0 ∧ h1.space = 0 ∧ frOpen.eob = false) ∧
    (SlotReady s2 fr0 5 [] [.d] [] ∧ hx.readable (s2.core 0) = .ok () ∧ h1.writable (s2.core 0) = .ok () ∧
      s2.tile 0 (s2.core 0) 1 [1] true = .ok hx ∧ s2.tile 0 (s2.core 0) 2 [0] true = .ok h1 ∧
      s2.scratchBytes 0 hx (movedBytes h1.bytes hx.bytes) = .ok (List.replicate 512 0, [])) ∧
    (SlotReady s3 fr0 5 [] [.d] [] ∧ h1.readable (s3.core 0) = .ok () ∧ hx.writable (s3.core 0) = .ok () ∧
      s3.tile 0 (s3.core 0) 1 [0] true = .ok h1 ∧ s3.tile 0 (s3.core 0) 2 [1] true = .ok hx ∧
      ∃ es, s3.scratchLand 0 hx (8 + movedPairs h1 hx)
        ((s3.tileBytes (.cmem 0) h1).1.take (movedBytes h1.bytes hx.bytes)) = .ok es) :=
  ⟨⟨ready (by decide +kernel) .., ok (by decide +kernel), ok (by decide +kernel), ok (by decide +kernel), ok (by decide +kernel),
      by decide +kernel, by decide +kernel, ok (by decide +kernel)⟩,
    ⟨ready (by decide +kernel) .., ok (by decide +kernel), ok (by decide +kernel), by decide +kernel⟩,
    ⟨ready (by decide +kernel) .., ok (by decide +kernel), ok (by decide +kernel), ok (by decide +kernel), ok (by decide +kernel),
      ok (by decide +kernel)⟩,
    ⟨ready (by decide +kernel) .., ok (by decide +kernel), ok (by decide +kernel), ok (by decide +kernel), ok (by decide +kernel),
      passed (by decide +kernel)⟩⟩

/-- Port 3 ACTIVE and path entry 0 valid with egress port 3. -/
def linked (s : State) : State :=
  (withFields s [(Page.weave, 0, WEAVE_PATH_LO_ENTRY, 2 ^ 17 + 3 * 2 ^ 13 + 7)]).updPort 3 fun k => { k with st := .active }

theorem witness_MoverPortAndQueueOperationsGather :
    let c0 := tileHandle 0 0 1 8 0 none
    let c1 := tileHandle 0 512 1 8 0 (some 9)
    let x0 := tileHandle 1 0 1 128 0 none
    let s := linked (tiles c0 c1 (withSlot 9 .empty))
    let t := tiles x0 c1 (withSlot 9 .empty)
    let e := s.pathEntry mf.path.toNat
    let h0 := Handle.of c0
    let h1 := Handle.of c1
    let hx := Handle.of x0
    (SlotReady s fr0 5 [] [.d] [] ∧ s.movPort mf = .ok 3 ∧ pathValid e = true ∧ pathMc e = false ∧
      pathEgress e = 3 ∧ s.tile 0 (s.core 0) mf.ts [0] true = .ok h0 ∧ h0.readable (s.core 0) = .ok () ∧
      ((s.port 3).vc0.toList.map List.length).sum + (s.sendFlits 0 mf h1 (s.tileBytes (.cmem 0) h0).1).length ≤ 256) ∧
    (s.tile 0 (s.core 0) mf.td [0] true = .ok h1 ∧ h1.tagged = true ∧ h1.writable (s.core 0) = .ok ()) ∧
    (s.tile 0 (s.core 0) mf.ts [0] false = .ok h0 ∧ s.queued 0 (engineOf mf.engine) < (engineOf mf.engine).limit) ∧
    (let h : Handle := { hx with stride := 0, rows := 2 * mf.nblk.toNat, rowLen := 4096 }
     SlotReady t fr0 5 [] [.d] [] ∧ iloadBad mf = none ∧ h.space = 1 ∧ t.handleOk 0 h = true ∧
      (∃ src, t.scratchBytes 0 h (8192 * mf.nblk.toNat) = .ok src) ∧ h.declared (t.core 0) = .ok ()) :=
  ⟨⟨ready (by decide +kernel) .., ok (by decide +kernel), by decide +kernel, by decide +kernel, by decide +kernel,
      ok (by decide +kernel), ok (by decide +kernel), by decide +kernel⟩,
    ⟨ok (by decide +kernel), by decide +kernel, ok (by decide +kernel)⟩, ⟨ok (by decide +kernel), by decide +kernel⟩,
    ⟨ready (by decide +kernel) .., by decide +kernel, by decide +kernel, by decide +kernel, passed (by decide +kernel),
      ok (by decide +kernel)⟩⟩

def xf : ExtF := ⟨1, 2, 3, 4, 5, 6, 1, 9, 0, 0, 0⟩

/-- Every lane of core 0 seeded. -/
def seeded (k : Core) : Core := { k with lanes := (List.range 512).map fun i => (i, ⟨1, 2, 3, 4⟩) }

/-- A sequence of one row, at the last tokens that a chunk may present. -/
theorem witness_RandSampleYieldGather :
    let s1 := runWith seeded
    let s2 := runWith fun k => { k with s := ((k.s.set 2 (0x3F800000 * 2 ^ 32 + 256)).set 3 128) }
    let x : Sample := ⟨true, (s2.core 0).rs xf.sa |>.setWidth 32, ((s2.core 0).rs xf.sb).toNat % 512,
      BitVec.ofNat 32 (bits ((s2.core 0).rs xf.sb).toNat 63 32), 128, 0, List.replicate 128 []⟩
    let h := tileHandle 0 0 1 1 9 none
    let s3 := runWith fun k => { k with t := k.t.set 1 h, s := k.s.set 3 (2 ^ 32 - 16),
                                        sample := ⟨true, 0, 1, 0x3F800000, 1, 5, [[]]⟩ }
    let y := (s3.core 0).sample
    (SlotReady s1 fr0 6 [.v 5] [.x] [(3, .v 5)] ∧ ({ xf with mode := 5 } : ExtF).mode.toNat ≤ 5 ∧
      (s1.core 0).allSeeded = true) ∧
    (SlotReady s2 fr0 6 [] [.x] [] ∧ ((s2.core 0).rs xf.sc).toNat = 128 ∧ x.legal = true) ∧
    (SlotReady s3 fr0 6 [] [.x] [] ∧ y.begun = true ∧ s3.tile 0 (s3.core 0) xf.th [0] false = .ok (Handle.of h) ∧
      (Handle.of h).fmt = 9 ∧ y.rows ≤ (Handle.of h).rows ∧ 1 ≤ chunkCols (Handle.of h) ∧ chunkCols (Handle.of h) ≤ 512 ∧
      y.next ≤ ((s3.core 0).rs xf.sc).toNat ∧ ((s3.core 0).rs xf.sc).toNat + chunkCols (Handle.of h) ≤ 2 ^ 32 ∧
      (Handle.of h).readable (s3.core 0) = .ok () ∧ y.greedy = true) ∧
    ((s3.core 0).br = none ∧ s3.quiesces 0 = false) ∧
    (SlotReady s3 fr0 6 [.v 5] [.x] [(24 + 4 * y.rows, .v 5)] ∧ 0 < y.next) :=
  ⟨⟨ready (by decide +kernel) .., by decide +kernel, by decide +kernel⟩,
    ⟨ready (by decide +kernel) .., by decide +kernel, by decide +kernel⟩,
    ⟨ready (by decide +kernel) .., by decide +kernel, ok (by decide +kernel), by decide +kernel, by decide +kernel,
      by decide +kernel, by decide +kernel, by decide +kernel, by decide +kernel, ok (by decide +kernel), by decide +kernel⟩,
    by decide +kernel, ready (by decide +kernel) .., by decide +kernel⟩

/-- OPTIM ends with its record updated. -/
def isDone : OptimRes → Bool
  | .done _ _ _ _ => true
  | _ => false

theorem done {x : OptimRes} (h : isDone x = true) : ∃ out sat lanes a, x = .done out sat lanes a := by
  cases x <;> simp [isDone] at h ⊢

/-- Slot 255 of the scale unit, the last; a collective of descriptor 9 in group 0; model 9 of hanger without and with a flip
that takes effect; OPTIM's set 9 at step 1. -/
theorem witness_ScaleOptimCollFlipGather :
    let s1 := withFields run [(Page.scale, scaleIdx 0 255, SCALE_CFG_VALID, 1)]
    let h := tileHandle 0 0 1 8 0 (some 9)
    let s2 := withFields (tiles h 0 (withSlot 9 .full)) [(Page.mangle, 9, MANGLE_D_OP_VALID, 1), (Page.mangle, 9, MANGLE_D_PART_PART, 5),
      (Page.mangle, grpIdx 0, MANGLE_G_COUNT_COUNT, 1), (Page.mangle, grpIdx 0, MANGLE_G_STRIDE_STRIDE, 1),
      (Page.mangle, grpIdx 0, MANGLE_G_PART_PART, 5), (Page.mangle, grpIdx 0, MANGLE_G_PART_VALID, 1)]
    let s3 := withFields run [(Page.hanger, 9, HANGER_CFG_VALID, 1), (Page.hanger, 9, HANGER_CFG_CORES, 1),
      (Page.hanger, 9, HANGER_STATE_STATE, hReady)]
    let o := tileHandle 0 0 1 23 0 none
    let s4 := withFields (tiles o 0 fun k => { k with s := k.s.set 1 1 }) [(Page.optim, 9, OPTIM_MODE_VALID, 1),
      (Page.optim, 9, OPTIM_EPS_EPS, 0x3F800000)]
    let k4 := s4.core 0
    let th := Handle.of o
    (SlotReady s1 fr0 6 [] [.x] [] ∧ ({ xf with id := 255 } : ExtF).id.toNat ≤ 255 ∧ s1.scaleValid 0 255 = true) ∧
    (SlotReady s2 fr0 6 [] [.x] [] ∧ (Handle.of h).readable (s2.core 0) = .ok () ∧
      s2.collOk 0 xf.id.toNat (Handle.of h) = true ∧ (s2.mangle.colls.filter fun x => x.core == 0).length < 4) ∧
    (SlotReady s3 fr0 6 [.s 4] [.x] [(2, .s 4)] ∧ xf.id.toNat ≤ 15 ∧ s3.flipActs (modelOf xf.id.toNat) 0 = true ∧
      SlotReady run fr0 6 [.s 4] [.x] [(2, .s 4)] ∧ run.flipActs (modelOf xf.id.toNat) 0 = false ∧
      xf.imm8.getLsbD 0 = false ∧ ({ xf with imm8 := 1 } : ExtF).imm8.getLsbD 0 = true) ∧
    (SlotReady s4 fr0 6 [] [.x] [] ∧ xf.id.toNat ≤ 63 ∧ (k4.rs xf.sa).toNat = 1 ∧ (s4.hyper 9).valid = true ∧
      s4.tile 0 k4 xf.th [0] false = .ok th ∧ th.rowLen = 1472 ∧ (s4.hyper 9).out = 0 ∧ th.readable k4 = .ok () ∧
      ∃ out sat lanes a, optimRecord (s4.hyper 9) 1 (s4.scaleOf 0 (s4.hyper 9).slot) k4.lanes
        ((List.range th.rows).map fun r => slice (s4.tileBytes (.cmem 0) th).1 (1472 * r) 1472) = .done out sat lanes a) :=
  ⟨⟨ready (by decide +kernel) .., by decide +kernel, by decide +kernel⟩,
    ⟨ready (by decide +kernel) .., ok (by decide +kernel), by decide +kernel, by decide +kernel⟩,
    ⟨ready (by decide +kernel) .., by decide +kernel, by decide +kernel, ready (by decide +kernel) .., by decide +kernel⟩,
    ⟨ready (by decide +kernel) .., by decide +kernel, by decide +kernel, by decide +kernel, ok (by decide +kernel),
      by decide +kernel, by decide +kernel, ok (by decide +kernel), done (by decide +kernel)⟩⟩
/-! ## Held bundles, core events, faults, bundles -/

theorem witness_WaitAndEpochwIssueOrHold :
    let s := runWith (withSlot 9 .full)
    let bad := runWith fun k => { k with slots := k.slots.set 9 ⟨.filling, 1, 0, 1, some .eccFatal⟩ }
    let f : ExtF := { xf with mode := 1 }
    (bad.canonical = true ∧ bad.mayIssue 0 = true ∧ (bad.bundleOf 0).fault = none ∧ (bad.core 0).writePending = false ∧
      frameHolds fr0 (bad.core 0) = true ∧ ((bad.core 0).slot 9).tag ≠ .full ∧ bad.mangle.colls = [] ∧
      ((bad.core 0).slot 9).err = some .eccFatal) ∧
    (run.canonical = true ∧ s.canonical = true ∧ run.mangle.colls = []) ∧
    (run.mayIssue 0 = true ∧ (run.bundleOf 0).fault = none ∧ (run.core 0).writePending = false ∧ frameHolds fr0 (run.core 0) = true ∧
      xf.id.toNat ≤ 255 ∧ ((run.core 0).slot 9).tag ≠ .full ∧ ((run.core 0).slot 9).err = none ∧ (1 : Word) ≠ 0) ∧
    (s.mayIssue 0 = true ∧ (s.bundleOf 0).fault = none ∧ (s.core 0).writePending = false ∧ frameHolds frOpen (s.core 0) = true ∧
      ((s.core 0).slot 9).tag = .full ∧ frOpen.eob = false) ∧
    (run.quiesces 0 = false ∧ (run.core 0).unitBusy [.x] = false ∧
      (∀ x ∈ (run.bundleOf 0).dests, x.2 = .s xf.sd → x.1 = 6) ∧ xf.mode.toNat ≤ 1 ∧ run.epochNo < run.epochNo + 1 ∧
      f.mode.toNat ≤ 1 ∧ ((run.core 0).rs f.sa).toNat ≤ run.epochNo) := by decide +kernel

/-- Core 0 held. -/
def holding (w : HoldFor) (sd : Option (BitVec 6)) (f : Core → Core) : State :=
  runWith fun k => f { k with st := .waiting, held := some ⟨w, 5, 3, 20, sd, false⟩ }

theorem witness_HoldsEnd :
    let s := holding (.slot 9) none (withSlot 9 .full)
    let t := holding (.epoch 0) (some 4) id
    let late := runWith fun k => withSlot 9 .filling { k with st := .waiting, held := some ⟨.slot 9, 3, 4, 20, none, false⟩ }
    (late.canonical = true ∧ (late.core 0).held = some ⟨.slot 9, 3, 4, 20, none, false⟩ ∧ late.clock.paused = false ∧
      late.mangle.colls = [] ∧ 3 < 4) ∧
    (s.canonical = true ∧ (s.core 0).held = some ⟨.slot 9, 5, 3, 20, none, false⟩ ∧ s.clock.paused = false ∧
      ((s.core 0).slot 9).tag = .full ∧ s.mangle.colls = []) ∧
    (t.canonical = true ∧ (t.core 0).held = some ⟨.epoch 0, 5, 3, 20, some 4, false⟩ ∧ t.clock.paused = false ∧ 0 ≤ t.epochNo ∧ 3 ≤ 5 ∧
      (t.core 0).unitBusy [.x] = false) := by
  decide +kernel

theorem witness_SlotAndBlockEventsLand :
    let s (what : Land) := runWith fun k => withSlot 9 .filling { k with
      slots := k.slots.set 8 ⟨.draining, 0, 1, 1, none⟩, st := .waiting, flights := [⟨500, 1, 0, what⟩]
      held := some ⟨.slot 7, 5, 0, 0, none, false⟩ }
    ∀ w ∈ [Land.block 31 [1, 2], .full 9, .empty 8], (s w |>.core 0).flights = [⟨500, 1, 0, w⟩] ∧ ((s w).core 0).access = [] ∧
      ((s w).core 0).beats = [] ∧ ((s w).core 0).staging = [] ∧ ((s w).core 0).held.isSome = true ∧ (s w).clock.paused = false ∧
      ((s w).core 0).cyc < 500 ∧ (((s w).core 0).slot 9).tag = .filling ∧ (((s w).core 0).slot 8).tag = .draining ∧
      (((s w).core 0).slot 8).out = 1 := by decide +kernel

/-- The owner's password opened, or owner debug closed. -/
theorem witness_DebugStopsAndSteps :
    let pg := Page.core 0
    let s := withFields run [(pg, 0, CORE_CTRL_BRK_EN, 1)]
    let o := withFields run [(Page.access, 0, ACCESS_STATE_LEVEL, 1)]
    let h := o.updCore 0 fun k => { k with st := .debugHalt }
    (s.canonical = true ∧ s.mayIssue 0 = true ∧ (s.core 0).bundle.opened = false ∧ s.flag pg CORE_CTRL_BRK_EN = true ∧
      (s.core 0).stepping = false) ∧
    (o.canonical = true ∧ o.takesWrite .pf pg CORE_CTRL_HALT_REQ.off ∧ o.ownerOpen = true ∧ (o.core 0).st = .running ∧
      (o.core 0).bundle.opened = false) ∧
    (h.canonical = true ∧ h.takesWrite .pf pg CORE_CTRL_HALT_REQ.off ∧ h.ownerOpen = true ∧ (h.core 0).st = .debugHalt) ∧
    (run.canonical = true ∧ run.takesWrite .pf pg CORE_CTRL_HALT_REQ.off ∧ run.ownerOpen = false) ∧
    run.takesWrite .pf pg CORE_CONTRACT_CTRL_COUNT_CLR.off :=
  ⟨by decide +kernel, ⟨by decide +kernel, takes (by decide +kernel), by decide +kernel⟩,
    ⟨by decide +kernel, takes (by decide +kernel), by decide +kernel⟩, ⟨by decide +kernel, takes (by decide +kernel), by decide +kernel⟩,
    takes (by decide +kernel)⟩

/-- A bundle with a bit of the reserved field 63:49 of its header set. -/
theorem witness_IllegalBundleFaults :
    let b : BitVec 1024 := 2 ^ 49
    run.canonical = true ∧ run.mayIssue 0 = true ∧ (run.core 0).bundle.opened = false ∧ (run.bundleOf 0).fault = none ∧
      bundleFaults (run.core 0) b ≠ [] ∧ (run.core 0).clash = none ∧ b.getLsbD 48 = false ∧ run.pins.quiesceLow = false ∧ (run.core 0).flights = [] ∧
      (run.core 0).staging = [] ∧ run.mangle.colls = [] := by decide +kernel

/-- A core between two bundles. -/
def calmB (s : State) (c : CoreId) : Bool :=
  let k := s.core c
  k.st == .running && !k.quiet && !s.clock.paused && k.bundle == Bundle.none && k.flights.isEmpty && k.access.isEmpty &&
    k.beats.isEmpty && k.busy.isEmpty && k.staging.isEmpty && k.br.isNone && k.yld.isNone && k.held.isNone && !k.overrun &&
    k.clash.isNone && !k.stepping && decide (k.pc.toNat < 2047) &&
    k.imemOk.getLsbD (k.pc.toNat / 64) && (s.uesIn (.imem c) (k.pc.toNat * 128) 128).isEmpty &&
    !s.flag (Page.core c.1) CORE_CTRL_HALT_REQ

theorem calm {s : State} {c : CoreId} (h : calmB s c = true) : s.calm c := by
  simp only [calmB, Bool.and_eq_true, beq_iff_eq, Bool.not_eq_true', List.isEmpty_iff, Option.isNone_iff_eq_none,
    decide_eq_true_eq] at h
  obtain ⟨⟨⟨⟨⟨⟨⟨⟨⟨⟨⟨⟨⟨⟨⟨⟨⟨⟨h1, h2⟩, h3⟩, h4⟩, h5⟩, h6⟩, h7⟩, h8⟩, h9⟩, h10⟩, h11⟩, h12⟩, h13⟩, h14⟩, h15⟩, h16⟩, h17⟩, h18⟩, h19⟩ := h
  exact ⟨h1, h2, h3, h4, h5, h6, h7, h8, h9, h10, h11, h12, h13, h14, h15, h16, h17, h18, h19⟩

/-- Core 0 before bundle 2,046, the last that another may follow. -/
def at2046 : State := runWith fun k => { k with pc := 2046 }

theorem witness_BundleOfOneOperation :
    at2046.canonical = true ∧ at2046.calm fr0.core ∧ fr0.eob = true ∧
      ∀ i x, Land.regS 4 7 = .scale i x → i < 256 :=
  ⟨by decide +kernel, calm (by decide +kernel), rfl, by intros; contradiction⟩

theorem witness_NopBundlePassesOneCclk :
    let l : List Flight := [⟨1, 0, 0, .regS 4 7⟩, ⟨2, 0, 0, .regS 5 8⟩]
    let s := at2046.updCore 0 fun k => { k with flights := l }
    s.canonical = true ∧ (s.core fr0.core).flights = l ∧ (s.updCore fr0.core fun k => { k with flights := [] }).calm fr0.core ∧
      fr0.eob = true ∧ (∀ x ∈ l, ∀ i y, x.what = .scale i y → i < 256) ∧
      ∀ x ∈ l, lateClash (l.filter fun x => decide (x.due ≤ (s.core fr0.core).cyc + 1)) x = false :=
  ⟨by decide +kernel, by decide +kernel, calm (by decide +kernel), rfl, by simp, by decide +kernel⟩

theorem witness_StoresLandAtTheirAddressOnly : run.canonical = true := by decide +kernel

theorem witness_FaultingBundleHasNoEffect :
    let s := runWith fun k => { k with bundle := ⟨true, [], [], some (100, ⟨.contractFault, 3, 0⟩)⟩ }
    let t := runWith fun k => { k with bundle := ⟨true, [], [], none⟩, clash := some (7, 3) }
    (t.canonical = true ∧ t.mayIssue 0 = true ∧ (t.core 0).bundle.opened = true ∧ (t.core 0).flights = [] ∧ (t.core 0).staging = [] ∧
      t.mangle.colls = [] ∧ (t.core 0).overrun = false ∧ (t.core 0).clash = some (7, 3)) ∧
    s.canonical = true ∧ s.mayIssue 0 = true ∧ (s.core 0).bundle.opened = true ∧
      (s.core 0).bundle.fault = some (100, ⟨.contractFault, 3, 0⟩) ∧ fr0.eob = true ∧ (s.core 0).flights = [] ∧
      (s.core 0).staging = [] ∧ s.mangle.colls = [] ∧ (s.core 0).overrun = false ∧ (s.core 0).clash = none := by decide +kernel

/-! ## Register pages -/

/-- SCALE_SEL, a selector and a register at the first offset beyond the page header. -/
theorem witness_RegisterWriteStoresFields :
    let s := State.reset
    s.canonical = true ∧ s.takesWrite .pf Page.scale 0x040 ∧ 0x040 ≤ 0x040 ∧ kindOf Page.scale = some .scale ∧
      Kind.scale ∈ [Kind.chip, .lamp, .repair, .xcache, .dram, .shelf, .tier, .scale, .optim, .spin, .mangle, .press, .hanger,
        .xring, .patch, .part, .lintsnap] ∧ (∀ f ∈ fieldsAt .scale 0x040, f.acc = .rw ∨ f.acc = .ro) ∧
      Kind.scale.selects 0x040 = [0] ∧ fieldsAt .scale 0x040 ≠ [] :=
  ⟨by decide +kernel, takes (by decide +kernel), by decide +kernel⟩

theorem witness_RegisterWriteStagesGroup :
    let s := State.reset
    s.canonical = true ∧ s.takesWrite .pf Page.lamp 0x044 ∧ 0x040 ≤ 0x044 ∧ kindOf Page.lamp = some .lamp ∧
      Kind.lamp.groupAt 0x044 = some 0 ∧ (∀ f ∈ fieldsAt .lamp 0x044, f.acc = .rws ∨ f.acc = .ro) ∧ rwsMask .lamp 0x044 ≠ 0 :=
  ⟨by decide +kernel, takes (by decide +kernel), by decide +kernel⟩

/-- An unassigned page; a page in reset; a partial write; a VF's write of a register of its CTX page that it may not write; a
write of PAGE_LOCK. -/
theorem witness_WritesThatAreStopped :
    let s := State.reset
    let r := { s with resets := { s.resets with warm := true } }
    (s.canonical = true ∧ reaches .pf 0x005 = true ∧ kindOf 0x005 = none) ∧
    (r.canonical = true ∧ reaches .pf Page.scale = true ∧ kindOf Page.scale = some .scale ∧ r.inReset Page.scale = true ∧
      r.resets.cold = false) ∧
    (s.inReset Page.scale = false ∧ Page.scale ≠ Page.chip ∧ Page.scale ≠ Page.lint ∧ (7 : BitVec 4) ≠ 15) ∧
    (reaches (.vf 3) (Page.ctx 3) = true ∧ kindOf (Page.ctx 3) = some .ctx ∧ s.inReset (Page.ctx 3) = false ∧
      vfMay 0x040 = false ∧ fieldsAt .ctx 0x040 ≠ []) ∧
    s.takesWrite .pf Page.scale PAGE_LOCK_LOCK.off :=
  ⟨by decide +kernel, by decide +kernel, by decide +kernel, by decide +kernel, takes (by decide +kernel)⟩

/-- A page that is not READY; a group that fails its check; a group that passes. -/
theorem witness_CommitReportsAndApplies :
    let s := State.reset
    let bad := committing s Page.clk 0 [(0x044, 7)]
    let good := committing s Page.clk 0 [(0x044, 3)]
    (s.canonical = true ∧ s.takesWrite .pf Page.clk COMMIT_APPLY.off ∧ kindOf Page.clk = some .clk ∧
      s.flag Page.clk PAGE_STATUS_READY = false) ∧
    (bad.canonical = true ∧ bad.takesWrite .pf Page.clk COMMIT_APPLY.off ∧ bad.flag Page.clk PAGE_STATUS_READY = true ∧
      (((pathGroups .clk .pf).filter fun g => bad.isTouched Page.clk g).find? fun g =>
        (bad.atCommit .pf Page.clk).checkGroup .pf Page.clk .clk g != .ok) = some 0) ∧
    (good.canonical = true ∧ good.takesWrite .pf Page.clk COMMIT_APPLY.off ∧ good.flag Page.clk PAGE_STATUS_READY = true ∧
      ((pathGroups .clk .pf).filter fun g => good.isTouched Page.clk g) = [0] ∧
      (good.atCommit .pf Page.clk).checkGroup .pf Page.clk .clk 0 = .ok) :=
  ⟨⟨by decide +kernel, takes (by decide +kernel), by decide +kernel⟩, ⟨by decide +kernel, takes (by decide +kernel),
    by decide +kernel⟩, ⟨by decide +kernel, takes (by decide +kernel), by decide +kernel⟩⟩

/-- The mailbox with the SMBus path in use, and with it dead and an operation code of 8, the first beyond the last. -/
theorem witness_MailboxAndFunctionResets :
    let h := Page.hostif
    let s := State.reset
    let d := withFields s [(h, 0, HOSTIF_MGMT_SMBUS_DEAD, 1), (Page.chip, 0, CHIP_STATUS_MGMT_UP, 1), (h, 0, HOSTIF_MBOX_DATA_DATA.nth 0, 8)]
    (s.canonical = true ∧ s.takesWrite .pf h HOSTIF_MBOX_CTRL_POST.off ∧ s.flag h HOSTIF_MGMT_SMBUS_DEAD = false ∧
      s.resets.cold = false) ∧
    let r := withFields d [(h, 0, HOSTIF_MBOX_DATA_DATA.nth 0, 6 + 9 * 65536), (h, 0, HOSTIF_MBOX_DATA_DATA.nth 1, 3),
      (h, 0, HOSTIF_MBOX_DATA_DATA.nth 2, calBytes - 240), (h, 0, HOSTIF_MBOX_DATA_DATA.nth 3, 60)]
    let w (i : Nat) : Nat := r.get h (HOSTIF_MBOX_DATA_DATA.nth i)
    (d.canonical = true ∧ d.takesWrite .pf h HOSTIF_MBOX_CTRL_POST.off ∧ d.flag h HOSTIF_MGMT_SMBUS_DEAD = true ∧
      d.mgmt.mboxBusy = false ∧ d.resets.warm = false ∧ d.resets.mgmt = false ∧ d.flag Page.chip CHIP_STATUS_MGMT_UP = true ∧
      d.resets.cold = false ∧ 7 < d.get h (HOSTIF_MBOX_DATA_DATA.nth 0) % 256) ∧
    (r.canonical = true ∧ r.takesWrite .pf h HOSTIF_MBOX_CTRL_POST.off ∧ r.flag h HOSTIF_MGMT_SMBUS_DEAD = true ∧
      r.mgmt.mboxBusy = false ∧ r.resets.cold = false ∧ r.resets.warm = false ∧ r.resets.mgmt = false ∧
      r.flag Page.chip CHIP_STATUS_MGMT_UP = true ∧ w 0 % 256 = 6 ∧ w 0 / 65536 = 9 ∧ w 1 % 256 = 3 ∧ w 3 % 256 = 60 ∧
      w 2 + 4 * 60 = norSize 3 ∧ r.mgmt.erasing = none) ∧
    (({ d with mgmt := { d.mgmt with mboxBusy := true } } : State).takesWrite .pf h HOSTIF_MBOX_CTRL_POST.off) ∧
    ∀ n : CtxId, (s.ctx n).kept = [] :=
  ⟨⟨by decide +kernel, takes (by decide +kernel), by decide +kernel⟩,
    ⟨by decide +kernel, takes (by decide +kernel), by decide +kernel⟩,
    ⟨by decide +kernel, takes (by decide +kernel), by decide +kernel⟩, takes (by decide +kernel), by decide +kernel⟩

/-- Accesses at the upper end of DRAM, of the general area, of a VF's window and of XMEM, and one byte beyond. -/
theorem witness_BarAccessesReachMemory :
    let s := State.reset
    let t := withFields s [(Page.dram, 0, DRAM_STATUS_TRAINED, 1), (Page.access, 0, ACCESS_STATE_LEVEL, 1),
      (Page.ctx 3, 0, CTX_BIND_VALID, 1), (Page.ctx 3, 0, CTX_WIN_LEN.nth 0, 1)]
    let len := 2 ^ 21
    (t.canonical = true ∧ t.resets.cold = false ∧ t.cacheState = 0 ∧ t.tier.poison = [] ∧ t.ecc.upset = [] ∧ t.dramTrained = true ∧
      t.ownerOpen = true ∧ (dramBytes - 1) + 1 ≤ dramBytes ∧ (dramGeneral - 1) + [(7 : Byte)].length ≤ dramGeneral ∧
      dramGeneral < dramGeneral + [(7 : Byte)].length ∧ (2 ^ 31 - 1) + 1 ≤ 2 ^ 31 ∧ LinkRead.clean ≠ .failed) ∧
    ((t.binding 3).valid = true ∧ (t.binding 3).wins = [(0, len)] ∧ len - 1 + 1 ≤ len ∧ len < len + [(7 : Byte)].length) ∧
    (s.canonical = true ∧ s.resets.cold = false ∧ s.cacheState = 0 ∧ s.tier.poison = [] ∧ s.ecc.upset = [] ∧
      s.dramTrained = false ∧ s.ownerOpen = false) := by decide +kernel
/-! ## On-chip memory -/

theorem witness_CacheSwitches :
    let off := committing State.reset Page.xcache 0 [(0x040, 4 + 0x4000)]
    let on := withFields off [(Page.xcache, 0, XCACHE_STATE_STATE, 2)]
    let none' := committing (withFields State.reset [(Page.xcache, 0, XCACHE_STATE_STATE, 2)]) Page.xcache 0 [(0x040, 0)]
    let drain := withFields { State.reset with xcache := ⟨1, 112⟩ } [(Page.xcache, 0, XCACHE_STATE_STATE, 3)]
    let init := withFields State.reset [(Page.xcache, 0, XCACHE_STATE_STATE, 1)]
    (off.commitsOne .pf Page.xcache 0 ∧ XCACHE_CFG_STEPS.of (off.stagedWord Page.xcache 0x040) = 4 ∧ off.cacheState = 0) ∧
    (on.commitsOne .pf Page.xcache 0 ∧ on.cacheState = 2) ∧ none'.commitsOne .pf Page.xcache 0 ∧
    (drain.canonical = true ∧ drain.cacheState = 3 ∧ 127 ∈ regionSegs drain.xcache.oldSteps drain.xcache.oldBase ∧
      127 ∉ regionSegs (drain.get Page.xcache XCACHE_CFG_STEPS) (drain.get Page.xcache XCACHE_CFG_BASE)) ∧
    (init.canonical = true ∧ init.cacheState = 1) :=
  ⟨⟨commits (by decide +kernel), by decide +kernel⟩, ⟨commits (by decide +kernel), by decide +kernel⟩, commits (by decide +kernel),
    by decide +kernel, by decide +kernel⟩

theorem witness_ScrubDarnAndMapOut :
    let s := withFields { State.reset with ecc := { State.reset.ecc with
      cands := [⟨none, 511, 8191⟩, ⟨some 3, 15, 767⟩], spares := [((none, 511), 31), ((some 3, 15), 4)], failing := [511] } }
      [(Page.chip, 0, CHIP_STATUS_MGMT_UP, 1)]
    s.canonical = true ∧ s.inReset (domainPage (some 3)).1 = false ∧ s.inReset (domainPage none).1 = false ∧ s.mgmtUp = true ∧
      s.ecc.cands.contains ⟨none, 511, 8191⟩ = true ∧ s.darnWindow ⟨none, 511, 8191⟩ = true ∧
      s.sparesUsed none 511 < spareRows none ∧ s.ecc.failing.contains 511 = true ∧ s.darnWindow ⟨none, 511, 0⟩ = true ∧
      (s.ecc.cands.any fun r => r.core == some 3 && r.bank == 15) = true ∧ 4 ≤ s.sparesUsed (some 3) 15 ∧
      s.darnWindow ⟨some 3, 15, 0⟩ = true := by decide +kernel

theorem witness_SelfTestsRun :
    let s := State.reset
    let p := parted s
    let t := { s with ecc := { s.ecc with cmemTest := 1, xmemTest := some 127 } }
    (s.canonical = true ∧ s.takesWrite .pf (Page.cmem 0) CMEM_BIST_START.off ∧ s.ecc.cmemTest.getLsbD 0 = false ∧ s.partOf 0 = none ∧
      s.takesWrite .pf Page.xmem XMEM_BIST_START.off ∧ s.ecc.xmemTest = none ∧ s.segState 0 = 0) ∧
    (p.canonical = true ∧ p.takesWrite .pf (Page.cmem 0) CMEM_BIST_START.off ∧ p.ecc.cmemTest.getLsbD 0 = false ∧ p.partOf 0 ≠ none ∧
      p.takesWrite .pf Page.xmem XMEM_BIST_START.off ∧ p.ecc.xmemTest = none ∧ p.segState 0 ≠ 0) ∧
    (t.canonical = true ∧ t.ecc.cmemTest.getLsbD 0 = true ∧ t.ecc.xmemTest = some 127) :=
  ⟨⟨by decide +kernel, takes (by decide +kernel), by decide +kernel, by decide +kernel, takes (by decide +kernel), by decide +kernel⟩,
    ⟨by decide +kernel, takes (by decide +kernel), by decide +kernel, by decide +kernel, takes (by decide +kernel),
      by decide +kernel⟩, by decide +kernel⟩

/-! ## The tier controller and the Shelf -/

/-- Every started descriptor of core 0's queue has an assigned OP. -/
def opsB (s : State) : Bool :=
  (List.range 4).all fun i => match s.tier.queues[(0 : Fin 5)][i]? with
    | some d => decide (1 ≤ d.op) && decide (d.op ≤ 7)
    | none => true

theorem ops {s : State} (h : opsB s = true) : s.refuseBad 0 = s := by
  have one (l : List Nat) (g : ∀ i ∈ l, (match s.tier.queues[(0 : Fin 5)][i]? with
      | some d => decide (1 ≤ d.op) && decide (d.op ≤ 7)
      | none => true) = true) : eachOf l (fun i s => match s.tier.queues[(0 : Fin 5)][i]? with
        | some d => if d.result.isNone ∧ (d.op < 1 ∨ 7 < d.op) ∧ s.tierMay d then s.setTierDesc 0 i (d.finish .param 0) else s
        | none => s) s = s := by
    induction l with
    | nil => rfl
    | cons i r ih =>
      have gi := g i (.head _)
      have e : (match s.tier.queues[(0 : Fin 5)][i]? with
          | some d => if d.result.isNone ∧ (d.op < 1 ∨ 7 < d.op) ∧ s.tierMay d then s.setTierDesc 0 i (d.finish .param 0) else s
          | none => s) = s := by
        revert gi
        generalize s.tier.queues[(0 : Fin 5)][i]? = x
        cases x with
        | none => exact fun _ => rfl
        | some d =>
          intro gi
          simp only [Bool.and_eq_true, decide_eq_true_eq] at gi
          exact if_neg (by omega)
      simp only [eachOf, List.foldl_cons] at ih ⊢
      rw [e]
      exact ih fun j hj => g j (.tail _ hj)
  exact one _ (by simpa [opsB] using h)

/-- A descriptor at the front of core 0's queue is picked. -/
def picksB (s : State) (op : Nat) (d : Desc) : Bool :=
  !s.tier.swapping && opsB s && s.pick s.tier.queues[(0 : Fin 5)] (· == op) == some 0 && s.tier.queues[(0 : Fin 5)][0]? == some d &&
    s.tierMay d

theorem picks {s : State} {op : Nat} {d : Desc} (h : picksB s op d = true) : s.tierPicks 0 op 0 d := by
  simp only [picksB, Bool.and_eq_true, Bool.not_eq_true', beq_iff_eq] at h
  exact ⟨h.1.1.1.1, ops h.1.1.1.2, h.1.1.2, h.1.2, h.2⟩

/-- And passes its checks. -/
def runsB (s : State) (op : Nat) (d : Desc) : Bool := picksB s op d && s.tierCheck d == .ok

theorem runs {s : State} {op : Nat} {d : Desc} (h : runsB s op d = true) : s.tierRuns 0 op 0 d := by
  simp only [runsB, Bool.and_eq_true, beq_iff_eq] at h
  exact ⟨picks h.1, h.2⟩

/-- A tile is read. -/
def readsB {α : Type} (r : Except Status (α × α) × State) : Bool :=
  match r.1 with
  | .ok _ => true
  | .error _ => false

theorem reads {α : Type} {r : Except Status (α × α) × State} (h : readsB r = true) : ∃ x y u, r = (.ok (x, y), u) := by
  obtain ⟨_ | ⟨x, y⟩, u⟩ := r
  · simp [readsB] at h
  · exact ⟨x, y, u, rfl⟩

/-- One tile moved from the last of the window in DRAM to the scratchpad, its side record built, or checked against a record
of zeros, which does not check. -/
def moveDesc (build : Bool) : Desc :=
  descOf [(0, 1, 1), (1, 1, if build then 2 else 0), (2, 1, tDram + 16 * tXmem), (4, 4, 1), (8, 8, 2 ^ 21 - 4096), (24, 8, 2 ^ 64 - 1)]

/-- Namespace 2 of partition 5, blocks 1048576 and on, shadowed by page 31, the last of the window. -/
def shadowed (s : State) : State :=
  withFields (hosted s) [(Page.shelf, 2, SHELF_NS_BASE_LBA, 1048576), (Page.shelf, 2, SHELF_NS_LEN_BLOCKS, 16),
    (Page.shelf, 2, SHELF_NS_OWNER_PART, 5), (Page.shelf, 2, SHELF_NS_OWNER_VALID, 1), (Page.tier, 0, TIER_SH_STATE_STATE, 1),
    (Page.tier, 0, TIER_SH_DRAM_BASE, 31), (Page.tier, 0, TIER_SH_PAGES_PAGES, 1), (Page.tier, 0, TIER_SH_NS_NSID, 2)]

/-- A descriptor over the 16 tiles of page 31, with an operation. -/
def pageDesc (op dstt : Nat) : Desc := descOf [(0, 1, op), (2, 1, tDram + 16 * dstt), (4, 4, 16), (8, 8, 31 * 65536), (24, 8, 2 ^ 64 - 1)]

/-- The side-store records of page 31, each that of a tile of zeros. -/
def sealed : Mem :=
  Mem.write [] (sideStore + 32 * 496) ((List.range 512).map fun i => (sealSide (List.replicate 4096 0) []).getD (i % 32) 0) ramFill

theorem sealed_wf : Memory.wf ramFill sealed = true := Mem.wf_write _ _ rfl

/-- Page 31 reads as zeros, and each of its tiles checks. -/
theorem sealed_ok (j : Nat) (hj : j < 16) :
    sideOk (sealed.read (31 * 65536 + 4096 * j) 4096) (sealed.read (sideStore + 32 * (31 * 16 + j)) 32) = true := by
  have data : sealed.read (31 * 65536 + 4096 * j) 4096 = List.replicate 4096 0 := by
    refine List.ext_getElem (by rw [Mem.read_length, List.length_replicate]) fun i hi _ => ?_
    rw [Mem.read_length] at hi
    simp only [Mem.read, List.getElem_map, List.getElem_range, List.getElem_replicate]
    rw [sealed, Mem.byte_write _ _ _ rfl, if_neg (by simp only [sideStore]; omega)]
    rfl
  have side : sealed.read (sideStore + 32 * (31 * 16 + j)) 32 = sealSide (List.replicate 4096 0) [] := by
    refine List.ext_getElem (by rw [Mem.read_length, length_sealSide]) fun i hi h2 => ?_
    rw [Mem.read_length] at hi
    simp only [Mem.read, List.getElem_map, List.getElem_range]
    rw [sealed, Mem.byte_write _ _ _ rfl, if_pos (by simp only [List.length_map, List.length_range]; omega)]
    have e : sideStore + 32 * (31 * 16 + j) + i - (sideStore + 32 * 496) = 32 * j + i := by omega
    rw [e, List.getD_eq_getElem?_getD, List.getElem?_eq_getElem (by simp only [List.length_map, List.length_range]; omega)]
    simp only [List.getElem_map, List.getElem_range, Option.getD_some]
    rw [show (32 * j + i) % 32 = i by omega, List.getD_eq_getElem?_getD, List.getElem?_eq_getElem h2, Option.getD_some]
  rw [data, side]
  exact sideOk_sealSide _ _

/-- DRAM takes other bytes, and reads as its bytes still. -/
theorem dram_plain {s : State} {m : Mem} (hm : Memory.wf ramFill m = true) (h : plainB s = true) :
    ({ s with dram := m } : State).plainDram := by
  obtain ⟨h1, h2, h3⟩ := plain h
  refine ⟨?_, h2, h3⟩
  obtain ⟨a, b, _, c⟩ := (State.canonical_iff s).1 h1
  exact (State.canonical_iff _).2 ⟨a, b, hm, c⟩

theorem witness_TierDescriptorsRun :
    let env : MediaEnv := ⟨[], [], []⟩
    let m := moveDesc true
    let s := tierQ (hosted State.reset) [m]
    let x := pageDesc 2 tXmem
    let d := pageDesc 2 tDram
    let sx := tierQ (shadowed State.reset) [x]
    let sd := (tierQ (shadowed State.reset) [d]).updTier fun t => { t with dirty := [31] }
    let c := pageDesc 3 tDram
    let f := pageDesc 4 tDram
    let dirty (d : Desc) : State := { (tierQ (shadowed State.reset) [d]).updTier fun t => { t with dirty := [31] } with dram := sealed }
    let sc := dirty c
    let sf := dirty f
    let dd := descOf [(0, 1, 5), (2, 1, tShelf), (3, 1, 2), (4, 4, 16), (24, 8, 2 ^ 64 - 1)]
    let se := tierQ (shadowed State.reset) [dd]
    (∃ x y u ns, s.readTile m m.srct m.src 0 env = (.ok (x, y), u) ∧ m.newSide 0 x y = some ns) ∧
    (s.plainDram ∧ s.tierRuns 0 1 0 m ∧ m.ntiles = 1 ∧ m.srct = tDram ∧ m.dstt = tXmem ∧ m.noSide = true ∧
      (m.newSide 0 (s.dram.read m.src 4096) (s.dram.read (sideStore + 32 * (m.src / 4096)) 32)).isSome = true) ∧
    (sx.plainDram ∧ sx.tierRuns 0 2 0 x ∧ x.dstt = tXmem) ∧
    (sd.plainDram ∧ sd.tierRuns 0 2 0 d ∧ d.dstt = tDram ∧ pagesOf d.src (d.ntiles * 4096) = [31] ∧ sd.shadowOf 31 = some 0 ∧
      sd.getI Page.tier 0 TIER_SH_STATE_STATE = 1 ∧ (sd.fillPage 0 31 env (d.src / 4096)).1 = none) ∧
    (sc.plainDram ∧ sc.tierRuns 0 3 0 c ∧ pagesOf c.src (c.ntiles * 4096) = [31] ∧ sc.shadowsOf 31 = [0] ∧
      sc.tier.dirty.contains 31 = true ∧ sc.shelfRo = false ∧ mirrorBlks ≤ sc.shadowLba 0 31) ∧
    (sf.plainDram ∧ sf.tierRuns 0 4 0 f ∧ pagesOf f.src (f.ntiles * 4096) = [31] ∧ sf.shadowsOf 31 = [0] ∧
      sf.tier.dirty.contains 31 = true ∧ sf.shelfRo = false ∧ mirrorBlks ≤ sf.shadowLba 0 31) ∧
    (∀ j, j < 16 → sideOk (sealed.read (31 * 65536 + 4096 * j) 4096) (sealed.read (sideStore + 32 * (31 * 16 + j)) 32) = true) ∧
    (se.plainDram ∧ se.tierRuns 0 5 0 dd) := by
  refine ⟨?_, ⟨plain (by decide +kernel), runs (by decide +kernel), by decide +kernel⟩,
    ⟨plain (by decide +kernel), runs (by decide +kernel), by decide +kernel⟩,
    ⟨plain (by decide +kernel), runs (by decide +kernel), by decide +kernel⟩,
    ⟨dram_plain sealed_wf (by decide +kernel), runs (by decide +kernel), by decide +kernel⟩,
    ⟨dram_plain sealed_wf (by decide +kernel), runs (by decide +kernel), by decide +kernel⟩, sealed_ok,
    plain (by decide +kernel), runs (by decide +kernel)⟩
  obtain ⟨x, y, u, h⟩ := reads (r := (tierQ (hosted State.reset) [moveDesc true]).readTile (moveDesc true) (moveDesc true).srct
    (moveDesc true).src 0 ⟨[], [], []⟩) (by decide +kernel)
  exact ⟨x, y, u, _, h, show (moveDesc true).newSide 0 x y = some _ by
    unfold Desc.newSide; rw [show (moveDesc true).build = true by decide +kernel]; rfl⟩

/-- Descriptors of each operation with no tile, which is PARAM; a move of core 0's to the last block of the mirror area, and the
physical function's. -/
theorem witness_TierDescriptorsRun_refused :
    let bad (op : Nat) := descOf [(0, 1, op), (24, 8, 2 ^ 64 - 1)]
    let raw := rawOf [(0, 1, 1), (2, 1, tDram + 16 * tShelf), (4, 4, 1), (16, 8, 4096 * (mirrorBlks - 1)), (24, 8, 2 ^ 64 - 1)]
    let pf := Desc.new raw none none 0 none 0 0 0
    let own := Desc.new raw (some 0) none 0 (some 9) 0 5 0
    let s := hosted State.reset
    (∀ op ∈ [1, 2, 3, 4, 5], (tierQ s [bad op]).tierPicks 0 op 0 (bad op) ∧ (tierQ s [bad op]).tierCheck (bad op) ≠ .ok) ∧
    (∀ d ∈ [pf, own], d.op = 1 ∧ d.srct = tDram ∧ d.dstt = tShelf ∧ d.nsid = 0 ∧ d.ntiles = 1 ∧ d.src % 4096 = 0 ∧
      d.dst % 4096 = 0 ∧ d.noSide = true ∧ field d.raw 60 2 = 0 ∧ s.descEndOk d tDram d.src (d.ntiles * 4096) = true) ∧
    (own.ofPf = false ∧ pf.ofPf = true ∧ pf.part = 0 ∧ s.nsClearing 0 = false ∧ pf.dst / 4096 < mirrorBlks) := by
  refine ⟨fun op h => ?_, by decide +kernel⟩
  simp only [List.mem_cons, List.not_mem_nil, or_false] at h
  rcases h with rfl | rfl | rfl | rfl | rfl <;> exact ⟨picks (by decide +kernel), by decide +kernel⟩

/-- A checksum is one of two values at most once: with 1 or with 2 in place of its CRC, a side record does not check. -/
theorem side_fails (d x1 x2 : List Byte) (h : slice x1 0 28 = slice x2 0 28) (h1 : field x1 28 4 = 1) (h2 : field x2 28 4 = 2) :
    sideOk d x1 = false ∨ sideOk d x2 = false := by
  simp only [sideOk, h, h1, h2]
  generalize crc32c (d ++ slice x2 0 28) = c
  by_cases hc : c = 1
  · right; simp [hc]
  · left; simp [hc]

/-- A tile of zeros in DRAM whose side record has 1 or 2 in place of its CRC; one of them does not check. -/
theorem witness_TierDescriptorsRun_crc :
    ∃ v : Byte,
      let m := moveDesc false
      let s := tierQ (hosted { State.reset with dram := [(sideStore + 32 * 511 + 28, v)] }) [m]
      s.plainDram ∧ s.tierRuns 0 1 0 m ∧ m.ntiles = 1 ∧ m.srct = tDram ∧ m.dstt = tXmem ∧ m.noSide = true ∧
        m.newSide 0 (s.dram.read m.src 4096) (s.dram.read (sideStore + 32 * (m.src / 4096)) 32) = none := by
  let side (v : Byte) : List Byte := Mem.read [(sideStore + 32 * 511 + 28, v)] (sideStore + 32 * 511) 32
  let data (v : Byte) : List Byte := Mem.read [(sideStore + 32 * 511 + 28, v)] (2 ^ 21 - 4096) 4096
  have hd : data 1 = data 2 := by
    refine List.map_congr_left fun i hi => ?_
    have hi : i < 4096 := List.mem_range.1 hi
    have hne : sideStore + 32 * 511 + 28 ≠ 2 ^ 21 - 4096 + i := by simp only [sideStore]; omega
    simp only [Mem.byte, Sparse.get]
    split <;> simp_all
  have hn (v : Byte) (h : sideOk (data v) (side v) = false) : (moveDesc false).newSide 0 (data v) (side v) = none := by
    unfold Desc.newSide
    rw [show (moveDesc false).build = false by decide +kernel, h]; rfl
  have hr (v : Byte) : Mem.read [(sideStore + 32 * 511 + 28, v)] (moveDesc false).src 4096 = data v := by
    rw [show (moveDesc false).src = 2 ^ 21 - 4096 by decide +kernel]
  have hs (v : Byte) : Mem.read [(sideStore + 32 * 511 + 28, v)] (sideStore + 32 * ((moveDesc false).src / 4096)) 32 = side v := by
    rw [show (moveDesc false).src / 4096 = 511 by decide +kernel]
  rcases side_fails (data 1) (side 1) (side 2) (by decide +kernel) (by decide +kernel) (by decide +kernel) with h | h
  · refine ⟨1, plain (by decide +kernel), runs (by decide +kernel), by decide +kernel, by decide +kernel, by decide +kernel,
      by decide +kernel, ?_⟩
    show (moveDesc false).newSide 0 (Mem.read [(sideStore + 32 * 511 + 28, 1)] (moveDesc false).src 4096) _ = none
    rw [hr 1]
    exact (congrArg _ (hs 1)).trans (hn 1 h)
  · refine ⟨2, plain (by decide +kernel), runs (by decide +kernel), by decide +kernel, by decide +kernel, by decide +kernel,
      by decide +kernel, ?_⟩
    show (moveDesc false).newSide 0 (Mem.read [(sideStore + 32 * 511 + 28, 2)] (moveDesc false).src 4096) _ = none
    rw [hr 2]
    exact (congrArg _ (hs 2)).trans (hn 2 (hd ▸ h))
/-- Path entry 0 to chip 7 through port 3, which is ACTIVE. -/
def routed (s : State) : State := linked s

/-- A request for one tile of chip 7, into the window's first tile; a record built for what is written. -/
def remoteDesc (op : Nat) : Desc :=
  descOf [(0, 1, op), (1, 1, 2), (2, 1, tDram + 16 * tDram), (4, 4, 1), (24, 8, 2 ^ 64 - 1), (60, 2, 7)]

theorem witness_RemoteTilesTravel :
    let g := remoteDesc 6
    let p := remoteDesc 7
    let sg := tierQ (routed (hosted State.reset)) [g]
    let sp := tierQ (routed (hosted State.reset)) [p]
    let h := hosted State.reset
    let chunks (l : List Byte) : List (List Byte) := (List.range 16).map fun j => slice l (256 * j) 256
    let begun (s : State) (d : Desc) : State := s.setTierDesc 0 0 { d with env := ⟨[], [], []⟩ }
    (sg.plainDram ∧ sg.tier.queues[(0 : Fin 5)] = g :: (sg.tier.queues[(0 : Fin 5)]).tail ∧ sg.tier.swapping = false ∧
      sg.refuseBad 0 = sg ∧ g.result = none ∧ g.err = none ∧ g.begun = false ∧ g.n = 0 ∧ g.ntiles = 1 ∧ sg.tierMay g = true ∧ sg.tierCheck g = .ok ∧
      sg.tier.remote.length < 64 ∧ g.op = 6 ∧
      ∃ u, (begun sg g).sendEng vc2 false g.peer g.part.toNat (remoteEng 1)
        [leBytes 8 g.src ++ leBytes 2 sg.tier.freeTag.toNat ++ leBytes 1 (if g.build then 0 else 1)] = some u) ∧
    (sp.plainDram ∧ sp.tier.queues[(0 : Fin 5)] = p :: (sp.tier.queues[(0 : Fin 5)]).tail ∧ sp.tier.swapping = false ∧
      sp.refuseBad 0 = sp ∧ p.result = none ∧ p.err = none ∧ p.begun = false ∧ p.n = 0 ∧ p.ntiles = 1 ∧ sp.tierMay p = true ∧ sp.tierCheck p = .ok ∧
      sp.tier.remote.length < 64 ∧ p.op = 7 ∧ p.srct = tDram ∧
      ∃ x, p.newSide 0 (sp.dram.read p.src 4096) (sp.dram.read (sideStore + 32 * (p.src / 4096)) 32) = some x ∧
        ∃ u, (begun sp p).sendEng vc2 false p.peer p.part.toNat (remoteEng 3)
          ((x ++ leBytes 2 sp.tier.freeTag.toNat ++ leBytes 6 0 ++ leBytes 8 p.dst) :: chunks (sp.dram.read p.src 4096)) = some u) ∧
    (h.plainDram ∧ h.remoteCheck 5 (2 ^ 21 - 4096) false = .ok ∧ h.remoteCheck 5 (2 ^ 21) false ≠ .ok ∧
      h.remoteCheck 5 (2 ^ 21 - 4096) true = .ok ∧ h.remoteCheck 5 (2 ^ 21) true ≠ .ok) := by
  refine ⟨⟨plain (by decide +kernel), by decide +kernel, by decide +kernel, ops (by decide +kernel), by decide +kernel,
      by decide +kernel, by decide +kernel, by decide +kernel, by decide +kernel, by decide +kernel, by decide +kernel, by decide +kernel,
      by decide +kernel, sent (by decide +kernel)⟩,
    ⟨plain (by decide +kernel), by decide +kernel, by decide +kernel, ops (by decide +kernel), by decide +kernel,
      by decide +kernel, by decide +kernel, by decide +kernel, by decide +kernel, by decide +kernel, by decide +kernel, by decide +kernel,
      by decide +kernel, by decide +kernel, ?_⟩, plain (by decide +kernel), by decide +kernel⟩
  exact ⟨_, show (remoteDesc 7).newSide 0 _ _ = some _ by
    unfold Desc.newSide; rw [show (remoteDesc 7).build = true by decide +kernel]; rfl, sent (by decide +kernel)⟩

/-- A tile of a data flit, sealed, is one that a target takes, and with 1 or 2 in place of its CRC one that it does not; an answer
for a tile that core 0's descriptor asked for. -/
theorem witness_RemoteTilesTravel_answers :
    let data := List.replicate 4096 (0 : Byte)
    let rec' := sealSide data []
    let d := { remoteDesc 6 with begun := true, n := 1 }
    let r : Remote := ⟨7, 0, 0, 5, 0, false⟩
    let s := (tierQ (hosted State.reset) [d]).updTier fun t => { t with remote := [r] }
    let w := (tierQ (hosted State.reset) [d]).updTier fun t => { t with remote := [{ r with write := true }] }
    let plainDesc := { descOf [(0, 1, 6), (2, 1, tDram + 16 * tDram), (4, 4, 1), (24, 8, 2 ^ 64 - 1), (60, 2, 7)] with begun := true, n := 1 }
    let v := (tierQ (hosted State.reset) [plainDesc]).updTier fun t => { t with remote := [r] }
    let off (x : Nat) : List Byte := List.replicate 28 0 ++ leBytes 4 x
    (sideOk data (off 1) = false ∨ sideOk data (off 2) = false) ∧
    (v.plainDram ∧ v.tier.queues[r.q][r.pos]? = some plainDesc ∧ plainDesc.err = none ∧ plainDesc.ntiles ≤ plainDesc.n ∧ plainDesc.build = false) ∧
    d.err = none ∧ Status.eccFatal ≠ .ok ∧
    (hosted State.reset).plainDram ∧ sideOk (slice data 0 4096) (slice rec' 0 32) = true ∧
    (s.plainDram ∧ s.tier.queues[r.q][r.pos]? = some d ∧ d.result = none ∧ s.tier.remote = [r] ∧ d.ntiles ≤ d.n ∧
      r.write = false ∧ d.dstt = tDram ∧ (d.newSide r.tile (slice data 0 4096) (slice rec' 0 32)).isSome = true ∧
      d.dst + 4096 * r.tile + 4096 ≤ dramGeneral) ∧
    (w.plainDram ∧ w.tier.queues[r.q][r.pos]? = some d ∧ w.tier.remote = [{ r with write := true }]) := by
  refine ⟨side_fails _ _ _ (by decide +kernel) (by decide +kernel) (by decide +kernel), ⟨plain (by decide +kernel), by decide +kernel⟩, by decide +kernel,
    by decide +kernel, plain (by decide +kernel), ?_, ⟨plain (by decide +kernel), by decide +kernel⟩, plain (by decide +kernel), by decide +kernel⟩
  rw [slice_self _ _ (length_sealSide _ _), slice_self _ _ (List.length_replicate ..)]
  exact sideOk_sealSide _ _

theorem witness_CompletionsShadowsNamespaces :
    let d := { descOf [(0, 1, 1)] with result := some .ok }
    let s := tierQ (runWith (withSlot 9 .filling)) [d]
    let take := committing (shadowed State.reset) Page.tier 0 [(0x058, 32), (0x05C, 1), (0x060, 2)]
    let take1 := withFields take [(Page.tier, 0, TIER_SH_SEL_ENTRY, 1)]
    let drop := committing (shadowed State.reset) Page.tier 0 []
    let rel := withFields (shadowed State.reset) [(Page.tier, 0, TIER_SH_STATE_STATE, 2)]
    let ns := withFields (committing ((hosted State.reset).updTier fun t => { t with shelf := [(1048577, ⟨[], [], false⟩)] }) Page.shelf 0
      [(0x058, 1048576), (0x05C, 1), (0x060, 5 + 2 ^ 31)]) [(Page.shelf, 0, SHELF_NS_SEL_NS, 63), (Page.shelf, 63, SHELF_NS_BASE_LBA, 1048576),
      (Page.shelf, 63, SHELF_NS_LEN_BLOCKS, 16), (Page.shelf, 63, SHELF_NS_OWNER_PART, 5), (Page.shelf, 63, SHELF_NS_OWNER_VALID, 1)]
    s.refuseBad 0 = s ∧
    (s.tier.queues[(0 : Fin 5)] = [d] ∧ d.result = some .ok ∧ d.core = some 0 ∧ d.slot = some 9 ∧ s.sameLife d = true ∧
      d.postFlag = false ∧ ((s.core 0).slot 9).tag = .filling) ∧
    (take1.commitsOne .pf Page.tier 0 ∧ take1.get Page.tier TIER_SH_SEL_ENTRY = 1 ∧ take1.getI Page.tier 1 TIER_SH_STATE_STATE = 0 ∧
      TIER_SH_PAGES_PAGES.of (take1.stagedWord Page.tier 0x05C) ≠ 0) ∧
    (drop.commitsOne .pf Page.tier 0 ∧ drop.get Page.tier TIER_SH_SEL_ENTRY = 0 ∧ drop.getI Page.tier 0 TIER_SH_STATE_STATE = 1) ∧
    (rel.canonical = true ∧ rel.inReset Page.tier = false ∧ rel.getI Page.tier 0 TIER_SH_STATE_STATE = 2 ∧ rel.shadowDirty 0 = 0) ∧
    (ns.commitsOne .pf Page.shelf 0 ∧ ns.get Page.shelf SHELF_NS_SEL_NS = 63 ∧
      nsUnmaps (ns.nsInfo 63) (NsInfo.of fun off => ns.stagedWord Page.shelf off) 1048577 = true ∧
      (1048577, (⟨[], [], false⟩ : ShelfBlk)) ∈ ns.tier.shelf) :=
  ⟨ops (by decide +kernel), by decide +kernel, ⟨commits (by decide +kernel), by decide +kernel⟩, ⟨commits (by decide +kernel), by decide +kernel⟩,
    by decide +kernel, commits (by decide +kernel), by decide +kernel⟩

theorem witness_FlashTranslationKeepsBlocks :
    let s := State.reset.updTier fun t => { t with nand := [⟨4, 0, 99998, 1, [7]⟩], shelf := [(7, ⟨[], [], false⟩)], prog := [7] }
    let e := State.reset.updTier fun t => { t with nand := [⟨4, 0, 0, 1, []⟩] }
    (s.canonical = true ∧ s.shelfRo = false ∧ s.inReset Page.shelf = false ∧ (∀ b ∈ s.tier.nand, b.reads + 1 < 100000) ∧ 75 < 76 ∧
      (s.tier.nand.any fun b => b.id == 4) = true ∧ ((validPages s.tier.nand 4).filter (· == 7)) = [7] ∧
      assocGet s.tier.shelf 7 = some ⟨[], [], false⟩ ∧ 7 ∈ validPages s.tier.nand 4 ∧ 7 ∈ s.tier.prog) ∧
    (e.canonical = true ∧ e.shelfRo = false ∧ e.inReset Page.shelf = false ∧ e.tier.wbuf = [] ∧ e.tier.nand = [⟨4, 0, 0, 1, []⟩]) ∧
    (32 < s.tier.spares ∧ s.tier.spares ≤ spareBlks) := by decide +kernel

/-! ## Scale, optimizer, Spin -/

theorem witness_ScaleAndOptimCommits :
    let s := committing State.reset Page.scale 0 [(0x044, 2 ^ 13)]
    let o := committing State.reset Page.optim 0 [(0x050, 0x3F800000)]
    s.commitsOne .pf Page.scale 0 ∧ o.commitsOne .pf Page.optim 0 :=
  ⟨commits (by decide +kernel), commits (by decide +kernel)⟩

theorem witness_SpinSourcesAndActions :
    let s := State.reset
    let with7 (x : Source) : State := s.updSpin fun p => { p with sources := p.sources.set 7 x }
    let ok := with7 ⟨true, false, false, 1, ⟨some true, 25, true, 700, 664, 5000⟩⟩
    let test := with7 ⟨false, true, false, 0, ⟨some false, 1, true, 1023, 500, 1023⟩⟩
    let full := (State.reset.updSpin fun p => { p with
      block := List.replicate 640 (0, true), sources := p.sources.set 7 ⟨true, false, false, 0, Health.fresh⟩ })
    let pr := parted (State.reset.updCore 0 seeded)
    let pg := Page.spin
    let act (a : Word) := committing pr pg 0 [(0x040, 5), (0x044, a)]
    let doing (a : BitVec 2) := pr.updSpin fun p => { p with action := some (a, [(0, 0)]) }
    ((ok.spin.sources[(7 : Fin 8)]).healthy = true ∧ ((ok.spin.sources[(7 : Fin 8)]).health.take true).2 = some .repetition ∧
      ((ok.spin.sources[(7 : Fin 8)]).health.last = some true ∧ 25 ≤ (ok.spin.sources[(7 : Fin 8)]).health.run) ∧
      (ok.spin.sources[(7 : Fin 8)]).health.seen ≠ 0 ∧ 664 ≤ (ok.spin.sources[(7 : Fin 8)]).health.hits) ∧
    ((s.spin.sources[(7 : Fin 8)]).off = false ∧ (s.spin.sources[(7 : Fin 8)]).healthy = false) ∧
    ((test.spin.sources[(7 : Fin 8)]).testing = true ∧ ((test.spin.sources[(7 : Fin 8)]).health.take true).2 = none ∧
      1023 ≤ (test.spin.sources[(7 : Fin 8)]).health.total) ∧
    (let e := (doing 1).updSpin fun p => { full.spin with action := p.action }
     let e := e.set pg SPIN_CTRL_SOURCE 1
     let z := (doing 1).set pg SPIN_CTRL_SOURCE 1
     e.canonical = true ∧ e.spin.action = some (1, [(0, 0)]) ∧ e.flag pg SPIN_CTRL_SOURCE = true ∧ e.entropy = true ∧
       (∃ d, (State.fillBlock [] e).conditioned = some d) ∧ z.canonical = true ∧ z.spin.action = some (1, [(0, 0)]) ∧
       z.flag pg SPIN_CTRL_SOURCE = true ∧ z.entropy = false ∧ z.spin.block = []) ∧
    ((act 1).commitsOne .pf pg 0 ∧ (SpinReq.ofWords fun off => (act 1).stagedWord pg off).action = 1) ∧
    ((act 2).commitsOne .pf pg 0 ∧ (SpinReq.ofWords fun off => (act 2).stagedWord pg off).action = 2) ∧
    ((act 3).commitsOne .pf pg 0 ∧ (SpinReq.ofWords fun off => (act 3).stagedWord pg off).action = 3) ∧
    ((doing 1).canonical = true ∧ (doing 1).spin.action = some (1, [(0, 0)]) ∧ (doing 1).flag pg SPIN_CTRL_SOURCE = false) ∧
    ((doing 2).plainDram ∧ (doing 2).spin.action = some (2, [(0, 0)])) ∧
    ((doing 3).plainDram ∧ (doing 3).spin.action = some (3, [(0, 0)])) :=
  ⟨by decide +kernel, by decide +kernel, by decide +kernel,
    ⟨by decide +kernel, by decide +kernel, by decide +kernel, by decide +kernel, sent (by decide +kernel), by decide +kernel⟩,
    ⟨commits (by decide +kernel), by decide +kernel⟩,
    ⟨commits (by decide +kernel), by decide +kernel⟩, ⟨commits (by decide +kernel), by decide +kernel⟩, by decide +kernel,
    ⟨plain (by decide +kernel), by decide +kernel⟩, plain (by decide +kernel), by decide +kernel⟩

/-! ## Links and the weave -/

/-- Port 3 changed. -/
def portWith (s : State) (f : Port → Port) : State := s.updPort 3 f

theorem witness_LinkControlMovesPorts :
    let pg := Page.link 3
    let s := State.reset
    let a := portWith (withFields s [(pg, 0, LINK_CTRL_ENABLE, 1)]) fun k => { k with st := .active }
    let d := withFields s [(pg, 0, LINK_CTRL_ENABLE, 1)]
    (s.canonical = true ∧ s.takesWrite .pf pg LINK_CTRL_ENABLE.off) ∧
    (a.canonical = true ∧ a.takesWrite .pf pg LINK_CTRL_ENABLE.off ∧ (a.port 3).st ≠ .down ∧ a.flag pg LINK_CTRL_ENABLE = true ∧
      (a.port 3).st = .active) ∧
    (committing s pg 0 [(0x040, 0x200)]).commitsOne .pf pg 0 ∧
    (d.canonical = true ∧ d.portUp 3 = true ∧ (d.port 3).st = .down ∧ d.flag pg LINK_CTRL_ENABLE = true) :=
  ⟨⟨by decide +kernel, takes (by decide +kernel)⟩, ⟨by decide +kernel, takes (by decide +kernel), by decide +kernel⟩,
    commits (by decide +kernel), by decide +kernel⟩

/-- Measurements of 0 and of 1,000 ticks, and one that misses a target of 1; 62 and 63 rounds done of 64. -/
theorem witness_TrainingPinsAndTimes :
    let s := State.reset
    let arg : BitVec 48 := 7
    let i := identOf arg.toNat
    let other : Ident := ⟨7, 0, 0, 0, false, 0⟩
    let t1 := portWith (withFields s [(Page.link 3, 0, LINK_CTRL_ENABLE, 1)]) fun k => { k with st := .train }
    let t2 := portWith s fun k => { k with st := .train, locked := true }
    let t3 := portWith s fun k => { k with st := .train, locked := true, sentRdy := true, ident := some other }
    let p1 := portWith s fun k => { k with st := .pin, ident := some other }
    let q := portWith s fun k => { k with st := .pin, ident := some { other with pcn := 0 } }
    let far := portWith s fun k => { k with st := .pin, ident := some { other with pcn := 0 }, target := 1 }
    let l := portWith s fun k => { k with st := .pin, ident := some other, rounds := List.replicate 62 5 }
    let l63 := portWith s fun k => { k with st := .pin, ident := some other, rounds := List.replicate 63 5 }
    let round := (s.wt48 + 2 ^ 49 - (0 : BitVec 48).toNat - (7 : BitVec 8).toNat % 8) % 2 ^ 48
    let l' := { l63 with weave := { l63.weave with wt := 2007 } }
    let p3 := portWith s fun k => { k with st := .pin, ident := some other, sentPin := true, gotPin := true }
    let al (s : State) : State := withFields s [(Page.weave, 0, WEAVE_STATUS_ALIGNED, 1)]
    (t1.canonical = true ∧ t1.portUp 3 = true ∧ (t1.port 3).st = .train ∧ (t1.port 3).locked = false ∧
      t1.flag (Page.link 3) LINK_CTRL_ENABLE = true ∧ laneOn (t1.get (Page.link 3) LINK_CTRL_LANES) 3 = true) ∧
    ((identOf (0 : BitVec 48).toNat).pcn = t2.pcn ∧ (t2.port 3).attempts < 2 ∧ (t2.port 3).sentRdy = false) ∧
    (t2.canonical = true ∧ t2.portUp 3 = true ∧ (t2.port 3).st = .train ∧ (t2.port 3).locked = true ∧ (t2.port 3).ident = none ∧
      (t2.port 3).gotRdy = false ∧ i.lanes = (t2.port 3).laneCfg ∧ i.pcn ≠ t2.pcn) ∧
    (t3.canonical = true ∧ t3.portUp 3 = true ∧ (t3.port 3).st = .train ∧ (t3.port 3).locked = true ∧ (t3.port 3).sentRdy = true) ∧
    (q.canonical = true ∧ q.portUp 3 = true ∧ (q.port 3).st = .pin ∧ q.leads (q.port 3) = false ∧ (q.port 3).pinned = false ∧
      (q.port 3).fromDown = true ∧ (∀ lm ∈ [0, 1000], lm + 2 ≤ pinOf (q.port 3).target.toNat lm ∧
        pinOf (q.port 3).target.toNat lm ≤ lm + 255 ∧ pinOf (q.port 3).target.toNat lm < 1024)) ∧
    (far.canonical = true ∧ far.portUp 3 = true ∧ (far.port 3).st = .pin ∧ far.leads (far.port 3) = false ∧ (far.port 3).pinned = false ∧
      (far.port 3).fromDown = true ∧ (far.port 3).vcq = Vector.replicate 3 [] ∧ pinOf (far.port 3).target.toNat 0 < 0 + 2) ∧
    (l'.canonical = true ∧ l'.portUp 3 = true ∧ (l'.port 3).st = .pin ∧ l'.leads (l'.port 3) = true ∧ (l'.port 3).rounds.length = 63 ∧
      (l'.port 3).fromDown = true ∧ (((l'.port 3).rounds ++ [(l'.wt48 + 2 ^ 49 - 0 - 7) % 2 ^ 48]).foldl max 0 + 1) / 2 = 1000 ∧
      (l'.port 3).target = 0) ∧ round = 2 ^ 48 - 7 ∧
    (l.canonical = true ∧ l.portUp 3 = true ∧ (l.port 3).st = .pin ∧ l.leads (l.port 3) = true ∧ (l.port 3).rounds.length < 63) ∧
    (p1.canonical = true ∧ p1.portUp 3 = true ∧ (p1.port 3).st = .pin ∧ (p1.port 3).gotPin = false) ∧
    (p3.canonical = true ∧ p3.portUp 3 = true ∧ (p3.port 3).st = .pin ∧ (p3.port 3).sentPin = true ∧ (p3.port 3).gotPin = true ∧
      (p3.port 3).timed = false ∧ p3.aligned = false ∧ (p3.port 3).ctl.contains .timeLow = false ∧
      (p3.port 3).ctl.contains .timeHigh = false) ∧
    ((al p3).canonical = true ∧ (al p3).portUp 3 = true ∧ ((al p3).port 3).st = .pin ∧ ((al p3).port 3).sentPin = true ∧
      ((al p3).port 3).gotPin = true ∧ ((al p3).port 3).timed = false ∧ (al p3).aligned = true ∧
      (al p3).weave.wt = 0 + BitVec.ofNat 64 ((al p3).get (Page.link 3) LINK_LAT_PIN) ∧
      (0 : Pcn).toNat = (al p3).get Page.weave WEAVE_STATUS_MASTER_PCN ∧
      (al p3).weave.wt ≠ 1 + BitVec.ofNat 64 ((al p3).get (Page.link 3) LINK_LAT_PIN) ∧
      ((al p3).port 3).vcq = Vector.replicate 3 []) :=
  ⟨by decide +kernel, by decide +kernel, by decide +kernel, by decide +kernel, by decide +kernel, by decide +kernel, by decide +kernel,
    by decide +kernel, by decide +kernel, by decide +kernel, by decide +kernel, by decide +kernel⟩

/-- A control word of a KIND with its CRC. -/
def wordOf (kind : Nat) : BitVec 128 :=
  BitVec.ofNat 128 (kind * 2 ^ 48 + crc16 ((List.replicate 14 0).set 6 (BitVec.ofNat 8 kind)) * 2 ^ 112)
def goodWord : BitVec 128 := wordOf 0

/-- Drifts of 3 and of 2 ticks; a NAK that acknowledges nothing of a replay buffer of one flit; the second attempt and the
third. -/
theorem witness_LinkLossAndReplay :
    let s := State.reset
    let f : Flit := ⟨1, false, true, 0, 0, 0, 0, 0, 0, 0, 6, 0, []⟩
    let a := portWith s fun k => { k with st := .active, replay := [f], faults := 15 }
    let t := portWith s fun k => { k with st := .train, attempts := 2 }
    let many := portWith s fun k => { k with st := .active, faults := 16 }
    (many.canonical = true ∧ many.portUp 3 = true ∧ (many.port 3).st = .active ∧ 16 ≤ (many.port 3).faults ∧
      (many.port 3).faultEp = many.epochNo) ∧
    (∀ kind ∈ [0, 5], crc16 ((ctlBytes (wordOf kind)).take 14) = field (ctlBytes (wordOf kind)) 14 2 ∧
      (wordOf kind).getLsbD 16 = false ∧ field (ctlBytes (wordOf kind)) 6 1 % 16 = kind) ∧
    (a.canonical = true ∧ a.portUp 3 = true ∧ (a.port 3).st = .active ∧ 2 < (-3 : Int).natAbs ∧ (2 : Int).natAbs ≤ 2 ∧ (a.port 3).faults < 16 ∧
      crc16 ((ctlBytes goodWord).take 14) = field (ctlBytes goodWord) 14 2 ∧ goodWord.getLsbD 16 = false ∧
      (a.port 3).nakFor ≠ some 5 ∧ ((freeThrough 5 (a.port 3).replay).any fun f => f.lseq == 5 + 1) = true) ∧
    crc16 ((ctlBytes 0).take 14) ≠ field (ctlBytes 0) 14 2 ∧
    (t.canonical = true ∧ t.portUp 3 = true ∧ (t.port 3).st = .train ∧ (t.port 3).vcq = Vector.replicate 3 [] ∧ 2 ≤ (t.port 3).attempts) := by
  decide +kernel

/-- Slots at tick 1: one of core 0, one of VC1, one for a replay that is behind. Slots at tick 4: the words of a port that trains, of
one that measures, and of one that is ACTIVE while its clocks are paused. -/
theorem witness_FlitsLeaveAndLand_slots :
    let fl (vc : BitVec 2) (part : BitVec 12) : Flit := ⟨vc, false, false, 0, 0, 0, 9, 1, part, 0, 6, 0, List.replicate 256 3⟩
    let s := withFields State.reset [(Page.link 3, 0, LINK_CTRL_ENABLE, 1)]
    let at' (wt : Dword) (f : Port → Port) : State := { portWith s f with weave := { s.weave with wt := wt } }
    let flits (s : State) : Bool := s.canonical && s.portUp 3 && decide ((s.port 3).txAt ≠ some s.weave.wt ∧ s.weave.wt.toNat % 4 ≠ 0 ∧
      (∀ q, s.pressQ q = []) ∧ (∀ c, s.ringQ c = []) ∧ (s.port 3).st = .active) && s.slotOpen (s.port 3) && !s.powerStopped
    let words (s : State) : Bool := s.canonical && s.portUp 3 && decide ((s.port 3).txAt ≠ some s.weave.wt ∧ s.weave.wt.toNat % 4 = 0 ∧
      s.laneOut 3 0 = .fec)
    let again := at' 1 fun k => { k with txAt := some 1 }
    let own := at' 1 fun k => { k with st := .active, table := List.replicate 64 1, vc0 := k.vc0.set 0 [⟨fl 0 5, 0, 0⟩] }
    let free := at' 1 fun k => { k with st := .active, vcq := k.vcq.set 0 [fl 1 5] }
    let behind := at' 1 fun k => { k with st := .active, replay := [fl 1 5], resend := [fl 1 5], surplus := 77 }
    let new := at' 4 fun k => { k with st := .train, locked := true }
    let known := at' 4 fun k => { k with st := .train, locked := true, ident := some ⟨7, 0, 0, 0, false, 0⟩, ctl := [.train 2 0] }
    let mark := at' 4 fun k => { k with st := .pin, ctl := [.marker] }
    let echo := at' 4 fun k => { k with st := .pin, ctl := [.echo 9 3] }
    let still := { at' 4 fun k => { k with st := .active } with clock := { s.clock with paused := true } }
    (again.canonical = true ∧ again.portUp 3 = true ∧ (again.port 3).txAt = some again.weave.wt) ∧
    (flits own ∧ (own.port 3).resend = [] ∧ own.slotOwner (own.port 3) = some 0 ∧ (own.port 3).vc0[(0 : Fin 4)] = [⟨fl 0 5, 0, 0⟩] ∧
      0 ≤ own.clock.cclk) ∧
    (flits free ∧ (free.port 3).resend = [] ∧ free.slotOwner (free.port 3) = none ∧ (free.port 3).drr.isSome = true) ∧
    (flits behind ∧ (behind.port 3).resend ≠ [] ∧ behind.slotOwner (behind.port 3) = none ∧ (behind.port 3).drr.isNone = true ∧
      77 ≤ (behind.port 3).surplus) ∧
    (words new ∧ (new.port 3).st = .train ∧ (new.port 3).ident = none) ∧
    (words known ∧ (known.port 3).st = .train ∧ (known.port 3).ident ≠ none ∧ (known.port 3).ctl = [.train 2 0]) ∧
    (words mark ∧ (mark.port 3).st = .pin ∧ (mark.port 3).sentPin = false ∧ (mark.port 3).ctl = [.marker]) ∧
    (words echo ∧ (echo.port 3).st = .pin ∧ (echo.port 3).sentPin = false ∧ (echo.port 3).ctl = [.echo 9 3]) ∧
    (words still ∧ (still.port 3).st = .active ∧ still.slotOpen (still.port 3) = false ∧ (still.port 3).ctl = []) := by decide +kernel

/-- A flit for the last 256 bytes of what its RECV claims, in time and a tick late, with the staging buffer all but full, and with
the core STOPPED; a flit of another partition; one that is not the next after a NAK; one of VC1. -/
theorem witness_FlitsLeaveAndLand_arrivals :
    let fl (vc : BitVec 2) (part : BitVec 12) : Flit := ⟨vc, false, false, 0, 0, 0, 9, 1, part, 0, 6, 0, List.replicate 256 3⟩
    let r : Recv := ⟨3, 9, 0, 1, 512, 512⟩
    let got (wt : Dword) (f : Core → Core) : State :=
      let s := portWith (parted (State.reset.updCore 0 fun k => f { k with recvs := [r] })) fun k => { k with st := .active }
      { s with weave := { s.weave with wt := wt } }
    let late (s : State) : Nat := (s.weave.wt - (0 + BitVec.ofNat 64 (s.get (Page.link 3) LINK_LAT_PIN))).toNat
    let run' := got 1 fun k => { k with st := .running, staging := List.replicate 63 ⟨0, [], none⟩ }
    let f := fl 0 5
    let nak := portWith (got 0 id) fun k => { k with nakOut := true, ackRx := 9 }
    (run'.canonical = true ∧ run'.portUp 3 = true ∧ (run'.port 3).st = .active ∧ late run' = 1 ∧ (run'.port 3).nakOut = false ∧ f.vc = 0 ∧
      run'.partOf (coreOf f.dcore.toNat) = some f.part.toNat ∧ (run'.core 0).recvOf 3 f.bslot = some r ∧ f.last = false ∧
      256 * f.fidx.toNat + 256 ≤ r.rows * r.rowBytes ∧ (run'.core 0).st = .running ∧ (run'.core 0).staging.length < 64) ∧
    ((got 0 id).canonical = true ∧ late (got 0 id) = 0 ∧ (∀ c, ((got 0 id).core c).held = none) ∧ (got 0 id).partOf 0 = some f.part.toNat ∧
      ((got 0 id).core 0).recvOf 3 f.bslot = some r ∧ ((got 0 id).core 0).st = .stopped ∧
      (got 0 id).partOf 0 ≠ some (fl 0 6).part.toNat) ∧
    ((nak.port 3).st = .active ∧ (nak.port 3).nakOut = true ∧ f.lseq ≠ (nak.port 3).ackRx + 1) ∧
    ((fl 1 5).vc ≠ 0 ∧ (got 0 id).flag Page.mangle MANGLE_EARLY_STALLED = false) := by decide +kernel

/-- A slot table of 64 empty slots that checks, and one whose last entry sets a reserved bit. -/
theorem witness_WeaveTimeAndTables :
    let s := State.reset
    let pw := Page.weave
    let armed := { s with weave := { s.weave with armed := some ⟨false, 3, 1⟩ } }
    let load := committing s pw 0 [(0x054, 0x30), (0x060, 64)]
    let loading := withFields { s with weave := { s.weave with loading := some ⟨false, 3, 0⟩ } } [(pw, 0, WEAVE_LOAD_LEN_LEN, 64)]
    let short := { loading with dram := [(63, 8)] }
    let pcn := withFields s [(Page.chip, 0, CHIP_PCN_VALID, 1)]
    (s.canonical = true ∧ s.resets.cold = false ∧ s.resets.warm = false ∧ s.epochNo + 1 < 2 ^ 47) ∧
    (armed.canonical = true ∧ armed.resets.cold = false ∧ armed.resets.warm = false ∧ armed.epochNo + 1 < 2 ^ 47 ∧
      armed.weave.armed = some ⟨false, 3, 1⟩ ∧ 1 ≤ armed.epochNo + 1) ∧
    load.commitsOne .pf pw 0 ∧
    (loading.plainDram ∧ loading.weave.loading = some ⟨false, 3, 0⟩ ∧ loading.slotTableCheck 3 (loading.dram.read (loading.pair pw 0
      WEAVE_LOAD_BASE_LO_BASE WEAVE_LOAD_BASE_HI_BASE) (loading.get pw WEAVE_LOAD_LEN_LEN)) = .ok) ∧
    (LinkRead.clean ≠ .failed ∧ LinkRead.failed = .failed) ∧
    (short.plainDram ∧ short.weave.loading = some ⟨false, 3, 0⟩ ∧ short.slotTableCheck 3 (short.dram.read (short.pair pw 0
      WEAVE_LOAD_BASE_LO_BASE WEAVE_LOAD_BASE_HI_BASE) (short.get pw WEAVE_LOAD_LEN_LEN)) ≠ .ok) ∧
    (pcn.canonical = true ∧ pcn.takesWrite .pf pw WEAVE_CTRL_MASTER.off ∧ pcn.flag pw WEAVE_CTRL_MASTER = false ∧
      pcn.aligned = false ∧ pcn.flag Page.chip CHIP_PCN_VALID = true) ∧
    (s.takesWrite .pf Page.clk CLK_REF_SRC.off ∧ true.toNat ≠ s.get Page.clk CLK_REF_SRC) :=
  ⟨by decide +kernel, by decide +kernel, commits (by decide +kernel), ⟨plain (by decide +kernel), by decide +kernel⟩, by decide +kernel,
    ⟨plain (by decide +kernel), by decide +kernel⟩, ⟨by decide +kernel, takes (by decide +kernel), by decide +kernel⟩,
    takes (by decide +kernel), by decide +kernel⟩
/-! ## Mangle -/

/-- Core 0 in partition 5 with a rank, a member of group 0, which has ranks 0 to 3; descriptor 9 is ALL_REDUCE over `count` FP32
elements. -/
def grouped (rank count : Nat) (s : State) : State :=
  withFields (parted s) [(Page.part, 0, PART_CORE_RANK.nth 0, rank), (Page.mangle, grpIdx 0, MANGLE_G_COUNT_COUNT, 4),
    (Page.mangle, grpIdx 0, MANGLE_G_STRIDE_STRIDE, 1), (Page.mangle, grpIdx 0, MANGLE_G_PART_PART, 5),
    (Page.mangle, grpIdx 0, MANGLE_G_PART_VALID, 1), (Page.mangle, 9, MANGLE_D_OP_OP, 1), (Page.mangle, 9, MANGLE_D_OP_IFMT, 9),
    (Page.mangle, 9, MANGLE_D_OP_OFMT, 9), (Page.mangle, 9, MANGLE_D_OP_VALID, 1), (Page.mangle, 9, MANGLE_D_COUNT_COUNT, count),
    (Page.mangle, 9, MANGLE_D_PART_PART, 5)]

/-- A collective of core 0 in group 0 with descriptor 9. -/
def coll (phase : CollPhase) : Coll := ⟨0, 0, 9, tileHandle 0 0 1 17 9 (some 9), 0, 0, 0, phase, 0, 0, [], [], [], []⟩

/-- The collective outstanding. -/
def outstanding (x : Coll) (s : State) : State := s.updMangle fun m => { m with colls := [x] }

/-- A flit of Mangle for core 0 and group 0. -/
def mangleFlit (eng : Nat) (payload : List Byte) : Flit := ⟨1, false, true, 7, 0, 0, 0, 0, 5, 0, 0, BitVec.ofNat 16 (0x8000 + eng), payload⟩

/-- A first piece of a partial of two flits; the partial of one flit from the first of two children; a result for a member
that is no root and has no child, the other chunk being still to come. -/
theorem witness_MangleFlitsReachTheirCollective_data :
    let x := coll .running
    let up := mangleFlit 0 []
    let down := mangleFlit (8192 + 1) []
    let s1 := outstanding x (grouped 0 128 State.reset)
    let s2 := outstanding x (grouped 0 64 State.reset)
    let s3 := outstanding x (grouped 0 1088 State.reset)
    let d (s : State) := s.collDesc x.desc
    (s1.mangleNames up ∧ s1.collAt 0 0 (s1.dataEpoch 0 0 0) = some x ∧ x.frag = [] ∧ 0 < (d s1).chunks 4 ∧ bits up.eng.toNat 14 13 = 0 ∧
      256 < ((d s1).chunk 4 0).2.1 * (if (d s1).wide then 8 else 4) ∧ 256 * 0 < ((d s1).chunk 4 0).2.1 * 4) ∧
    (s2.mangleNames up ∧ s2.collAt 0 0 (s2.dataEpoch 0 0 0) = some x ∧ 0 < (d s2).chunks 4 ∧ ((d s2).chunk 4 0).2.1 * 4 = 256 ∧
      (d s2).wide = false ∧ x.phase ≠ .window ∧ (d s2).op ≠ 3 ∧ (d s2).op ≠ 4 ∧ x.res.contains 0 = false ∧
      ((childLevels 4 (posOf 4 0 0)).find? fun l => posOf 4 0 0 + 2 ^ l == posOf 4 0 1) = some 0 ∧ 1 ∈ childLevels 4 (posOf 4 0 0) ∧
      x.parts = []) ∧
    (s3.mangleNames down ∧ bits down.eng.toNat 14 13 = 1 ∧ down.eng.toNat % 8192 = 1 ∧ s3.collAt 0 0 (s3.dataEpoch 0 0 0) = some x ∧
      1 < (d s3).chunks 4 ∧ ((d s3).chunk 4 1).2.1 * elemSize (d s3).ofmt = 256 ∧ x.phase = .running ∧ (d s3).op ≠ 2 ∧
      ((d s3).chunk 4 1).2.2 = 1 ∧ posOf 4 1 0 ≠ 0 ∧ x.res.contains 1 = false ∧ posOf 4 1 3 = parentPos 4 (posOf 4 1 0) ∧
      childLevels 4 (posOf 4 1 0) = [] ∧ 0 < (d s3).chunks 4 ∧ x.res.contains 0 = false) := by
  unfold State.mangleNames
  decide +kernel

/-- DONE of the first of two children with the right signature and with another; FINISH and ABORT at a leaf. -/
theorem witness_MangleFlitsReachTheirCollective_control :
    let x := coll .running
    let y := coll .sentDone
    let s := outstanding x (grouped 0 64 State.reset)
    let t := outstanding y (grouped 1 64 State.reset)
    let msg (kind sig : Nat) : Flit := mangleFlit (2 * 8192) (leBytes 1 kind ++ leBytes 7 0 ++ leBytes 2 sig)
    let good := msg 1 (s.signature 9)
    let bad := msg 1 (s.signature 9 + 1)
    (s.mangleNames good ∧ bits good.eng.toNat 14 13 = 2 ∧ s.collAt 0 0 (BitVec.ofNat 32 (field good.payload 4 4)) = some x ∧
      field good.payload 0 1 = 1 ∧ x.phase = .running ∧ (ctlChildren 4 0).contains 1 = true ∧
      field good.payload 8 2 = s.signature x.desc ∧ 2 ∈ ctlChildren 4 0 ∧ 2 ≠ 1 ∧ x.dones.contains 2 = false) ∧
    (s.mangleNames bad ∧ field bad.payload 8 2 ≠ s.signature x.desc ∧ ∀ r ∈ ctlNeighbours 4 0, s.grpCore (s.grp 0) r = none) ∧
    (t.mangleNames (msg 2 0) ∧ t.collAt 0 0 0 = some y ∧ field (msg 2 0).payload 0 1 = 2 ∧ y.phase = .sentDone ∧
      (t.grpRank (t.grp 0) 0).getD 0 = 1 ∧ ctlChildren 4 1 = [] ∧ (t.core 0).life = y.life) ∧
    (t.mangleNames (msg 3 0) ∧ field (msg 3 0).payload 0 1 = 3 ∧ y.phase ≠ .window ∧ ∀ r ∈ ctlNeighbours 4 1, r = 0) := by
  unfold State.mangleNames
  decide +kernel

theorem witness_CollectivesEndAndGroupsBegin :
    let g := fun s => grouped 0 64 s
    let run' := outstanding (coll .running) (g State.reset)
    let sent := outstanding (coll .sentDone) (g State.reset)
    let win := outstanding (coll .window) (g State.reset)
    let desc := committing (g State.reset) Page.mangle 0 [(0x044, 0x80009901), (0x048, 64), (0x054, 5)]
    let grp := withFields (committing State.reset Page.mangle 1 [(0x05C, 4), (0x060, 1), (0x064, 5 + 2 ^ 31)])
      [(Page.mangle, 0, MANGLE_SEL_KIND, 1), (Page.mangle, 0, MANGLE_SEL_INDEX, 63)]
    (run'.canonical = true ∧ run'.oldestColl 0 0 (· != .window) = some (coll .running) ∧ run'.collAt 0 0 0 = some (coll .running) ∧
      ∀ r ∈ ctlNeighbours 4 0, run'.grpCore (run'.grp 0) r = none) ∧
    (sent.canonical = true ∧ sent.oldestColl 0 0 (· != .window) = some (coll .sentDone) ∧ (coll .sentDone).phase ≠ .running ∧
      (sent.grpRank (sent.grp 0) 0).getD 0 < 16384) ∧
    (win.canonical = true ∧ win.oldestColl 0 0 (· == .window) = some (coll .window) ∧ (coll .window).origin < 16384) ∧
    desc.commitsOne .pf Page.mangle 0 ∧ grp.commitsOne .pf Page.mangle 1 :=
  ⟨by decide +kernel, by decide +kernel, by decide +kernel, commits (by decide +kernel), commits (by decide +kernel)⟩
/-! ## Press and hangers -/

/-- A multicast entry and a path entry of it: its index, its group, whether it is for this chip's hanger, its forward ports. -/
def multicast (i group loc fwd : Nat) (s : State) : State :=
  withFields s [(Page.press, i, PRESS_MC_ENTRY_GROUP, group), (Page.press, i, PRESS_MC_ENTRY_LOCAL, loc),
    (Page.press, i, PRESS_MC_ENTRY_FWD, fwd), (Page.press, i, PRESS_MC_ENTRY_VALID, 1),
    (Page.weave, i, WEAVE_PATH_LO_ENTRY, 2 ^ 17 + 3 * 2 ^ 13 + 2 ^ 12 + group)]

/-- A press descriptor of core 0: its operation, its flags, its group and its coordinator; version 7 of model 2 for CGROUP 21. -/
def pressDesc (op flags grp coordPcn : Nat) : Desc :=
  descOf [(0, 1, op), (1, 1, flags), (2, 1, 16 * 2 + tDram), (4, 4, 1), (16, 8, 2 ^ 64 - 1), (48, 4, 7), (52, 2, grp), (54, 2, 21),
    (56, 2, coordPcn), (58, 2, 2)]

/-- A press of one tile with a side record of its own to group 20, whose entry 0 forwards on port 3; a CANCEL to the chip that
coordinates; a coordinator that one of two chips has answered. -/
theorem witness_PressDescriptorsRunAndEnd :
    let up (s : State) : State := (multicast 0 20 0 8 (multicast 1 21 1 8 (hosted s))).updPort 3 fun k => { k with st := .active }
    let q (d : Desc) : State := (up State.reset).setPressQ 0 [d]
    let send := pressDesc 1 1 20 9
    let canc := pressDesc 2 0 20 9
    let co := { pressDesc 1 4 20 0 with begun := true, n := 1 }
    ((q send).plainDram ∧ (q send).pressQ 0 = [send] ∧ send.begun = false ∧ (q send).pressMay send = true ∧ (q send).pressCheck send = .ok ∧
      send.op = 1 ∧ send.ntiles = 1 ∧ send.srct = tDram ∧ send.pCoord = false ∧ send.pGroup ≠ 0xFFF ∧
      (q send).mcEntry send.pGroup = some 0 ∧ (q send).mcLocal 0 = false ∧ ((q send).mcPorts 0 none).all (q send).portActive = true ∧
      (q send).mcPorts 0 none ≠ [] ∧
      ∃ x, send.pressSide 0 ((q send).dram.read send.src 4096) ((q send).dram.read (sideStore + 32 * (send.src / 4096)) 32) = some x) ∧
    ((q canc).plainDram ∧ (q canc).pressQ 0 = [canc] ∧ canc.begun = false ∧ (q canc).pressMay canc = true ∧ (q canc).pressCheck canc = .ok ∧
      canc.op = 2 ∧ canc.pCgroup ≠ 0xFFF ∧ BitVec.ofNat 12 canc.pCoordPcn ≠ (q canc).pcn ∧ (q canc).mcEntry canc.pCgroup = some 1 ∧
      ((q canc).mcPorts 1 none).all (q canc).portActive = true) ∧
    ((q co).plainDram ∧ (q co).pressQ 0 = [co] ∧ co.begun = true ∧ co.op = 1 ∧ co.pCoord = true ∧
      (q co).coordinator co.part.toNat (2 : BitVec 4).toNat 7 = some (0, 0) ∧ (15 : Byte).toNat < 16 ∧
      co.acks.contains (9 : Pcn) = false ∧ co.acks.length + 1 < co.pNdest) := by
  refine ⟨⟨plain (by decide +kernel), by decide +kernel, by decide +kernel, by decide +kernel, by decide +kernel, by decide +kernel,
    by decide +kernel, by decide +kernel, by decide +kernel, by decide +kernel, by decide +kernel, by decide +kernel,
    by decide +kernel, by decide +kernel, sent (by decide +kernel)⟩, ⟨plain (by decide +kernel), by decide +kernel⟩, plain (by decide +kernel), by decide +kernel⟩

/-- Model 2 of partition 5, with bank 1 in segment 1 and two tiles, in a state with pending version 7; group 20 is for this chip. -/
def hangered (st : Nat) (s : State) : State :=
  withFields (multicast 0 20 1 0 (hosted s)) [(Page.hanger, 2, HANGER_CFG_VALID, 1), (Page.hanger, 2, HANGER_CFG_PART, 5),
    (Page.hanger, 2, HANGER_CFG_CORES, 1), (Page.hanger, 2, HANGER_SEGS_BANK1, 1), (Page.hanger, 2, HANGER_SEGS_NSEG, 1),
    (Page.hanger, 2, HANGER_TILES_TILES, 2), (Page.hanger, 2, HANGER_STATE_STATE, st), (Page.hanger, 2, HANGER_PEND_VER_VERSION, 7)]

/-- Tile `i` of version 7 for model 2. -/
def pressed (i : Nat) : PressTile :=
  let data := List.replicate 4096 9
  ⟨3, 20, 9, 9, 2, 5, sealSide data (patchBytes (patchBytes (List.replicate 28 0) 16 (leBytes 4 7)) 20 (leBytes 4 i)), data⟩

/-- The first and the last tile of a version; a model in each state that ARM, CANCEL and the last flip act on. -/
theorem witness_HangersFillArmAndSettle :
    let fill := hangered hFilling State.reset
    let last := fill.updHanger 2 fun h => { h with landed := [0] }
    let split := withFields (hangered hSplit State.reset) [(Page.hanger, 2, HANGER_STATE_ON_NEW, 1)]
    let cfg := withFields (committing (parted State.reset) Page.hanger 0 [(0x044, 1 + 5 * 2 ^ 16 + 2 ^ 31), (0x048, 256 + 2 ^ 16), (0x04C, 2)])
      [(Page.hanger, 0, HANGER_SEL_MODEL, 15)]
    let mc := withFields (committing State.reset Page.press 0 [(0x044, 20 + 2 ^ 31)]) [(Page.press, 0, PRESS_MC_SEL_ENTRY, 63)]
    let lands (s : State) (i : Nat) : Prop :=
      let x := pressed i
      let side := slice x.side 0 32
      s.canonical = true ∧ s.mcEntry x.group.toNat = some 0 ∧ s.mcLocal 0 = true ∧ s.inReset Page.hanger = false ∧
        s.modelValid 2 = true ∧ s.hg 2 HANGER_CFG_PART = x.part.toNat ∧ s.hg 2 HANGER_STATE_STATE = hFilling ∧
        s.hg 2 HANGER_PEND_VER_VERSION = field side 16 4 ∧ sideOk (slice x.data 0 4096) side = true ∧ field side 0 1 % 16 < 10 ∧
        field side 20 4 = i ∧ i < s.hg 2 HANGER_TILES_TILES ∧ (s.hanger 2).landed.contains i = false ∧ x.coord ≠ s.pcn
    lands fill 0 ∧ (fill.hanger 2).landed.length + 1 < fill.hg 2 HANGER_TILES_TILES ∧
    lands last 1 ∧ (last.hanger 2).landed.length + 1 = last.hg 2 HANGER_TILES_TILES ∧
    (∀ st ∈ [hFilling, hReady, hArmed], let s := hangered st State.reset
      s.canonical = true ∧ s.mcEntry 20 = some 0 ∧ s.mcLocal 0 = true ∧ s.modelValid 2 = true ∧ s.hg 2 HANGER_CFG_PART = 5 ∧
        s.hg 2 HANGER_PEND_VER_VERSION = 7 ∧ s.hg 2 HANGER_STATE_STATE = st) ∧
    (split.canonical = true ∧ split.hg 2 HANGER_STATE_STATE = hSplit ∧ split.hg 2 HANGER_STATE_ON_NEW = split.hg 2 HANGER_CFG_CORES) ∧
    cfg.commitsOne .pf Page.hanger 0 ∧ mc.commitsOne .pf Page.press 0 := by
  have side : ∀ i, sideOk (slice (pressed i).data 0 4096) (slice (pressed i).side 0 32) = true := by
    intro i
    simp only [pressed]
    rw [slice_self _ 32 (length_sealSide _ _), slice_self _ 4096 (List.length_replicate ..)]
    exact sideOk_sealSide _ _
  refine ⟨⟨?_, ?_, ?_, ?_, ?_, ?_, ?_, ?_, side 0, ?_, ?_, ?_, ?_, ?_⟩, ?_, ⟨?_, ?_, ?_, ?_, ?_, ?_, ?_, ?_, side 1, ?_, ?_, ?_, ?_, ?_⟩, ?_,
    ?_, ?_, commits (by decide +kernel), commits (by decide +kernel)⟩ <;> decide +kernel

/-! ## Rings and serving -/

/-- Ring 63 at DRAM address 0 for partition 5: records of 128 bytes, one slot a lane, ranks 1 and 3. -/
def ringed (drop : Nat) (s : State) : State :=
  withFields (hosted s) [(Page.xring, 63, XRING_REC_RECU, 2), (Page.xring, 63, XRING_PROD_PROD_BASE, 1), (Page.xring, 63, XRING_PROD_STRIDE, 2),
    (Page.xring, 63, XRING_MODE_NPROD, 2), (Page.xring, 63, XRING_MODE_PART, 5), (Page.xring, 63, XRING_MODE_VALID, 1),
    (Page.xring, 63, XRING_MODE_POLICY, drop)]

/-- Path entry 0 to a chip through port 3, which is ACTIVE. -/
def pathTo (dst : Nat) (s : State) : State :=
  (withFields s [(Page.weave, 0, WEAVE_PATH_LO_ENTRY, 2 ^ 17 + 3 * 2 ^ 13 + dst)]).updPort 3 fun k => { k with st := .active }

/-- A record of rank 3 with 64 bytes of payload. -/
def record : List Byte := rawOf [(6, 2, 3), (32, 4, 64)] ++ List.replicate 64 9

theorem witness_RingRecordsAndCredits_consumer :
    let s := ringed 0 State.reset
    let full := s.setRing 63 ⟨[⟨1, 4, 3, 0, none⟩], [], 0⟩
    let path := pathTo 9 s
    let i := s.ringInfo 63
    (s.plainDram ∧ s.inReset Page.xring = false ∧ i.valid = true ∧ i.part = (5 : BitVec 12).toNat ∧ 64 + field record 32 4 ≤ i.recb ∧
      i.lane (field record 6 2) = some 1 ∧ ((s.ring 63).lane 1).landed - ((s.ring 63).lane 1).taken < i.depth) ∧
    (full.plainDram ∧ full.ringInfo 63 = i ∧ i.depth ≤ ((full.ring 63).lane 1).landed - ((full.ring 63).lane 1).taken ∧ i.drop = false) ∧
    (path.plainDram ∧ path.ringInfo 63 = i ∧ ∃ u, path.sendRing (9 : Pcn).toNat (5 : BitVec 12).toNat 63 2 0 1 (3 : BitVec 16).toNat 1 = some u) ∧
    (1 : BitVec 16).toNat < i.nprod :=
  ⟨⟨plain (by decide +kernel), by decide +kernel⟩, ⟨plain (by decide +kernel), by decide +kernel⟩,
    ⟨plain (by decide +kernel), by decide +kernel, sent (by decide +kernel)⟩, by decide +kernel⟩

/-- A push of 4 bytes at CMEM address 0 to ring 63 of this chip, which drops or holds. -/
def pushing (drop : Nat) (l : List Producer) : State :=
  ((pathTo 0 (ringed drop State.reset)).setRingQ 0 [descOf [(0, 1, 1), (3, 1, 63), (16, 4, 4)]]).updEng fun e => { e with prods := l }

theorem witness_RingRecordsAndCredits_producer :
    let d := descOf [(0, 1, 1), (3, 1, 63), (16, 4, 4)]
    let p (free : Nat) : Producer := ⟨0, 63, 0, 1, true, free⟩
    let runs (s : State) : Prop := s.plainDram ∧ s.ringQ 0 = [d] ∧ d.op = 1 ∧ d.out = [] ∧ s.ringMay d = true ∧ addrOf d.rAddr = some (0, 0) ∧
      d.rLen ≤ 65472 ∧ s.engRange 0 0 0 d.rLen = true ∧ d.rDest = s.pcn.toNat
    let sends (s : State) : Prop := ∃ payload v u, s.readSpace 0 0 0 d.rLen = (payload, false, v) ∧
      v.sendEng vc1 false d.rDest d.part.toNat (ringEng .ringRec d.rRing) ((List.range 1).map fun j =>
        slice (v.pushRecord 0 d payload) (256 * j) 256) = some u
    let h := pushing 0 [p 1]
    runs (pushing 1 []) ∧ ((pushing 1 []).ringInfo 63).drop = true ∧ sends (pushing 1 []) ∧
    runs h ∧ (h.ringInfo 63).drop = false ∧ h.prodOf 0 63 (h.rankOf 0) = some (p 1) ∧ (p 1).opened = true ∧ sends (h.setProd (p 0)) ∧
    runs (pushing 0 [p 0]) ∧ (pushing 0 [p 0]).prodOf 0 63 ((pushing 0 [p 0]).rankOf 0) = some (p 0) ∧ (p 0).opened = true ∧
      (pushing 0 [p 0]).prodOf 0 63 0 = some (p 0) ∧ (pushing 0 [p 0]).waitingPush 0 63 0 = [] := by
  have sends : ∀ s : State, (s.readSpace 0 0 0 4).2.1 = false →
      ((s.readSpace 0 0 0 4).2.2.sendEng vc1 false 0 (5 : BitVec 12).toNat (ringEng .ringRec 63) ((List.range 1).map fun j =>
        slice ((s.readSpace 0 0 0 4).2.2.pushRecord 0 (descOf [(0, 1, 1), (3, 1, 63), (16, 4, 4)]) (s.readSpace 0 0 0 4).1)
          (256 * j) 256)).isSome = true →
      ∃ payload v u, s.readSpace 0 0 0 4 = (payload, false, v) ∧
        v.sendEng vc1 false 0 (5 : BitVec 12).toNat (ringEng .ringRec 63) ((List.range 1).map fun j =>
          slice (v.pushRecord 0 (descOf [(0, 1, 1), (3, 1, 63), (16, 4, 4)]) payload) (256 * j) 256) = some u := by
    intro s h1 h2
    obtain ⟨u, h⟩ := sent h2
    exact ⟨_, _, u, by rw [← h1], h⟩
  refine ⟨⟨plain (by decide +kernel), by decide +kernel⟩, by decide +kernel, sends _ (by decide +kernel) (by decide +kernel),
    ⟨plain (by decide +kernel), by decide +kernel⟩, by decide +kernel, by decide +kernel, by decide +kernel,
    sends _ (by decide +kernel) (by decide +kernel), ⟨plain (by decide +kernel), by decide +kernel⟩, by decide +kernel, by decide +kernel⟩

theorem witness_RingRecordsAndCredits_commit :
    (withFields (committing State.reset Page.xring 0 [(0x04C, 2 + 12 * 2 ^ 16), (0x050, 2 ^ 16), (0x054, 256 + 5 * 2 ^ 16 + 2 ^ 31)])
      [(Page.xring, 0, XRING_SEL_RING, 63)]).commitsOne .pf Page.xring 0 := commits (by decide +kernel)

/-- A pop of one record into segment 0's first 128 bytes, from lane 0 of a ring that drops. -/
theorem witness_PopsAndGathers_pop :
    let crc := leBytes 4 (recCrc (List.replicate 128 0))
    let d := descOf [(0, 1, 2), (3, 1, 63), (4, 4, 1), (8, 8, 2 ^ 60), (20, 4, 39)]
    let s := ((ringed 1 (State.reset.writeDram 60 crc)).setRing 63 ⟨[⟨0, 1, 0, 0, none⟩], [(0, 0)], 0⟩).setRingQ 0 [d]
    let i := s.ringInfo 63
    let bs := s.dram.read (i.slot 0 0) i.recb
    s.plainDram ∧ s.ringQ 0 = [d] ∧ d.op = 2 ∧ s.ringMay d = true ∧ d.begun = false ∧ d.rCount = 1 ∧ addrOf d.rAddr = some (1, 0) ∧
      i.valid = true ∧ s.partOf 0 = some i.part ∧ s.engRange 0 1 0 i.recb = true ∧ (s.ring 63).nextRec i = some (0, 0) ∧
      i.drop = true ∧ i.maxlag = 0xFFFF ∧ d.n = 0 ∧ recCrc bs = field bs 60 4 ∧ d.rDeadline ≠ 0 ∧ d.n ≤ 4096 := by
  intro crc d s i bs
  exact ⟨plain (by decide +kernel), by decide +kernel⟩

/-- Serving unit 0 of partition 5 on core 0: one row, model 2, its table at DRAM address 4096. -/
def served (s : State) : State :=
  withFields (hangered hFilling s) [(Page.patch, 0, PATCH_I_CFG_CORES, 1), (Page.patch, 0, PATCH_I_CFG_MODEL, 2),
    (Page.patch, 0, PATCH_I_CFG_VALID, 1), (Page.patch, 0, PATCH_I_PART_PART, 5), (Page.patch, 0, PATCH_I_PART_ROWS, 1),
    (Page.patch, 0, PATCH_I_TBL_LO_TBL, 4096), (Page.patch, 0, PATCH_I_STORE_LO_STORE, 8192), (Page.patch, 0, PATCH_I_RES_NRES, 1),
    (Page.patch, 0, PATCH_I_RES_SLOT_TILES, 1)]

/-- A gather of core 0 for step 0; its progress, and where its record goes. -/
def gather (begun : Bool) (n dst : Nat) : Desc := { descOf [(0, 1, 1), (16, 8, dst), (24, 4, 39)] with begun := begun, n := n }

/-- A table of one row for step 0, with a version and its CRC. -/
def table (ver : Nat) : List Byte :=
  let t := rawOf [(8, 2, 1), (12, 4, ver)] ++ List.replicate 16 0
  patchBytes t 60 (leBytes 4 (crc32c (t.take 60 ++ t.drop 64)))

theorem witness_PopsAndGathers_gather :
    let q (d : Desc) : State := (served State.reset).setGatherQ 0 [d]
    let new := gather false 0 0
    let odd := gather false 0 64
    let wait := gather true 1 0
    let latch := ((served (State.reset.writeDram 4096 (table 5))).setGatherQ 0 [wait]).updServe 0 fun v => { v with posted := 1 }
    let held := gather true 2 0
    let x := latch.instInfo 0
    let t := latch.dram.read (x.tbl + 16384 * (wait.gStep % 2)) (64 + 16 * x.rows)
    ((q new).plainDram ∧ (q new).gatherQ 0 = [new] ∧ new.begun = false ∧ (q new).inReset Page.patch = false ∧ (q new).mayStart = true ∧
      (q new).postsFree new new.rPost = true ∧ (q new).gatherCheck 0 new = true) ∧
    ((q odd).plainDram ∧ (q odd).gatherQ 0 = [odd] ∧ odd.begun = false ∧ (q odd).inReset Page.patch = false ∧ (q odd).mayStart = true ∧
      (q odd).postsFree odd odd.rPost = true ∧ (q odd).gatherCheck 0 odd = false) ∧
    (latch.plainDram ∧ latch.gatherQ 0 = [wait] ∧ wait.begun = true ∧ latch.inReset Page.patch = false ∧ latch.powerStopped = false ∧
      wait.n = 1 ∧ wait.gStep < (latch.serve 0).posted ∧ tableOk t wait.gStep x.rows = true ∧
      latch.hg x.model (HANGER_ACTIVE_VERSION.nth 0) < field t 12 4 ∧ latch.hg x.model HANGER_STATE_STATE = hFilling) ∧
    ((q held).plainDram ∧ (q held).gatherQ 0 = [held] ∧ held.begun = true ∧ (q held).inReset Page.patch = false ∧ (q held).powerStopped = false ∧ held.n = 2 ∧
      field (((q held).serve 0).tables[(0 : CoreId)]) 12 4 = 0 ∧ (∀ k, k < x.rows → rowValid (((q held).serve 0).tables[(0 : CoreId)]) k = false) ∧
      addrOf held.gDst = some (0, 0) ∧ held.gDeadline ≠ 0) :=
  ⟨⟨plain (by decide +kernel), by decide +kernel⟩, ⟨plain (by decide +kernel), by decide +kernel⟩,
    ⟨plain (by decide +kernel), by decide +kernel⟩, plain (by decide +kernel), by decide +kernel⟩

/-- An entry that is valid, with a generation above the last, and a release of it. -/
theorem witness_PopsAndGathers_commit :
    let s := served State.reset
    let unit' := committing s Page.patch 0 [(0x044, 1 + 2 * 2 ^ 8 + 2 ^ 31), (0x048, 5 + 2 ^ 16), (0x05C, 1 + 2 ^ 8 + 2 ^ 16)]
    let entry (v : Nat) : State := withFields (committing (served (State.reset.writeDram (8192 + 20) [7])) Page.patch 1
      [(0x060, 16 + v * 2 ^ 31), (0x070, 1), (0x074, 8)]) [(Page.patch, 0, PATCH_SEL_ENTRY, 0)]
    unit'.commitsOne .pf Page.patch 0 ∧ (entry 1).plainDram ∧ (entry 1).commitsOne .pf Page.patch 1 ∧ (entry 0).commitsOne .pf Page.patch 1 :=
  ⟨commits (by decide +kernel), plain (by decide +kernel), commits (by decide +kernel), commits (by decide +kernel)⟩

/-! ## Partitions and contexts -/

/-- One core moves to partition 6, another leaves partition 5; grants of one segment and of the last, a release; an eviction for
an epoch to come and for one that has begun; an eviction whose core has halted and one whose core runs. -/
theorem witness_PartitionsGrantsAndEvictions :
    let pg := Page.part
    let s := State.reset
    let move := committing (parted s) pg 0 [(0x040, 6 + 2 ^ 31), (0x044, 5 + 2 ^ 31)]
    let wiped := s.updCore 0 fun k => { k with wiping := true }
    let grant (w : Nat) : State := committing (parted s) pg 1 [(0x050, BitVec.ofNat 32 w)]
    let zero := withFields s [(pg, 127, PART_SEG_INFO_STATE, 1), (pg, 127, PART_SEG_INFO_PART, 5), (pg, 127, PART_SEG_INFO_ZEROING, 1)]
    let evict (e : Word) (f : Core → Core) : State := committing (parted (runWith f)) pg 2 [(0x05C, 1), (0x060, e)]
    let v : Evict := ⟨1, 0, 100, 0, true⟩
    let halted := { parted s with evict := some v }
    let running := { parted run with evict := some v }
    (move.commitsOne .pf pg 0 ∧ (Member.of (move.stagedWord pg 0x040)).partition ≠ (move.member 0).partition ∧
      (Member.of (move.stagedWord pg 0x048)).partition = (move.member 2).partition) ∧
    (wiped.canonical = true ∧ (wiped.core 0).wiping = true) ∧
    ((grant (127 + 256 + 5 * 2 ^ 16)).commitsOne .pf pg 1 ∧ (GrantReq.of ((grant (127 + 256 + 5 * 2 ^ 16)).stagedWord pg 0x050)).release = false) ∧
    ((grant (512 + 5 * 2 ^ 16 + 2 ^ 31)).commitsOne .pf pg 1 ∧
      (GrantReq.of ((grant (512 + 5 * 2 ^ 16 + 2 ^ 31)).stagedWord pg 0x050)).release = true) ∧
    (zero.canonical = true ∧ zero.segZeroing (127 : Fin 128).1 = true) ∧
    ((evict 1 id).commitsOne .pf pg 2 ∧ (evict 1 id).epochNo < (EvictReq.ofWords fun off => (evict 1 id).stagedWord pg off).epoch) ∧
    ((evict 0 id).commitsOne .pf pg 2 ∧ (EvictReq.ofWords fun off => (evict 0 id).stagedWord pg off).epoch ≤ (evict 0 id).epochNo ∧
      0 ∈ coresOf (EvictReq.ofWords fun off => (evict 0 id).stagedWord pg off).cores ∧ ((evict 0 id).core 0).idle = false) ∧
    (halted.plainDram ∧ halted.evict = some v ∧ v.pending = true ∧ coresOf v.cores.toNat = [0] ∧ (halted.core 0).idle = true) ∧
    (running.plainDram ∧ running.evict = some v ∧ (running.core 0).idle = false) :=
  ⟨⟨commits (by decide +kernel), by decide +kernel⟩, by decide +kernel, ⟨commits (by decide +kernel), by decide +kernel⟩,
    ⟨commits (by decide +kernel), by decide +kernel⟩, by decide +kernel, ⟨commits (by decide +kernel), by decide +kernel⟩,
    ⟨commits (by decide +kernel), by decide +kernel⟩, ⟨plain (by decide +kernel), by decide +kernel⟩, plain (by decide +kernel), by decide +kernel⟩

/-- Context 3, its queues enabled, with submissions from the host. -/
def queued (s : State) : State := withFields (hosted s) [(Page.ctx 3, 0, CTX_QCTRL_ENABLE, 1)]

/-- Accepted bindings, one VALID; doorbells at the bounds of what is obeyed, and one index further. -/
theorem witness_ContextsTakeCommands_queues :
    let pg := Page.ctx 3
    let bind (w : Word) : State := committing (hosted State.reset) pg 0 [(0x040, w), (0x044, 2 ^ 16)]
    let queue := committing (hosted State.reset) pg 1 [(0x054, 4096), (0x05C, 8192), (0x064, 1)]
    let sq := withFields (queued State.reset) [(pg, 0, CTX_SQ_STATE_HEAD, 300), (pg, 0, CTX_SQ_STATE_TAIL, 302)]
    let cq := withFields (queued State.reset) [(pg, 0, CTX_CQ_STATE_HEAD, 511), (pg, 0, CTX_CQ_STATE_TAIL, 1)]
    let d (t : Nat) : Nat := qDepth (sq.get pg CTX_SQ_STATE_HEAD) t
    let h (t : Nat) : Nat := qDepth (cq.get pg CTX_CQ_STATE_HEAD) t
    (bind (5 + 2 ^ 16 + 2 ^ 31)).commitsOne .pf pg 0 ∧ (bind 0).commitsOne .pf pg 0 ∧
    (queue.commitsOne (.vf 3) pg 1 ∧ (queue.ctx 3).held = [] ∧ (queue.ctx 3).kept = []) ∧
    (sq.canonical = true ∧ sq.takesWrite (.vf 3) pg CTX_SQ_DB_TAIL.off ∧ sq.sqDepth 3 = 2 ∧ d 302 = 2 ∧ d 301 = 1 ∧ d 44 = 256 ∧ d 45 = 257) ∧
    (cq.canonical = true ∧ cq.takesWrite (.vf 3) pg CTX_CQ_DB_HEAD.off ∧ (cq.ctx 3).held = [] ∧ (cq.ctx 3).kept = [] ∧ cq.cqDepth 3 = 2 ∧ h 1 = 2 ∧ h 2 = 3) := by
  intro pg bind queue sq cq d h
  exact ⟨commits (by decide +kernel), commits (by decide +kernel), ⟨commits (by decide +kernel), by decide +kernel⟩,
    ⟨by decide +kernel, takes (by decide +kernel), by decide +kernel⟩, by decide +kernel, takes (by decide +kernel), by decide +kernel⟩

/-- Context 3 with one command in progress. -/
def commanded (l : List (Nat × Nat × Nat)) (begun : Bool) (s : State) : State :=
  (queued s).updCtx 3 fun x => { x with cmds := [⟨7, rawOf l, begun, none⟩] }

/-- Every command of context 3; blocks 31 alone and 0 to 31; the last bundle; queues with room; the step that is next; both
directions of a COPY, at both ends of the window, and a COPY into the side store. -/
theorem witness_ContextsTakeCommands_commands :
    let pg := Page.ctx 3
    let fetch := withFields { queued State.reset with host := [(0, 5)] } [(pg, 0, CTX_SQ_STATE_TAIL, 1)]
    let load (blk n : Nat) : List (Nat × Nat × Nat) := [(0, 1, 1), (9, 1, blk), (10, 1, n)]
    let start := commanded [(0, 1, 2), (8, 1, 1), (10, 2, 2047), (16, 8, 9)] false State.reset
    let eng (e : Nat) : State := commanded [(0, 1, 3), (8, 1, e)] false State.reset
    let batch := withFields (commanded [(0, 1, 4)] false (served State.reset)) [(Page.patch, 0, PATCH_I_CFG_CTX, 3)]
    let copy (dir addr len : Nat) (begun : Bool) : State := commanded [(0, 1, 5), (8, 1, dir), (12, 4, len), (24, 8, addr)] begun State.reset
    let ready (s : State) : Prop := s.plainDram ∧ s.inReset pg = false ∧ s.powerStopped = false
    let cmd (s : State) (code : Nat) : Prop := ∃ k, (s.ctx 3).cmds = [k] ∧ k.begun = false ∧ k.code = code ∧ (s.binding 3).valid = true
    (ready fetch ∧ (fetch.ctx 3).cmds = [] ∧ fetch.ctxEnabled 3 = true ∧ (fetch.ctx 3).flr = false ∧ 0 < fetch.sqDepth 3 ∧ fetch.cqDepth 3 < 256 ∧
      field (fetch.hostRead 0 64) 0 1 = 5) ∧
    (∀ x ∈ [(31, 1), (0, 32)], let s := commanded (load x.1 x.2) false State.reset
      ready s ∧ cmd s 1 ∧ s.cmdCheck 3 (!(s.binding 3).cores.testBit 0 || decide (x.2 = 0 ∨ 32 < x.2 ∨ 32 < x.1 + x.2)) [0] = .ok) ∧
    (ready start ∧ cmd start 2 ∧ start.cmdCheck 3 (!(start.binding 3).cores.testBit 0 || decide (2047 < 2047)) [0] = .ok ∧
      start.flag (Page.core 0) CORE_CTRL_HALT_REQ = false) ∧
    (∀ e ∈ [0, 2], ready (eng e) ∧ cmd (eng e) 3 ∧ (eng e).tier.queues[4].length + ((eng e).tier.hold.filter fun x => x.queue == 4).length < 64 ∧
      (eng e).inReset Page.tier = false ∧ ((eng e).pressQ 4).length < 16 ∧ (eng e).inReset Page.press = false) ∧
    (ready batch ∧ cmd batch 4 ∧ batch.inReset Page.patch = false ∧ (batch.instInfo 0).valid = true ∧ (batch.instInfo 0).ctx = 3 ∧
      (batch.serve 0).posted = 0 ∧ (batch.serve 0).posted ≤ batch.latchedAll 0) ∧
    (∀ x ∈ [(0, 0, 2 ^ 21), (1, 2 ^ 21 - 64, 64)], let s := copy x.1 x.2.1 x.2.2 false
      ready s ∧ cmd s 5 ∧ x.2.2 % 64 = 0 ∧ x.2.2 ≤ 2 ^ 30 ∧ inWindows (s.binding 3).wins x.2.1 x.2.2 = true ∧ x.2.1 + x.2.2 ≤ dramGeneral) ∧
    (ready (copy 0 dramGeneral 64 false) ∧ cmd (copy 0 dramGeneral 64 false) 5 ∧ dramGeneral < dramBytes) ∧
    (∀ x ∈ [(0, 0, 64), (1, 2 ^ 21 - 64, 64)], let s := copy x.1 x.2.1 x.2.2 true
      ready s ∧ ∃ k, (s.ctx 3).cmds = [k] ∧ k.works = true ∧ k.code = 5) ∧ State.reset.ctxEnabled 3 = false := by
  intro pg fetch load start eng batch copy ready cmd
  have cmdOf : ∀ s code, ((s.ctx 3).cmds.length = 1 ∧ ((s.ctx 3).cmds.all fun k => !k.begun && k.code == code) = true ∧
      (s.binding 3).valid = true) → cmd s code := by
    intro s code h
    obtain ⟨h1, h2, h3⟩ := h
    obtain ⟨k, hk⟩ := List.length_eq_one_iff.1 h1
    rw [hk] at h2
    simp at h2
    exact ⟨k, hk, h2.1, h2.2, h3⟩
  have readyOf : ∀ s, (plainB s = true ∧ s.inReset pg = false ∧ s.powerStopped = false) → ready s := fun s h => ⟨plain h.1, h.2⟩
  refine ⟨⟨readyOf _ (by decide +kernel), by decide +kernel⟩, ?_, ⟨readyOf _ (by decide +kernel), cmdOf _ _ (by decide +kernel), by decide +kernel⟩,
    ?_, ⟨readyOf _ (by decide +kernel), cmdOf _ _ (by decide +kernel), by decide +kernel⟩, ?_,
    ⟨readyOf _ (by decide +kernel), cmdOf _ _ (by decide +kernel), by decide +kernel⟩, ?_, by decide +kernel⟩
  · simp only [List.forall_mem_cons]
    exact ⟨⟨readyOf _ (by decide +kernel), cmdOf _ _ (by decide +kernel), by decide +kernel⟩,
      ⟨readyOf _ (by decide +kernel), cmdOf _ _ (by decide +kernel), by decide +kernel⟩, by simp⟩
  · simp only [List.forall_mem_cons]
    exact ⟨⟨readyOf _ (by decide +kernel), cmdOf _ _ (by decide +kernel), by decide +kernel⟩,
      ⟨readyOf _ (by decide +kernel), cmdOf _ _ (by decide +kernel), by decide +kernel⟩, by simp⟩
  · simp only [List.forall_mem_cons]
    exact ⟨⟨readyOf _ (by decide +kernel), cmdOf _ _ (by decide +kernel), by decide +kernel⟩,
      ⟨readyOf _ (by decide +kernel), cmdOf _ _ (by decide +kernel), by decide +kernel⟩, by simp⟩
  · simp only [List.forall_mem_cons]
    exact ⟨⟨readyOf _ (by decide +kernel), ⟨7, rawOf [(0, 1, 5), (8, 1, 0), (12, 4, 64), (24, 8, 0)], true, none⟩, rfl, by decide +kernel, by decide +kernel⟩,
      ⟨readyOf _ (by decide +kernel), ⟨7, rawOf [(0, 1, 5), (8, 1, 1), (12, 4, 64), (24, 8, 2 ^ 21 - 64)], true, none⟩, rfl, by decide +kernel, by decide +kernel⟩, by simp⟩

/-! ## Clocks, power and temperature -/

/-- Gear commands for the second epoch from the page and from the fabric, at the bounds of GEAR and CAP; decisions that keep the gear,
that go faster with and without the voltages, and that go slower; caps that are met at once and one that is not. -/
theorem witness_GearsCapsAndVoltages :
    let pk := Page.clk
    let pw := Page.pwr
    let s := State.reset
    let cmd := committing s pk 0 [(0x044, 4), (0x048, 5)]
    let flit (g cap : Nat) : List Byte := leBytes 1 g ++ leBytes 1 0 ++ leBytes 1 cap ++ leBytes 5 0 ++ leBytes 8 5
    let pend (gear g : Nat) : State := { withFields s [(pk, 0, CLK_STATUS_GEAR, gear), (pk, 0, CLK_GEAR_PEND_VALID, 1), (pk, 0, CLK_GEAR_PEND_GEAR, g),
        (pw, 0, PWR_CAP_IN_FORCE_CAP_GEAR, 0)]
      with clock := { s.clock with pendE := 1 } }
    let u (s : State) : State := (s.passTicks (decideOffset - s.epochOffset)).takeLimits (s.epochNo + 1)
    let new (s : State) : Nat := (u s).wantGear ((u s).get pk CLK_GEAR_PEND_GEAR)
    let decides (s : State) : Prop := s.canonical = true ∧ s.inReset pk = false ∧ s.clock.paused = false ∧ s.clock.decided < s.epochNo + 1 ∧
      (u s).gearPending = true ∧ (u s).clock.pendE ≤ s.epochNo + 1
    let stopped := { s with clock := { s.clock with paused := true, nextGear := 4, pausedAt := 84 * 130900 } }
    let cap (meas n : Nat) : State := committing (withFields s [(pw, 0, PWR_MEAS_DECIW, meas)]) pw 0 [(0x040, BitVec.ofNat 32 n)]
    let slow := { s with clock := { s.clock with stretched := true } }
    let lost := { s with pins := { s.pins with refclk := false } }
    let high := withFields s [(pw, 0, PWR_AVS_VOLT, 170 + 256 * 150 + 65536 * 150 + 16777216 * 150)]
    cmd.commitsOne .pf pk 0 ∧
    (s.canonical = true ∧ s.inReset pk = false ∧ s.inReset pw = false ∧ s.clock.stretched = false ∧ s.clock.paused = false ∧ s.resets.cold = false ∧
      s.pins.refclk = true) ∧
    (∀ x ∈ [(4, 0), (0, 60), (0, 150)], field (flit x.1 x.2) 0 1 ≤ 4 ∧ (field (flit x.1 x.2) 2 1 = 0 ∨
      (60 ≤ field (flit x.1 x.2) 2 1 ∧ field (flit x.1 x.2) 2 1 ≤ 150))) ∧ 4 < field (flit 5 0) 0 1 ∧
    (decides (pend 4 4) ∧ new (pend 4 4) = (u (pend 4 4)).gear) ∧
    (decides (pend 4 0) ∧ new (pend 4 0) < (u (pend 4 0)).gear) ∧
    (decides (pend 2 4) ∧ (u (pend 2 4)).gear < new (pend 2 4)) ∧
    (stopped.canonical = true ∧ stopped.clock.paused = true ∧ stopped.clock.failQueued = false ∧ stopped.resets.queued = [] ∧
      stopped.clock.nextGear ≤ 4) ∧
    ((cap 1000 115).commitsOne .pf pw 0 ∧ (cap 1000 100).commitsOne .pf pw 0 ∧ (cap 1000 100).lastPower ≤ 10 * 100 ∧
      (cap 1000 99).commitsOne .pf pw 0 ∧ ¬ (cap 1000 99).lastPower ≤ 10 * 99 ∧ ¬ (cap 1000 99).get pw PWR_CAP_CAP ≤ 99) ∧
    (slow.canonical = true ∧ slow.clock.stretched = true) ∧
    (high.canonical = true ∧ high.inReset pw = false ∧ bits (high.get pw PWR_AVS_VOLT) 7 0 = 170) ∧ lost.canonical = true ∧
    lost.pins.refclk = false := by
  intro pk pw s cmd flit pend u new decides stopped cap slow lost high
  exact ⟨commits (by decide +kernel), by decide +kernel, by decide +kernel, by decide +kernel, by decide +kernel, by decide +kernel,
    by decide +kernel, by decide +kernel, ⟨commits (by decide +kernel), commits (by decide +kernel), by decide +kernel, commits (by decide +kernel),
      by decide +kernel⟩, by decide +kernel⟩

/-- Readings at both ends of the range, the hottest at 419 and at 420 quarters of a degree; the sequence from its start to the return
of the supply. -/
theorem witness_TemperatureAndPowerFail :
    let pw := Page.pwr
    let s := State.reset
    let hot (h : Int) : List Int := -160 :: h :: List.replicate 22 100
    let ok (l : List Int) : Prop := ∀ i, i < 24 → -160 ≤ l.getD i 0 ∧ l.getD i 0 ≤ 600 ∧ ([] : List Bool).getD i false = false
    let paused := { s with clock := { s.clock with paused := true } }
    let step (n : Nat) : State := withFields s [(pw, 0, PWR_FAIL_STEP, n)]
    let low (n : Nat) : State := { step n with pins := { s.pins with pwrfailLow := true } }
    let back := withFields (step 5) [(pw, 0, PWR_FAIL_RETURNED, 1)]
    (s.canonical = true ∧ s.inReset Page.therm = false ∧ s.resets.cold = false ∧ s.pins.thermtrip = false ∧ s.get pw PWR_FAIL_STEP = 0 ∧
      s.clock.failQueued = false ∧ s.clock.paused = false) ∧
    (ok (hot 419) ∧ ∀ i, i < 24 → (hot 419).getD i 0 < 420) ∧ (ok (hot 420) ∧ 420 ≤ (hot 420).getD 1 0) ∧ ok (hot 600) ∧
    (paused.canonical = true ∧ paused.get pw PWR_FAIL_STEP = 0 ∧ paused.clock.paused = true) ∧
    (∀ n ∈ [1, 4], (step n).canonical = true ∧ (step n).get pw PWR_FAIL_STEP = n ∧ (step n).clock.perstQueued = false) ∧
    (∀ n ∈ [1, 5], (low n).canonical = true ∧ (low n).pins.pwrfailLow = true ∧ (low n).get pw PWR_FAIL_STEP = n) ∧
    (back.canonical = true ∧ back.get pw PWR_FAIL_STEP = 5 ∧ back.flag pw PWR_FAIL_RETURNED = true ∧ back.pins.pwrfailLow = false) ∧
    s.takesWrite .pf pw PWR_CTRL_PEAK_CLR.off ∧ s.takesWrite .pf Page.therm THERM_CTRL_PEAK_CLR.off := by
  intro pw s hot ok paused step low back
  exact ⟨by decide +kernel, by decide +kernel, by decide +kernel, by decide +kernel, by decide +kernel, by decide +kernel, by decide +kernel,
    by decide +kernel, takes (by decide +kernel), takes (by decide +kernel)⟩

/-! ## Resets, firmware and Lint -/

/-- Each domain free to enter reset, and in it; a trial image that runs; a swap; the end of the power-fail sequence. -/
theorem witness_ResetsAndFirmware :
    let s := State.reset
    let free (s : State) (domain mask : Nat) : Prop := s.resets.cold = false ∧ s.clock.paused = false ∧ s.resetBusy domain mask = false
    let resets (f : Resets → Resets) : State := { s with resets := f s.resets }
    let trial := withFields s [(Page.chip, 0, CHIP_STATUS_MGMT_UP, 1), (Page.mgmt, 0, MGMT_FW_TRIAL, 1)]
    let swap := s.updTier fun t => { t with swapping := true }
    let step (n : Nat) : State := withFields s [(Page.pwr, 0, PWR_FAIL_STEP, n)]
    (s.canonical = true ∧ free s 1 0 ∧ free s 2 15 ∧ free s 3 4095 ∧ free s 4 0 ∧ free s 5 0 ∧ free s 6 0 ∧ s.mangle.colls = [] ∧
      s.resets.reply = none ∧ s.resets.cold = false ∧ s.ecc.boots = 0 ∧ s.inReset Page.tier = false ∧ s.tier.swapping = false ∧
      s.get Page.pwr PWR_FAIL_STEP = 0) ∧
    ((resets fun r => { r with warm := true }).canonical = true ∧ (resets fun r => { r with warm := true }).resets.warm = true) ∧
    ((resets fun r => { r with tier := true }).canonical = true ∧ (resets fun r => { r with mangle := true }).canonical = true ∧
      (resets fun r => { r with cold := true }).canonical = true) ∧
    (trial.canonical = true ∧ trial.onTrial = true) ∧ (swap.canonical = true ∧ swap.tier.swapping = true) ∧
    (∀ n ∈ [1, 4, 5], (step n).canonical = true ∧ (step n).get Page.pwr PWR_FAIL_STEP = n) ∧
    (committing s Page.chip 0 [(0x04C, 2 ^ 31 + 4095)]).commitsOne .pf Page.chip 0 := by
  intro s free resets trial swap step
  exact ⟨by decide +kernel, by decide +kernel, by decide +kernel, by decide +kernel, by decide +kernel, by decide +kernel,
    commits (by decide +kernel)⟩

/-- An event, and a record of one. -/
def event (sev : Nat) : Event := ⟨0x1005, sev, 7, [1]⟩
def recOf (seq sev : Nat) : Rec := ⟨BitVec.ofNat 48 seq, 0x1005, sev, false, false, false, 0xFF, 0, 7, 0, 0, [1], []⟩

/-- An event that repeats the most recent record, that differs from it in severity, that finds no record, and the three in degraded
mode; the mirror in each state; the bounds of what CLEAR and the trigger table take. -/
theorem witness_LintRecordsMirrorsAndClears :
    let pl := Page.lint
    let s := State.reset
    let with' (ev : Event) (slots : List (Nat × Rec)) (fs : List (Nat × Nat × Fld × Nat)) : State :=
      (withFields s fs).updLint fun l => { l with bufs := [(9, [ev])], slots := slots }
    let deg (sev : Nat) : State := with' (event sev) [] [(pl, 0, LINT_MODE_DEGRADED, 1)]
    let some' (sev : Nat) : State := with' (event 3) [(0, recOf 1 sev)] [(pl, 0, LINT_SEQ_LO_SEQ, 1)]
    let full := (deg 4).updLint fun l => { l with ring := (List.range 16).map fun k => (k, { recOf k 5 with event := 6 }) }
    let busy := withFields s [(pl, 0, LINT_MODE_MIRROR_BUSY, 1)]
    let shelf := withFields s [(Page.shelf, 0, PAGE_STATUS_READY, 1)]
    let away := { s with resets := { s.resets with tier := true } }
    let wait := shelf.updLint fun l => { l with shelfOk := false }
    let auth := withFields s [(Page.access, 0, ACCESS_STATE_CLEAR_AUTH, 1)]
    let snap := withFields (committing s Page.lintsnap 0 [(0x044, 2 ^ 31 + 8 * 2 ^ 25 + 0x1005)]) [(Page.lintsnap, 0, LINTSNAP_SEL_ENTRY, 63)]
    (∀ sev ∈ [3, 4], (deg sev).canonical = true ∧ assocGet (deg sev).lint.bufs (9 : BitVec 12).toNat = some [event sev] ∧ (deg sev).degraded = true ∧
      (deg sev).lint.latest = none) ∧
    (∀ sev ∈ [3, 2], (some' sev).canonical = true ∧ assocGet (some' sev).lint.bufs (9 : BitVec 12).toNat = some [event 3] ∧ (some' sev).degraded = false ∧
      (some' sev).lint.latest = some (.slot 0, recOf 1 sev) ∧ (recOf 1 sev).event = (event 3).id ∧ (recOf 1 sev).origin = (event 3).origin ∧
      (recOf 1 sev).sev = sev ∧ (some' sev).flag pl LINT_MODE_SEQ_EXHAUSTED = false ∧ (some' sev).lintSeq + 1 < 2 ^ 48 - 1) ∧
    (some' 2).lintPlace 3 = some (.slot 1) ∧ (full.canonical = true ∧ full.lintPlace 4 = none ∧ full.degraded = true ∧
      (full.lint.latest.map fun x => x.2.event) = some 6) ∧
    (s.canonical = true ∧ s.resets.cold = false ∧ s.flag pl LINT_CTRL_MIRROR_EN = true ∧ s.flag pl LINT_MODE_MIRROR_BUSY = false ∧ s.shelfRo = false ∧
      s.lint.bad.contains 4095 = false ∧ s.flag Page.access ACCESS_STATE_CLEAR_AUTH = false) ∧
    (busy.canonical = true ∧ busy.resets.cold = false ∧ busy.flag pl LINT_CTRL_MIRROR_EN = true ∧ busy.flag pl LINT_MODE_MIRROR_BUSY = true ∧
      busy.lint.clear = none ∧ busy.lint.again = false ∧ busy.lint.image < 64) ∧
    (away.canonical = true ∧ away.flag pl LINT_CTRL_MIRROR_EN = true ∧ away.inReset Page.tier = true) ∧
    (shelf.canonical = true ∧ shelf.inReset Page.tier = false ∧ shelf.flag Page.shelf PAGE_STATUS_READY = true ∧ shelf.shelfRo = false) ∧
    (wait.canonical = true ∧ wait.lint.shelfOk = false ∧ wait.inReset Page.shelf = false ∧ wait.flag Page.shelf PAGE_STATUS_READY = true) ∧
    (s.takesWrite .pf pl LINT_RD_SEL_SLOT.off ∧ LINT_RD_SEL_RING.of 4095 = 0) ∧ s.takesWrite .pf pl LINT_CLEAR_REQ.off ∧
    (auth.canonical = true ∧ auth.takesWrite .pf pl LINT_CLEAR_REQ.off ∧ auth.flag Page.access ACCESS_STATE_CLEAR_AUTH = true ∧
      auth.flag pl LINT_MODE_MIRROR_BUSY = false ∧ auth.flag pl LINT_MODE_SEQ_EXHAUSTED = false ∧ auth.lintSeq + 1 < 2 ^ 48 - 1) ∧
    s.takesWrite .pf pl LINT_LASTGASP_ACK.off ∧ snap.commitsOne .pf Page.lintsnap 0 := by
  intro pl s with' deg some' full busy shelf away wait auth snap
  exact ⟨by decide +kernel, by decide +kernel, by decide +kernel, by decide +kernel, by decide +kernel, by decide +kernel, by decide +kernel,
    by decide +kernel, by decide +kernel, ⟨takes (by decide +kernel), by decide +kernel⟩, takes (by decide +kernel),
    ⟨by decide +kernel, takes (by decide +kernel), by decide +kernel⟩, takes (by decide +kernel), commits (by decide +kernel)⟩

/-! ## Management, access, calibration, lamps and the rack -/

/-- The management core up; requests at the bounds of what is refused; a chip that an owner opened, with core 0 running. -/
theorem witness_ManagementOperationsAnswer :
    let pm := Page.mgmt
    let s := withFields State.reset [(Page.chip, 0, CHIP_STATUS_MGMT_UP, 1), (pm, 0, MGMT_FW_IMAGE, 1)]
    let gone := { State.reset with resets := { State.reset.resets with mgmt := true } }
    let own (f : Core → Core) : State := withFields (runWith f) [(Page.chip, 0, CHIP_STATUS_MGMT_UP, 1), (Page.access, 0, ACCESS_STATE_LEVEL, 1)]
    let tier := { s with resets := { s.resets with tier := true } }
    let erasing := s.updMgmt fun m => { m with erasing := some 3 }
    let dead := withFields s [(Page.hostif, 0, HOSTIF_MGMT_SMBUS_DEAD, 1)]
    let one := withFields s [(pm, 0, MGMT_STATUS_SMBUS, 1)]
    let held := { s with pins := { s.pins with quiesceLow := true } }
    (gone.canonical = true ∧ gone.resets.cold = false ∧ gone.resets.mgmt = true) ∧
    (s.canonical = true ∧ s.resets.cold = false ∧ s.resets.warm = false ∧ s.resets.mgmt = false ∧ s.flag Page.chip CHIP_STATUS_MGMT_UP = true ∧
      s.clock.paused = false ∧ s.mgmt.erasing = none ∧ s.ownerOpen = false ∧ s.resetBusy 4 0 = false) ∧
    (wordsBad Page.chip 0 61 = true ∧ wordsBad Page.chip 0xFFC 1 = false ∧ wordsBad Page.chip 0xF10 60 = false ∧ reaches .mgmt Page.chip = true ∧
      s.inReset Page.chip = false) ∧
    (resetBad 2 16 = true ∧ resetBad 2 15 = false ∧ tier.canonical = true ∧ tier.resetBusy 4 0 = true ∧ resetBad 4 0 = false) ∧
    (erasing.canonical = true ∧ erasing.mgmt.erasing = some 3) ∧
    (s.imageLocked 1 = true ∧ s.imageLocked 0 = false ∧ (0 : Word).toNat % 4 = 0 ∧ 240 + (norSize 0 - 240) ≤ norSize 0) ∧
    (spaceSize (6 : Byte).toNat = some 16384 ∧ 16384 - 240 + 4 * 60 ≤ 16384) ∧
    ((own id).canonical = true ∧ (own id).ownerOpen = true ∧ (own id).inReset (Page.core 0) = false ∧ ((own id).core 0).st = .running) ∧
    ((own fun k => { k with st := .debugHalt }).canonical = true ∧
      (own fun k => { k with st := .debugHalt }).uesIn (memOfSpace 0 6) (16384 - 240) 240 = []) ∧
    (s.flag Page.hostif HOSTIF_MGMT_SMBUS_DEAD = false ∧ dead.canonical = true ∧ dead.flag Page.hostif HOSTIF_MGMT_SMBUS_DEAD = true ∧
      one.canonical = true ∧ one.get pm MGMT_STATUS_SMBUS = 1) ∧
    (s.flag pm MGMT_QSC_QSC_MASK = false ∧ (∀ c : CoreId, (s.core c).heldQuiet = true) ∧ s.descRunning = false) ∧
    (held.canonical = true ∧ held.pins.quiesceLow = true ∧ held.mgmt.stuck = false) := by
  intro pm s gone own tier erasing dead one held
  exact ⟨by decide +kernel, by decide +kernel, by decide +kernel, by decide +kernel, by decide +kernel, by decide +kernel, by decide +kernel,
    by decide +kernel, by decide +kernel, by decide +kernel, by decide +kernel, by decide +kernel⟩

theorem bytes_eq {l m : List Byte} (n : l.length = m.length) (h : ∀ i, i < m.length → l.getD i 0 = m.getD i 0) : l = m := by
  refine List.ext_getElem n fun i h1 h2 => ?_
  simpa [List.getD_eq_getElem?_getD, h1, h2] using h i h2

/-- The first 16 bytes of SHA-256 of 32 bytes of zeros (FIPS 180-4). -/
theorem test_sha256_zeros : (sha256 (wordBytes (Vector.replicate 8 (0 : Word)).toList)).take 16 =
    [0x66, 0x68, 0x7A, 0xAD, 0xF8, 0x62, 0xBD, 0x77, 0x6C, 0x8F, 0xC1, 0x8B, 0x8E, 0x9F, 0x8E, 0x20] :=
  bytes_eq (by decide +kernel) (by decide +kernel)

/-- A password that is right (the digest is SHA-256 of 32 bytes of zeros), wrong, tried too soon and locked out; a live nonce; each action of calibration and of a lamp. -/
theorem witness_AccessCalibrationAndLamps :
    let pa := Page.access
    let pc := Page.cal
    let pl := Page.lamp
    let s := State.reset
    let set := withFields s [(pa, 0, ACCESS_STATE_PW_SET, 1), (pa, 0, ACCESS_OWNER_PW_DIGEST.nth 0, 0xAD7A6866),
      (pa, 0, ACCESS_OWNER_PW_DIGEST.nth 1, 0x77BD62F8), (pa, 0, ACCESS_OWNER_PW_DIGEST.nth 2, 0x8BC18F6C), (pa, 0, ACCESS_OWNER_PW_DIGEST.nth 3, 0x208E9F8E)]
    let soon := s.updMgmt fun m => { m with pwFailAt := some 0 }
    let locked := withFields s [(pa, 0, ACCESS_STATE_PW_LOCKOUT, 1), (pa, 0, ACCESS_STATE_PW_FAILS, 15)]
    let live := s.updMgmt fun m => { m with nonce := true }
    let cal := withFields (committing s pc 0 [(0x048, 9)]) [(pc, 0, CAL_SEL_SECTION, 1), (pa, 0, ACCESS_STATE_LEVEL, 2)]
    let nor := withFields s [(pc, 0, CAL_STATUS_NOR_BUSY, 1)]
    let derive := withFields s [(pc, 0, CAL_DERIVE_PORTS, 4095), (pc, 0, CAL_DERIVE_START, 1)]
    let used := s.updPort 11 fun k => { k with st := .train }
    let lamp (w : Nat) : State := committing s pl 0 [(0x040, BitVec.ofNat 32 w)]
    let lit := withFields s [(pl, 0, LAMP_CFG_DUTY.nth 1, 30)]
    (∀ o ∈ [ACCESS_CTRL_OPEN_PW.off, ACCESS_CTRL_CHAL.off, ACCESS_CTRL_RESP.off, ACCESS_CTRL_CLOSE.off], takesB s .pf pa o = true) ∧
    (set.canonical = true ∧ set.flag pa ACCESS_STATE_PW_LOCKOUT = false ∧ set.pwTooSoon = false ∧
      set.flag pa ACCESS_STATE_PW_SET = true ∧ (sha256 (wordBytes set.mgmt.tries.toList)).take 16 = set.ownerDigest) ∧
    (s.canonical = true ∧ s.pwTooSoon = false ∧ s.flag pa ACCESS_STATE_PW_SET = false ∧ s.mgmt.nonce = false) ∧
    (soon.canonical = true ∧ soon.flag pa ACCESS_STATE_PW_LOCKOUT = false ∧ soon.pwTooSoon = true) ∧
    (locked.canonical = true ∧ locked.flag pa ACCESS_STATE_PW_LOCKOUT = true ∧ 15 ≤ locked.get pa ACCESS_STATE_PW_FAILS) ∧
    (live.canonical = true ∧ live.mgmt.nonce = true) ∧ cal.commitsOne .pf pc 0 ∧
    (nor.canonical = true ∧ nor.flag pc CAL_STATUS_NOR_BUSY = true) ∧
    (s.takesWrite .pf pc CAL_DERIVE_START.off ∧ CAL_DERIVE_START.of (2 ^ 31 + 4095) = 1 ∧ (used.port 11).st ≠ .down ∧ (used.port 11).st ≠ .failed ∧
      used.canonical = true ∧ (∀ p : PortId, (s.port p).st = .down)) ∧
    (derive.canonical = true ∧ derive.deriving? = true ∧ derive.flag pc CAL_STATUS_NOR_BUSY = false) ∧
    (∀ w ∈ [4, 1000, 1, 3, 1001, 3072], (lamp w).canonical = true ∧ takesB (lamp w) .pf pl COMMIT_APPLY.off = true ∧
      (lamp w).flag pl PAGE_STATUS_READY = true ∧ (lamp w).isTouched pl 0 = true ∧ (lamp w).stagedWord pl 0x040 = BitVec.ofNat 32 w) ∧
    (lit.canonical = true ∧ lit.inReset pl = false ∧ lit.lampState 1 ≠ 0 ∧ lit.lampState 1 ≠ 4) := by
  intro pa pc pl s set soon locked live cal nor derive used lamp lit
  have own : set.ownerDigest = [0x66, 0x68, 0x7A, 0xAD, 0xF8, 0x62, 0xBD, 0x77, 0x6C, 0x8F, 0xC1, 0x8B, 0x8E, 0x9F, 0x8E, 0x20] := by
    decide +kernel
  have tries : set.mgmt.tries = Vector.replicate 8 0 := by decide +kernel
  exact ⟨by decide +kernel, ⟨by decide +kernel, by decide +kernel, by decide +kernel, by decide +kernel, by rw [own, tries]; exact test_sha256_zeros⟩, by decide +kernel, by decide +kernel, by decide +kernel, by decide +kernel,
    commits (by decide +kernel), by decide +kernel, ⟨takes (by decide +kernel), by decide +kernel⟩, by decide +kernel, by decide +kernel,
    by decide +kernel⟩

/-- A rack with 64 chips at 100 W under an active governor, changed by `f`. -/
def racked (f : Rack → Rack) : State :=
  State.reset.updRack fun r => f { r with
    issued := List.replicate 64 100, counted := List.replicate 64 100, fr32h := false, mgrA := ⟨true, 3, false, false⟩, read := true }

/-- A plan that lowers one cap and raises another, one that only raises, one of a chip that is not there and an empty one; an increase
that waits; a chip that counts above its cap; each step of an overload; no governor. -/
theorem witness_RackCapsAndLease_governor :
    let g := racked id
    let wait := racked fun r => { r with waiting := [(63, 110)] }
    let unread := racked fun r => { r with read := false }
    let late := racked fun r => { r with counted := List.replicate 64 101 }
    let heavy (n : Nat) : State := racked fun r => { r with overload := n }
    let heard := (g.reports []).foldl (fun x y => x.hear y.1 y.2) g.rack
    let down := [(0, 60)].foldl (fun x y => Rack.issue x y.1 y.2) heard
    State.reset.governor = false ∧
    (g.rack.issued.length = 64 ∧ g.rack.issued.sum ≤ chipPool ∧ g.governor = true ∧ g.rack.waiting = [] ∧ g.rack.overload = 0 ∧
      g.rack.counted.getD 63 0 ≤ g.rack.issued.getD 63 0) ∧
    (heard.planOk [(0, 60), (63, 150)] = true ∧ heard.planOk [(63, 150)] = true ∧ heard.planOk [(64, 60)] = false ∧
      heard.planOk [] = true ∧ g.rack.read = true ∧ heard.settled = true ∧ down.settled = false) ∧
    (wait.rack.issued.length = 64 ∧ wait.rack.issued.sum ≤ chipPool ∧ wait.governor = true ∧ wait.rack.waiting ≠ []) ∧
    (unread.governor = true ∧ unread.rack.waiting = [] ∧ unread.rack.read = false) ∧
    (late.rack.issued.length = 64 ∧ late.governor = true ∧ late.rack.issued.getD 63 0 < late.rack.counted.getD 63 0) ∧
    ∀ n ∈ [1, 2], (heavy n).governor = true ∧ (heavy n).rack.overload = n ∧ (heavy n).rack.issued.length = 64 := by decide +kernel

/-- The tray controller in either mode and in an FR-32H rack; its start with a chip that it does not reach, and with one whose number
is already that of its place; the lease free, held, and held by a manager that missed its renewal. -/
theorem witness_RackCapsAndLease_seats :
    let tc (m : Option TcMode) (wide : Bool) : State := racked fun r => { r with tc := { r.tc with mode := m }, fr32h := wide }
    let g := racked id
    let seat : Seat := ⟨false, 1, 2⟩
    let up := withFields State.reset [(Page.chip, 0, CHIP_STATUS_MGMT_UP, 1), (Page.chip, 0, CHIP_PCN_VALID, 1),
      (Page.chip, 0, CHIP_PCN_PCN, pcnOf false 1 2 0)]
    let missed := racked fun r => { r with mgrA := ⟨true, 3, true, false⟩ }
    let other := racked fun r => { r with mgrA := ⟨false, 3, false, false⟩, mgrB := ⟨true, 4, true, false⟩ }
    ((tc (some .rack) false).rack.tc.mode = some .rack ∧ (tc (some .rack) false).rack.fr32h = false ∧
      (tc (some .standalone) false).rack.tc.mode ≠ some .rack ∧ (tc (some .rack) true).rack.fr32h = true) ∧
    (g.tcReaches = false ∧ up.tcReaches = true ∧ up.flag Page.clk CLK_REF_SRC = false ∧ up.flag Page.chip CHIP_PCN_VALID = true ∧
      up.get Page.chip CHIP_PCN_PCN = (up.updRack fun r =>
        { r with fr32h := seat.fr32h, index := seat.rack.toNat, tray := seat.tray.toNat }).placePcn) ∧
    ((g.rack.mgr .a).active = true ∧ (g.rack.mgr .b).active = false ∧ (g.rack.mgr .b).holder = false ∧ (g.rack.mgr .a).missed = false) ∧
    (State.reset.rack.mgrA.holder = false ∧ (State.reset.rack.peer .a).holder = false) ∧
    ((missed.rack.mgr .a).holder = true ∧ (missed.rack.mgr .a).missed = true) ∧
    ((other.rack.mgr .a).holder = false ∧ (other.rack.peer .a).holder = true ∧ (other.rack.peer .a).missed = true) ∧
    ((g.rack.peer .b).holder = true ∧ (g.rack.peer .b).missed = false) ∧
    ((g.rack.mgr .a).term.ult 4 = true ∧ (g.rack.mgr .a).term.ult 3 = false) := by decide +kernel

/-! ## The invariant -/

/-- Steps from a canonical state: with nothing waiting, and with a command at the front. -/
theorem witness_StepKeepsCanonicalForm :
    State.reset.canonical = true ∧ (∃ t, step State.reset = .next t) ∧
      ∃ t, step { State.reset with pending := [.nop fr0 .s0] } = .next t :=
  ⟨by decide +kernel, ⟨_, rfl⟩, ⟨_, rfl⟩⟩


end Sys2Proof.Tests
end

section
/-!
The rack caps and the lease (01_machine.md R38-R55). A list of caps that the governor issues is followed chip by chip: after it a
chip's cap is the one the list gives it, else its old one. From this come the pool (a plan is only issued when its sum fits, and its
decreases come first), the steps against an overload, and what each command leaves unchanged.
-/
namespace Sys2Proof.Machine

open Reg

/-! Lists of caps by chip. -/

theorem getD_set_of_lt (l : List Nat) {i : Nat} (h : i < l.length) (v j : Nat) :
    (l.set i v).getD j 0 = if i = j then v else l.getD j 0 := by
  rw [List.getD_eq_getElem?_getD, List.getD_eq_getElem?_getD, List.getElem?_set]
  by_cases e : i = j
  · subst e
    simp [h]
  · simp [e]

/-- A cap set for any chip, be it on the list or not. -/
theorem getD_set_le (l : List Nat) (i v j : Nat) : (l.set i v).getD j 0 ≤ if i = j then v else l.getD j 0 := by
  by_cases h : i < l.length
  · exact Nat.le_of_eq (getD_set_of_lt l h v j)
  · rw [List.set_eq_of_length_le (by omega)]
    split
    · rw [List.getD_eq_getElem?_getD, List.getElem?_eq_none (by omega)]
      exact v.zero_le
    · exact Nat.le_refl _

theorem sum_eq_sum_getD (l : List Nat) : l.sum = ((List.range l.length).map fun c => l.getD c 0).sum := by
  congr 1
  refine List.ext_getElem (by simp) fun i h _ => ?_
  simp [h]

theorem sum_map_le_sum_map {l : List Nat} {f g : Nat → Nat} (h : ∀ c ∈ l, f c ≤ g c) : (l.map f).sum ≤ (l.map g).sum := by
  induction l with
  | nil => exact Nat.le_refl _
  | cons x l ih =>
    simp only [List.map_cons, List.sum_cons]
    exact Nat.add_le_add (h x (.head _)) (ih fun c hc => h c (.tail _ hc))

/-- A list of caps for 64 chips sums to at most what bounds it chip by chip. -/
theorem sum_le_sum_of_getD_le {l : List Nat} (h : l.length = 64) {g : Nat → Nat} (hle : ∀ c, c < 64 → l.getD c 0 ≤ g c) :
    l.sum ≤ ((List.range 64).map g).sum := by
  rw [sum_eq_sum_getD, h]
  exact sum_map_le_sum_map fun c hc => hle c (List.mem_range.1 hc)

/-- What each step of a fold keeps, the fold keeps. -/
theorem foldl_keeps {α β γ : Type} {f : β → α → β} (g : β → γ) (h : ∀ b x, g (f b x) = g b) (l : List α) :
    ∀ b, g (l.foldl f b) = g b := by
  induction l with
  | nil => exact fun _ => rfl
  | cons x l ih => exact fun b => (ih (f b x)).trans (h b x)

/-! A plan names a chip once. -/

theorem nodup_keys_cons {x : Nat × Nat} {l : List (Nat × Nat)} :
    ((x :: l).map (·.1)).Nodup ↔ (∀ y ∈ l, y.1 ≠ x.1) ∧ (l.map (·.1)).Nodup := by
  simp only [List.map_cons, List.nodup_cons, List.mem_map, not_exists, not_and, ne_eq]

theorem nodup_keys_filter (p : Nat × Nat → Bool) {l : List (Nat × Nat)} (hd : (l.map (·.1)).Nodup) :
    ((l.filter p).map (·.1)).Nodup := hd.sublist (List.filter_sublist.map _)

theorem assocGet_eq_none {l : List (Nat × Nat)} {c : Nat} (h : ∀ x ∈ l, x.1 ≠ c) : assocGet l c = none := by
  simpa [assocGet] using fun a b hx => h (a, b) hx

theorem assocGet_of_mem {l : List (Nat × Nat)} (hd : (l.map (·.1)).Nodup) {x : Nat × Nat} (hx : x ∈ l) :
    assocGet l x.1 = some x.2 := by
  induction l with
  | nil => cases hx
  | cons y r ih =>
    obtain ⟨hy, hr⟩ := nodup_keys_cons.1 hd
    rw [assocGet_cons]
    rcases List.mem_cons.1 hx with rfl | hx
    · simp
    · rw [if_neg (hy x hx).symm, ih hr hx]

theorem assocGet_filter (p : Nat × Nat → Bool) {l : List (Nat × Nat)} (hd : (l.map (·.1)).Nodup) (c : Nat) :
    assocGet (l.filter p) c = (assocGet l c).filter fun v => p (c, v) := by
  induction l with
  | nil => rfl
  | cons y r ih =>
    obtain ⟨hy, hr⟩ := nodup_keys_cons.1 hd
    rw [List.filter_cons, assocGet_cons]
    by_cases e : y.1 = c
    · subst e
      have hno : assocGet (r.filter p) y.1 = none := assocGet_eq_none fun x hx => hy x (List.mem_filter.1 hx).1
      by_cases hp : p y = true <;> simp [hp, assocGet_cons, hno, Option.filter_some]
    · rw [if_neg e, ← ih hr]
      split
      · rw [assocGet_cons, if_neg e]
      · rfl

/-! The governor issues a list of caps. -/

theorem Rack.issue_issued_length (r : Rack) (c v : Nat) : (r.issue c v).issued.length = r.issued.length := by
  simp [Rack.issue]

theorem Rack.issue_issued_getD (r : Rack) {c : Nat} (h : c < r.issued.length) (v j : Nat) :
    (r.issue c v).issued.getD j 0 = if c = j then v else r.issued.getD j 0 := getD_set_of_lt _ h v j

theorem Rack.issue_counted_le (r : Rack) (c v j : Nat) :
    (r.issue c v).counted.getD j 0 ≤ if c = j then max v (r.counted.getD j 0) else r.counted.getD j 0 := by
  refine Nat.le_trans (getD_set_le _ _ _ _) ?_
  split
  · next e => exact Nat.le_of_eq (by rw [e])
  · exact Nat.le_refl _

/-- The governor issues the caps of a list one by one. -/
def Rack.issueAll (r : Rack) (l : List (Nat × Nat)) : Rack := l.foldl (fun x y => x.issue y.1 y.2) r

theorem Rack.issueAll_cons (r : Rack) (x : Nat × Nat) (l : List (Nat × Nat)) :
    r.issueAll (x :: l) = (r.issue x.1 x.2).issueAll l := rfl

/-- What each cap issued keeps, a list of them keeps. -/
theorem Rack.issueAll_keeps {γ : Type} (g : Rack → γ) (h : ∀ r c v, g (Rack.issue r c v) = g r) (r : Rack)
    (l : List (Nat × Nat)) : g (r.issueAll l) = g r :=
  foldl_keeps (f := fun (x : Rack) (y : Nat × Nat) => x.issue y.1 y.2) g (fun r x => h r x.1 x.2) l r

@[simp] theorem Rack.issueAll_issued_length (r : Rack) (l : List (Nat × Nat)) :
    (r.issueAll l).issued.length = r.issued.length :=
  Rack.issueAll_keeps (fun r => r.issued.length) Rack.issue_issued_length r l
@[simp] theorem Rack.issueAll_late (r : Rack) (l : List (Nat × Nat)) : (r.issueAll l).late = r.late :=
  Rack.issueAll_keeps Rack.late (fun _ _ _ => rfl) r l

/-- The caps issued and counted follow from those before them. -/
theorem Rack.issueAll_congr (l : List (Nat × Nat)) : ∀ {r x : Rack}, x.issued = r.issued → x.counted = r.counted →
    (x.issueAll l).issued = (r.issueAll l).issued ∧ (x.issueAll l).counted = (r.issueAll l).counted := by
  induction l with
  | nil => exact fun hi hc => ⟨hi, hc⟩
  | cons y l ih => exact fun hi hc => ih (by simp only [Rack.issue, hi]) (by simp only [Rack.issue, hc])

/-- After caps are issued, each chip has the cap that the list gives it, else its old one. -/
theorem Rack.issueAll_issued_getD {l : List (Nat × Nat)} (hd : (l.map (·.1)).Nodup) (c : Nat) :
    ∀ r : Rack, (∀ x ∈ l, x.1 < r.issued.length) →
      (r.issueAll l).issued.getD c 0 = (assocGet l c).getD (r.issued.getD c 0) := by
  induction l with
  | nil => exact fun _ _ => rfl
  | cons x l ih =>
    intro r hlt
    obtain ⟨hx, hl⟩ := nodup_keys_cons.1 hd
    have hrest := ih hl (r.issue x.1 x.2) fun y hy => by
      simpa only [Rack.issue_issued_length] using hlt y (.tail _ hy)
    rw [Rack.issueAll_cons, hrest, assocGet_cons, Rack.issue_issued_getD r (hlt x (.head _))]
    by_cases e : x.1 = c
    · simp [e, assocGet_eq_none (e ▸ hx)]
    · simp [e]

/-- A chip counts at most at its old count or at the cap that it is issued. -/
theorem Rack.issueAll_counted_le {l : List (Nat × Nat)} (hd : (l.map (·.1)).Nodup) (c : Nat) :
    ∀ r : Rack, (r.issueAll l).counted.getD c 0 ≤ max (r.counted.getD c 0) ((assocGet l c).getD 0) := by
  induction l with
  | nil => exact fun r => Nat.le_max_left _ _
  | cons x l ih =>
    intro r
    obtain ⟨hx, hl⟩ := nodup_keys_cons.1 hd
    refine Nat.le_trans (ih hl (r.issue x.1 x.2)) ?_
    have hfirst := r.issue_counted_le x.1 x.2 c
    rw [assocGet_cons]
    by_cases e : x.1 = c
    · rw [if_pos e] at hfirst ⊢
      simp only [assocGet_eq_none (e ▸ hx), Option.getD_none, Option.getD_some]
      omega
    · rw [if_neg e] at hfirst ⊢
      omega

theorem Rack.planOk_iff (r : Rack) (caps : List (Nat × Nat)) : r.planOk caps = true ↔
    (caps.map (·.1)).Nodup ∧ (∀ x ∈ caps, x.1 < 64 ∧ 60 ≤ x.2 ∧ x.2 ≤ 150) ∧ r.planned caps ≤ chipPool := by
  simp only [Rack.planOk, Bool.and_eq_true, decide_eq_true_eq, List.all_eq_true, and_assoc]

/-- A plan, once issued, sums to no more than what it was planned at (R39). -/
theorem Rack.issueAll_sum_le_planned {r : Rack} (h : r.issued.length = 64) {l : List (Nat × Nat)} (hd : (l.map (·.1)).Nodup)
    (hlt : ∀ x ∈ l, x.1 < 64) : (r.issueAll l).issued.sum ≤ r.planned l := by
  refine sum_le_sum_of_getD_le (by simp [h]) fun c _ => ?_
  rw [Rack.issueAll_issued_getD hd c r (by simpa only [h] using hlt)]
  simp only
  split
  · exact Nat.le_max_left _ _
  · exact Nat.le_refl _

/-! The parts of a plan. -/

/-- The decreases and the increases of a plan. -/
def Rack.decreases (r : Rack) (caps : List (Nat × Nat)) : List (Nat × Nat) :=
  caps.filter fun x => decide (x.2 < r.issued.getD x.1 0)
def Rack.increases (r : Rack) (caps : List (Nat × Nat)) : List (Nat × Nat) :=
  caps.filter fun x => decide (r.issued.getD x.1 0 < x.2)

section
variable {r : Rack} {caps : List (Nat × Nat)} (hd : (caps.map (·.1)).Nodup)

include hd in
theorem Rack.decreases_nodup (r : Rack) : ((r.decreases caps).map (·.1)).Nodup := nodup_keys_filter _ hd

include hd in
theorem Rack.increases_nodup (r : Rack) : ((r.increases caps).map (·.1)).Nodup := nodup_keys_filter _ hd

include hd in
theorem Rack.assocGet_decreases (c : Nat) : assocGet (r.decreases caps) c =
    (assocGet caps c).filter fun v => decide (v < r.issued.getD c 0) := assocGet_filter _ hd c

include hd in
theorem Rack.assocGet_increases (c : Nat) : assocGet (r.increases caps) c =
    (assocGet caps c).filter fun v => decide (r.issued.getD c 0 < v) := assocGet_filter _ hd c

include hd in
/-- The increases of a plan laid over its decreases are the plan. -/
theorem Rack.increases_over_decreases (c : Nat) :
    (assocGet (r.increases caps) c).getD ((assocGet (r.decreases caps) c).getD (r.issued.getD c 0)) =
      (assocGet caps c).getD (r.issued.getD c 0) := by
  rw [Rack.assocGet_increases hd, Rack.assocGet_decreases hd]
  generalize r.issued.getD c 0 = old
  cases assocGet caps c with
  | none => rfl
  | some v =>
    rcases Nat.lt_trichotomy v old with g | g | g
    · simp [Option.filter_some, g, Nat.lt_asymm g]
    · simp [Option.filter_some, g]
    · simp [Option.filter_some, g]

variable (h : r.issued.length = 64) (hlt : ∀ x ∈ caps, x.1 < 64)
include hd h hlt

/-- The caps after the decreases of a plan. -/
theorem Rack.issueAll_decreases_getD (c : Nat) :
    (r.issueAll (r.decreases caps)).issued.getD c 0 = (assocGet (r.decreases caps) c).getD (r.issued.getD c 0) :=
  Rack.issueAll_issued_getD (r.decreases_nodup hd) c r fun x hx => h ▸ hlt x (List.mem_filter.1 hx).1

/-- The decreases of a plan raise no cap. -/
theorem Rack.issueAll_decreases_sum_le : (r.issueAll (r.decreases caps)).issued.sum ≤ r.issued.sum := by
  rw [sum_eq_sum_getD r.issued, h]
  refine sum_le_sum_of_getD_le (by simp [h]) fun c _ => ?_
  rw [Rack.issueAll_decreases_getD hd h hlt, Rack.assocGet_decreases hd]
  generalize r.issued.getD c 0 = old
  cases assocGet caps c with
  | none => exact Nat.le_refl _
  | some v => by_cases g : v < old <;> simp [Option.filter_some, g, Nat.le_of_lt]

/-- A late chip counts no higher under the increases of a plan, once its decreases are issued, than under the plan (R41). -/
theorem Rack.planned_increases_le : (r.issueAll (r.decreases caps)).planned (r.increases caps) ≤ r.planned caps := by
  refine sum_map_le_sum_map fun c _ => ?_
  have hcount := Rack.issueAll_counted_le (r.decreases_nodup hd) c r
  have hdown : (assocGet (r.decreases caps) c).getD 0 ≤ (assocGet caps c).getD (r.issued.getD c 0) := by
    rw [Rack.assocGet_decreases hd]
    generalize r.issued.getD c 0 = old
    cases assocGet caps c with
    | none => exact Nat.zero_le _
    | some v => by_cases g : v < old <;> simp [Option.filter_some, g]
  simp only [Rack.issueAll_late, Rack.issueAll_decreases_getD hd h hlt, Rack.increases_over_decreases hd]
  split
  · omega
  · exact Nat.le_refl _

end

/-! Reports of the chips. -/

/-- The governor hears the reports of a list one by one. -/
def Rack.hearAll (r : Rack) (l : List (Nat × Nat)) : Rack := l.foldl (fun x y => x.hear y.1 y.2) r

/-- What a report leaves unchanged. -/
theorem Rack.hear_frame (r : Rack) (c v : Nat) :
    (r.hear c v).issued = r.issued ∧ (r.hear c v).waiting = r.waiting ∧ (r.hear c v).read = r.read := by
  unfold Rack.hear
  split <;> exact ⟨rfl, rfl, rfl⟩

/-- What each report keeps, a list of them keeps. -/
theorem Rack.hearAll_keeps {γ : Type} (g : Rack → γ) (h : ∀ r c v, g (Rack.hear r c v) = g r) (r : Rack)
    (l : List (Nat × Nat)) : g (r.hearAll l) = g r :=
  foldl_keeps (f := fun (x : Rack) (y : Nat × Nat) => x.hear y.1 y.2) g (fun r x => h r x.1 x.2) l r

@[simp] theorem Rack.hearAll_issued (r : Rack) (l : List (Nat × Nat)) : (r.hearAll l).issued = r.issued :=
  Rack.hearAll_keeps Rack.issued (fun r c v => (r.hear_frame c v).1) r l
@[simp] theorem Rack.hearAll_waiting (r : Rack) (l : List (Nat × Nat)) : (r.hearAll l).waiting = r.waiting :=
  Rack.hearAll_keeps Rack.waiting (fun r c v => (r.hear_frame c v).2.1) r l
@[simp] theorem Rack.hearAll_read (r : Rack) (l : List (Nat × Nat)) : (r.hearAll l).read = r.read :=
  Rack.hearAll_keeps Rack.read (fun r c v => (r.hear_frame c v).2.2) r l

/-! Caps issued by the governor of a state. -/

/-- A rack that differs from `r` at most in the caps issued, the caps counted and the caps that the TC recorded. -/
def SameButCaps (r x : Rack) : Prop :=
  ∃ issued counted caps, x = { r with issued := issued, counted := counted, tc := { r.tc with caps := caps } }

theorem SameButCaps.refl (r : Rack) : SameButCaps r r := ⟨r.issued, r.counted, r.tc.caps, rfl⟩

theorem SameButCaps.trans {r x y : Rack} (h : SameButCaps r x) (g : SameButCaps x y) : SameButCaps r y := by
  obtain ⟨_, _, _, rfl⟩ := h
  obtain ⟨i, c, t, rfl⟩ := g
  exact ⟨i, c, t, rfl⟩

section
variable {r x : Rack} (h : SameButCaps r x)
include h

theorem SameButCaps.waiting : x.waiting = r.waiting := by obtain ⟨_, _, _, rfl⟩ := h; rfl
theorem SameButCaps.late : x.late = r.late := by obtain ⟨_, _, _, rfl⟩ := h; rfl
theorem SameButCaps.read : x.read = r.read := by obtain ⟨_, _, _, rfl⟩ := h; rfl
theorem SameButCaps.overload : x.overload = r.overload := by obtain ⟨_, _, _, rfl⟩ := h; rfl
theorem SameButCaps.log : x.log = r.log := by obtain ⟨_, _, _, rfl⟩ := h; rfl

end

theorem State.issueCap_spec (s : State) (c v : Nat) : SameButCaps s.rack (s.issueCap c v).rack ∧
    (s.issueCap c v).rack.issued = (s.rack.issue c v).issued ∧ (s.issueCap c v).rack.counted = (s.rack.issue c v).counted := by
  obtain ⟨caps, h⟩ := s.issueCap_rack c v
  rw [h]
  exact ⟨⟨_, _, caps, rfl⟩, rfl, rfl⟩

/-- The governor issues the caps of a list one by one. -/
def State.issueCaps (s : State) (l : List (Nat × Nat)) : State := eachOf l (fun x s => s.issueCap x.1 x.2) s

theorem State.issueCaps_spec (l : List (Nat × Nat)) : ∀ s : State, SameButCaps s.rack (s.issueCaps l).rack ∧
    (s.issueCaps l).rack.issued = (s.rack.issueAll l).issued ∧ (s.issueCaps l).rack.counted = (s.rack.issueAll l).counted := by
  induction l with
  | nil => exact fun s => ⟨SameButCaps.refl _, rfl, rfl⟩
  | cons x l ih =>
    intro s
    obtain ⟨hf, hi, hc⟩ := s.issueCap_spec x.1 x.2
    obtain ⟨gf, gi, gc⟩ := ih (s.issueCap x.1 x.2)
    obtain ⟨ei, ec⟩ := Rack.issueAll_congr l hi hc
    exact ⟨hf.trans gf, gi.trans ei, gc.trans ec⟩

/-! The increases that wait. -/

/-- Whether the increases that wait may be issued (R39, R40, R44). -/
def Rack.mayIssue (r : Rack) : Prop := r.read = true ∧ r.settled = true ∧ r.planOk r.waiting = true

theorem State.issueWaiting_of_not {s : State} (h : ¬ s.rack.mayIssue) : s.issueWaiting = s := if_neg h

theorem State.issueWaiting_of_mayIssue {s : State} (h : s.rack.mayIssue) :
    s.issueWaiting = (s.updRack fun r => { r with waiting := [] }).issueCaps s.rack.waiting := if_pos h

theorem State.issueWaiting_of_nil {s : State} (h : s.rack.waiting = []) : s.issueWaiting = s := by
  by_cases g : s.rack.mayIssue
  · have same : s.updRack (fun r => { r with waiting := s.rack.waiting }) = s := rfl
    rw [h] at same
    rw [State.issueWaiting_of_mayIssue g, same, h]
    rfl
  · exact State.issueWaiting_of_not g

/-- Increases that waited and may be issued are all issued. -/
theorem State.issueWaiting_rack {s : State} (h : s.rack.mayIssue) :
    s.issueWaiting.rack.waiting = [] ∧ s.issueWaiting.rack.issued = (s.rack.issueAll s.rack.waiting).issued := by
  rw [State.issueWaiting_of_mayIssue h]
  obtain ⟨hf, hi, -⟩ := State.issueCaps_spec s.rack.waiting (s.updRack fun r => { r with waiting := [] })
  exact ⟨hf.waiting, hi.trans (Rack.issueAll_congr s.rack.waiting (r := s.rack) (x := { s.rack with waiting := [] }) rfl rfl).1⟩

/-- 64 caps within the pool (R39). -/
def Rack.pooled (r : Rack) : Prop := r.issued.length = 64 ∧ r.issued.sum ≤ chipPool

theorem State.issueWaiting_pooled {s : State} (h : s.rack.pooled) : s.issueWaiting.rack.pooled := by
  have hlen : s.rack.issued.length = 64 := h.1
  by_cases g : s.rack.mayIssue
  · have hok : s.rack.planOk s.rack.waiting = true := g.2.2
    obtain ⟨hd, hlegal, hsum⟩ := (s.rack.planOk_iff _).1 hok
    rw [Rack.pooled, (State.issueWaiting_rack g).2, Rack.issueAll_issued_length]
    exact ⟨hlen, Nat.le_trans (Rack.issueAll_sum_le_planned hlen hd fun x hx => (hlegal x hx).1) hsum⟩
  · rwa [State.issueWaiting_of_not g]

/-! A plan. -/

/-- The decreases of a plan are issued and its increases wait. -/
def State.layPlan (s : State) (caps : List (Nat × Nat)) : State :=
  (s.issueCaps (s.rack.decreases caps)).updRack fun r => { r with waiting := s.rack.increases caps }

/-- What a plan whose decreases are issued holds. -/
theorem State.layPlan_spec (s : State) (caps : List (Nat × Nat)) :
    (s.layPlan caps).rack.waiting = s.rack.increases caps ∧ (s.layPlan caps).rack.read = s.rack.read ∧
    (s.layPlan caps).rack.late = s.rack.late ∧
    (s.layPlan caps).rack.issued = (s.rack.issueAll (s.rack.decreases caps)).issued ∧
    (s.layPlan caps).rack.counted = (s.rack.issueAll (s.rack.decreases caps)).counted := by
  obtain ⟨hf, hi, hc⟩ := s.issueCaps_spec (s.rack.decreases caps)
  exact ⟨rfl, hf.read, hf.late, hi, hc⟩

/-- Whether a rack is settled, and what a plan comes to, are a matter of the caps issued, those counted and the late chips. -/
theorem Rack.settled_planned_congr {r x : Rack} (hl : x.late = r.late) (hi : x.issued = r.issued) (hc : x.counted = r.counted) :
    x.settled = r.settled ∧ x.planned = r.planned := by
  unfold Rack.settled Rack.planned
  rw [hl, hi, hc]
  exact ⟨rfl, rfl⟩

theorem State.layPlan_settled (s : State) (caps : List (Nat × Nat)) :
    (s.layPlan caps).rack.settled = (s.rack.issueAll (s.rack.decreases caps)).settled ∧
    (s.layPlan caps).rack.planned = (s.rack.issueAll (s.rack.decreases caps)).planned := by
  obtain ⟨-, -, hl, hi, hc⟩ := s.layPlan_spec caps
  exact Rack.settled_planned_congr (hl.trans (Rack.issueAll_late _ _).symm) hi hc

section
variable {s : State} {caps : List (Nat × Nat)} (hok : s.rack.planOk caps = true)
include hok

theorem Rack.chip_lt_of_planOk : ∀ x ∈ caps, x.1 < 64 := fun x hx => (((s.rack.planOk_iff caps).1 hok).2.1 x hx).1

variable (hlen : s.rack.issued.length = 64)
include hlen

theorem State.layPlan_pooled (h : s.rack.issued.sum ≤ chipPool) : (s.layPlan caps).rack.pooled := by
  obtain ⟨hd, -, -⟩ := (s.rack.planOk_iff caps).1 hok
  obtain ⟨-, -, -, hi, -⟩ := s.layPlan_spec caps
  rw [Rack.pooled, hi, Rack.issueAll_issued_length]
  exact ⟨hlen, Nat.le_trans (Rack.issueAll_decreases_sum_le hd hlen (Rack.chip_lt_of_planOk hok)) h⟩

/-- The increases of a plan that may be issued may be issued once its decreases are reported. -/
theorem State.layPlan_mayIssue_iff : (s.layPlan caps).rack.mayIssue ↔
    s.rack.read = true ∧ (s.rack.issueAll (s.rack.decreases caps)).settled = true := by
  obtain ⟨hd, hlegal, hsum⟩ := (s.rack.planOk_iff caps).1 hok
  obtain ⟨hw, hr, -⟩ := s.layPlan_spec caps
  obtain ⟨hset, hplan⟩ := s.layPlan_settled caps
  have hup : (s.layPlan caps).rack.planOk (s.rack.increases caps) = true := by
    refine (Rack.planOk_iff _ _).2 ⟨s.rack.increases_nodup hd, fun x hx => hlegal x (List.mem_filter.1 hx).1, ?_⟩
    rw [hplan]
    exact Nat.le_trans (Rack.planned_increases_le hd hlen (Rack.chip_lt_of_planOk hok)) hsum
  rw [Rack.mayIssue, hw, hr, hset]
  exact ⟨fun h => ⟨h.1, h.2.1⟩, fun h => ⟨h.1, h.2, hup⟩⟩

/-- A plan carried out at once: no increase waits, and each chip has the plan's cap or its old one. -/
theorem State.plan_issued (h : (s.layPlan caps).rack.mayIssue) :
    (s.layPlan caps).issueWaiting.rack.waiting = [] ∧
    ∀ c, (s.layPlan caps).issueWaiting.rack.issued.getD c 0 = (assocGet caps c).getD (s.rack.issued.getD c 0) := by
  obtain ⟨hd, -, -⟩ := (s.rack.planOk_iff caps).1 hok
  have hlt := Rack.chip_lt_of_planOk hok
  obtain ⟨hw, -, -, hi, -⟩ := s.layPlan_spec caps
  obtain ⟨hwait, hissued⟩ := State.issueWaiting_rack h
  refine ⟨hwait, fun c => ?_⟩
  have hbound : ∀ x ∈ s.rack.increases caps, x.1 < (s.layPlan caps).rack.issued.length := fun x hx => by
    rw [hi, Rack.issueAll_issued_length, hlen]
    exact hlt x (List.mem_filter.1 hx).1
  rw [hissued, hw, Rack.issueAll_issued_getD (s.rack.increases_nodup hd) c _ hbound, hi,
    Rack.issueAll_decreases_getD hd hlen hlt, Rack.increases_over_decreases hd]

/-- A plan whose increases wait: each chip has the plan's lower cap or its old one. -/
theorem State.plan_waits (h : ¬ (s.layPlan caps).rack.mayIssue) :
    (s.layPlan caps).issueWaiting.rack.waiting = s.rack.increases caps ∧
    ∀ c, (s.layPlan caps).issueWaiting.rack.issued.getD c 0 =
      (assocGet (s.rack.decreases caps) c).getD (s.rack.issued.getD c 0) := by
  obtain ⟨hd, -, -⟩ := (s.rack.planOk_iff caps).1 hok
  obtain ⟨hw, -, -, hi, -⟩ := s.layPlan_spec caps
  rw [State.issueWaiting_of_not h, hw, hi]
  exact ⟨rfl, Rack.issueAll_decreases_getD hd hlen (Rack.chip_lt_of_planOk hok)⟩

end

/-! The governor's commands. -/

/-- The state after the chips reported: the governor's record of them. -/
def State.heard (s : State) (reports : List (Nat × Nat)) : State := { s with rack := s.rack.hearAll (s.reports reports) }

@[simp] theorem State.heard_issued (s : State) (reports : List (Nat × Nat)) : (s.heard reports).rack.issued = s.rack.issued :=
  Rack.hearAll_issued _ _
@[simp] theorem State.heard_waiting (s : State) (reports : List (Nat × Nat)) :
    (s.heard reports).rack.waiting = s.rack.waiting := Rack.hearAll_waiting _ _
@[simp] theorem State.heard_read (s : State) (reports : List (Nat × Nat)) : (s.heard reports).rack.read = s.rack.read :=
  Rack.hearAll_read _ _

theorem exec_without_governor {s : State} (h : s.governor = false) (caps reports : List (Nat × Nat)) (chip : Fin 64)
    (deciW : Nat) : exec (.governorRedistribute caps reports) s = .next s ∧ exec (.capDecreaseTimeout chip) s = .next s ∧
      exec (.busbarOverload deciW) s = .next s :=
  ⟨congrArg Host.Outcome.next (if_pos h), congrArg Host.Outcome.next (if_pos (.inl h)), congrArg Host.Outcome.next (if_pos h)⟩

/-- A redistribution: the reports, the increases that waited for them, and the plan if it may be issued. -/
theorem exec_governorRedistribute {s : State} (h : s.governor = true) (caps reports : List (Nat × Nat)) :
    exec (.governorRedistribute caps reports) s =
      .next (if (s.heard reports).issueWaiting.rack.planOk caps = false ∨ caps = [] then (s.heard reports).issueWaiting
        else ((s.heard reports).issueWaiting.layPlan caps).issueWaiting) :=
  congrArg Host.Outcome.next (if_neg (by simp [h]))

/-- A redistribution keeps the caps within the pool (R39). -/
theorem governorRedistribute_pooled (s : State) (h : s.rack.pooled) (caps reports : List (Nat × Nat)) :
    ∃ t, exec (.governorRedistribute caps reports) s = .next t ∧ t.rack.pooled := by
  cases hg : s.governor with
  | false => exact ⟨s, (exec_without_governor hg caps reports 0 0).1, h⟩
  | true =>
    refine ⟨_, exec_governorRedistribute hg caps reports, ?_⟩
    have hw : (s.heard reports).issueWaiting.rack.pooled :=
      State.issueWaiting_pooled (by rwa [Rack.pooled, State.heard_issued])
    split
    · exact hw
    · next hok =>
      refine State.issueWaiting_pooled (State.layPlan_pooled ?_ hw.1 hw.2)
      simpa using fun e => hok (.inl e)

section
variable {s : State} (hg : s.governor = true) (hw : s.rack.waiting = []) {caps : List (Nat × Nat)} (reports : List (Nat × Nat))
include hg hw

/-- A plan that may not be issued: the reports alone. -/
theorem governorRedistribute_of_no_plan (h : (s.heard reports).rack.planOk caps = false ∨ caps = []) :
    exec (.governorRedistribute caps reports) s = .next (s.heard reports) := by
  rw [exec_governorRedistribute hg, State.issueWaiting_of_nil ((s.heard_waiting reports).trans hw), if_pos h]

/-- A plan that may be issued when no increase waits: its decreases at once, its increases with them or later (R39, R40, R44). -/
theorem governorRedistribute_plan (hlen : s.rack.issued.length = 64) (hok : (s.heard reports).rack.planOk caps = true)
    (hne : caps ≠ []) :
    ∃ t, exec (.governorRedistribute caps reports) s = .next t ∧
      (∀ x ∈ caps, x.2 < s.rack.issued.getD x.1 0 → t.rack.issued.getD x.1 0 = x.2) ∧
      (∀ c, (∀ x ∈ caps, x.1 ≠ c) → t.rack.issued.getD c 0 = s.rack.issued.getD c 0) ∧
      if s.rack.read = true ∧ ((s.heard reports).rack.issueAll ((s.heard reports).rack.decreases caps)).settled = true then
        t.rack.waiting = [] ∧ ∀ x ∈ caps, t.rack.issued.getD x.1 0 = x.2
      else ∀ x ∈ caps, s.rack.issued.getD x.1 0 < x.2 →
        t.rack.issued.getD x.1 0 = s.rack.issued.getD x.1 0 ∧ x ∈ t.rack.waiting := by
  refine ⟨((s.heard reports).layPlan caps).issueWaiting, ?_, ?_⟩
  · rw [exec_governorRedistribute hg, State.issueWaiting_of_nil ((s.heard_waiting reports).trans hw),
      if_neg (by simp [hok, hne])]
  obtain ⟨hd, -, -⟩ := ((s.heard reports).rack.planOk_iff caps).1 hok
  have hlen' : (s.heard reports).rack.issued.length = 64 := by rw [State.heard_issued, hlen]
  have hiff := State.layPlan_mayIssue_iff hok hlen'
  rw [State.heard_read] at hiff
  by_cases h : ((s.heard reports).layPlan caps).rack.mayIssue
  · obtain ⟨hwait, hcap⟩ := State.plan_issued hok hlen' h
    have hall : ∀ x ∈ caps, ((s.heard reports).layPlan caps).issueWaiting.rack.issued.getD x.1 0 = x.2 := fun x hx => by
      rw [hcap, assocGet_of_mem hd hx]
      rfl
    refine ⟨fun x hx _ => hall x hx, fun c hc => ?_, ?_⟩
    · rw [hcap, assocGet_eq_none hc, State.heard_issued]
      rfl
    · rw [if_pos (hiff.1 h)]
      exact ⟨hwait, hall⟩
  · obtain ⟨hwait, hcap⟩ := State.plan_waits hok hlen' h
    simp only [Rack.assocGet_decreases hd, State.heard_issued] at hcap
    refine ⟨fun x hx hlt => ?_, fun c hc => ?_, ?_⟩
    · rw [hcap, assocGet_of_mem hd hx, Option.filter_some, if_pos (decide_eq_true hlt)]
      rfl
    · rw [hcap, assocGet_eq_none hc]
      rfl
    · rw [if_neg fun g => h (hiff.2 g)]
      refine fun x hx hlt => ⟨?_, ?_⟩
      · rw [hcap, assocGet_of_mem hd hx, Option.filter_some, if_neg (by simpa using Nat.le_of_lt hlt)]
        rfl
      · rw [hwait, Rack.increases, State.heard_issued]
        exact List.mem_filter.2 ⟨hx, decide_eq_true hlt⟩

end

theorem capDecreaseTimeout_of_counted_le {s : State} (chip : Fin 64)
    (h : s.rack.counted.getD chip 0 ≤ s.rack.issued.getD chip 0) :
    exec (.capDecreaseTimeout chip) s = .next s := congrArg Host.Outcome.next (if_pos (.inr h))

/-- A chip late with its decrease is remembered, and no increase waits any more (R41). -/
theorem capDecreaseTimeout_of_lt_counted {s : State} (hg : s.governor = true) (chip : Fin 64)
    (h : s.rack.issued.getD chip 0 < s.rack.counted.getD chip 0) :
    exec (.capDecreaseTimeout chip) s = .next { s with rack :=
      { s.rack with waiting := [], late := s.rack.late.filter (· != chip.1) ++ [chip.1],
                    log := s.rack.log ++ [.lateDecrease] } } :=
  congrArg Host.Outcome.next (if_neg (by simp only [hg, Bool.true_eq_false, false_or]; exact Nat.not_le.2 h))

/-! The busbar. -/

/-- The governor lowers a chip to `f` of its cap, if that is lower. -/
def State.lowerCap (f : Nat → Nat) (c : Nat) (s : State) : State :=
  if f (s.rack.issued.getD c 0) < s.rack.issued.getD c 0 then s.issueCap c (f (s.rack.issued.getD c 0)) else s

/-- The governor lowers every chip so, and lets no increase wait. -/
def State.lowerCaps (f : Nat → Nat) (s : State) : State :=
  eachOf (List.range 64) (State.lowerCap f) (s.updRack fun r => { r with waiting := [] })

theorem State.lowerCap_spec (f : Nat → Nat) {c : Nat} (s : State) (h : c < s.rack.issued.length) :
    SameButCaps s.rack (s.lowerCap f c).rack ∧ (s.lowerCap f c).rack.issued.length = s.rack.issued.length ∧
    ∀ j, (s.lowerCap f c).rack.issued.getD j 0 =
      if c = j then min (s.rack.issued.getD j 0) (f (s.rack.issued.getD j 0)) else s.rack.issued.getD j 0 := by
  unfold State.lowerCap
  split
  · next g =>
    obtain ⟨hf, hi, -⟩ := s.issueCap_spec c (f (s.rack.issued.getD c 0))
    rw [hi]
    refine ⟨hf, Rack.issue_issued_length _ _ _, fun j => ?_⟩
    rw [Rack.issue_issued_getD _ h]
    split
    · next e => rw [← e, Nat.min_eq_right (Nat.le_of_lt g)]
    · rfl
  · next g =>
    refine ⟨SameButCaps.refl _, rfl, fun j => ?_⟩
    split
    · next e => rw [← e, Nat.min_eq_left (Nat.not_lt.1 g)]
    · rfl

/-- The first `n` chips lowered, each once. -/
theorem State.eachOf_lowerCap_spec (f : Nat → Nat) (s : State) : ∀ n, n ≤ s.rack.issued.length →
    let t := eachOf (List.range n) (State.lowerCap f) s
    SameButCaps s.rack t.rack ∧ t.rack.issued.length = s.rack.issued.length ∧ ∀ j, t.rack.issued.getD j 0 =
      if j < n then min (s.rack.issued.getD j 0) (f (s.rack.issued.getD j 0)) else s.rack.issued.getD j 0 := by
  intro n
  induction n with
  | zero => exact fun _ => ⟨SameButCaps.refl _, rfl, fun _ => rfl⟩
  | succ n ih =>
    intro hn t
    have ht : t = (eachOf (List.range n) (State.lowerCap f) s).lowerCap f n := by
      simp only [t, eachOf, List.range_succ, List.foldl_append, List.foldl_cons, List.foldl_nil]
    obtain ⟨hf, hlen, hcap⟩ := ih (by omega)
    obtain ⟨gf, glen, gcap⟩ := State.lowerCap_spec f (c := n) (eachOf (List.range n) (State.lowerCap f) s) (by omega)
    rw [ht]
    refine ⟨hf.trans gf, glen.trans hlen, fun j => ?_⟩
    rw [gcap, hcap]
    rcases Nat.lt_trichotomy j n with e | e | e
    · rw [if_neg (by omega), if_pos e, if_pos (by omega)]
    · rw [if_pos e.symm, if_neg (by omega), if_pos (by omega)]
    · rw [if_neg (by omega), if_neg (by omega), if_neg (by omega)]

theorem State.lowerCaps_spec (f : Nat → Nat) {s : State} (h : s.rack.issued.length = 64) :
    SameButCaps { s.rack with waiting := [] } (s.lowerCaps f).rack ∧ ∀ c, c < 64 →
      (s.lowerCaps f).rack.issued.getD c 0 = min (s.rack.issued.getD c 0) (f (s.rack.issued.getD c 0)) := by
  obtain ⟨hf, -, hcap⟩ := State.eachOf_lowerCap_spec f (s.updRack fun r => { r with waiting := [] }) 64 (Nat.le_of_eq h.symm)
  refine ⟨hf, fun c hc => ?_⟩
  rw [State.lowerCaps, hcap, if_pos hc]
  rfl

/-- A step against an overload (R42): every cap falls by 5 W, never below 60 W. -/
def fallen (cap : Nat) : Nat := max 60 (cap - 5)

section
variable {s : State} (hg : s.governor = true) (hlen : s.rack.issued.length = 64) (deciW : Nat)
include hg

/-- What the governor does about the busbar's power, by the step that it has reached. -/
theorem exec_busbarOverload : exec (.busbarOverload deciW) s = .next (match s.rack.overload with
    | 0 => if deciW ≤ 120000 then s
        else ((s.updRack fun r => { r with overload := 1 }).lowerCaps (min 115)).governorLog .overload
    | 1 => if deciW ≤ 120000 then s.updRack fun r => { r with overload := 0 }
        else ((s.updRack fun r => { r with overload := 2 }).governorLog .overload).lowerCaps fallen
    | _ => if deciW ≤ 119600 then s.updRack fun r => { r with overload := 0 } else s.lowerCaps fallen) :=
  congrArg Host.Outcome.next (if_neg (by simp [hg]))

theorem busbarOverload_none (h0 : s.rack.overload = 0) (h : deciW ≤ 120000) : exec (.busbarOverload deciW) s = .next s := by
  rw [exec_busbarOverload hg, h0]
  simp only [h, if_true]

/-- The power falls to where a step ends. -/
theorem busbarOverload_ends (h0 : 0 < s.rack.overload)
    (h : deciW ≤ if decide (s.rack.overload = 1) then 120000 else 119600) :
    exec (.busbarOverload deciW) s = .next { s with rack := { s.rack with overload := 0 } } := by
  rw [exec_busbarOverload hg]
  rcases e : s.rack.overload with _ | _ | n
  · omega
  · simp only [e, Nat.zero_add, decide_true, if_true] at h ⊢
    simp only [h, if_true]
    rfl
  · simp only [e, show ¬ n + 1 + 1 = 1 by omega, decide_false, Bool.false_eq_true, if_false] at h ⊢
    simp only [h, if_true]
    rfl

include hlen

/-- The first step against an overload: every cap at most 115 W. -/
theorem busbarOverload_first (h0 : s.rack.overload = 0) (h : 120000 < deciW) :
    ∃ t, exec (.busbarOverload deciW) s = .next t ∧ t.rack.overload = 1 ∧ t.rack.waiting = [] ∧
      t.rack.log = s.rack.log ++ [.overload] ∧
      ∀ c, c < 64 → t.rack.issued.getD c 0 = min 115 (s.rack.issued.getD c 0) := by
  rw [exec_busbarOverload hg, h0]
  simp only [Nat.not_le.2 h, if_false]
  obtain ⟨hf, hcap⟩ := State.lowerCaps_spec (min 115) (s := s.updRack fun r => { r with overload := 1 }) hlen
  generalize (s.updRack fun r => { r with overload := 1 }).lowerCaps (min 115) = t at hf hcap ⊢
  exact ⟨_, rfl, hf.overload, hf.waiting, congrArg (· ++ [MgrEntry.overload]) hf.log,
    fun c hc => (hcap c hc).trans (Nat.min_eq_right (Nat.min_le_right _ _))⟩

/-- The excess persists: every cap falls, and only the first fall is logged. -/
theorem busbarOverload_falls (h0 : 0 < s.rack.overload)
    (h : (if decide (s.rack.overload = 1) then 120000 else 119600) < deciW) :
    ∃ t, exec (.busbarOverload deciW) s = .next t ∧ t.rack.waiting = [] ∧
      (decide (s.rack.overload = 1) = true → t.rack.overload = 2 ∧ t.rack.log = s.rack.log ++ [.overload]) ∧
      (decide (s.rack.overload = 1) = false → t.rack.overload = s.rack.overload ∧ t.rack.log = s.rack.log) ∧
      ∀ c, c < 64 → t.rack.issued.getD c 0 = min (s.rack.issued.getD c 0) (max 60 (s.rack.issued.getD c 0 - 5)) := by
  rw [exec_busbarOverload hg]
  rcases e : s.rack.overload with _ | _ | n
  · omega
  · simp only [e, Nat.zero_add, decide_true, if_true] at h
    simp only [Nat.not_le.2 h, if_false]
    obtain ⟨hf, hcap⟩ := State.lowerCaps_spec fallen
      (s := (s.updRack fun r => { r with overload := 2 }).governorLog .overload) hlen
    exact ⟨_, rfl, hf.waiting, fun _ => ⟨hf.overload, hf.log⟩, fun hn => by simp at hn, hcap⟩
  · have hn : ¬ n + 1 + 1 = 1 := by omega
    simp only [e, hn, decide_false, Bool.false_eq_true, if_false] at h
    simp only [Nat.not_le.2 h, if_false]
    obtain ⟨hf, hcap⟩ := State.lowerCaps_spec fallen hlen
    exact ⟨_, rfl, hf.waiting, fun h1 => by simp at h1, fun _ => ⟨hf.overload.trans e, hf.log⟩, hcap⟩

end

/-! The tray controller. -/

theorem tcCommandSilence_of_mode {s : State} (hm : s.rack.tc.mode = some .rack) (hw : s.rack.fr32h = false) :
    ∃ t, exec .tcCommandSilence s = .next t ∧ t.rack.tc =
      { s.rack.tc with caps := #v[min 115 (s.tcCap 0), min 115 (s.tcCap 1)], log := s.rack.tc.log ++ [.silence] } := by
  refine ⟨(s.tcCaps (min 115)).tcLog .silence, congrArg Host.Outcome.next (if_neg (by simp [hm, hw])), ?_⟩
  rw [State.tcLog_rack, State.tcCaps_rack]

theorem tcCommandSilence_of_not_mode {s : State} (h : s.rack.tc.mode ≠ some .rack ∨ s.rack.fr32h = true) :
    exec .tcCommandSilence s = .next s := congrArg Host.Outcome.next (if_pos h)

/-- The TC counts its failed fans. -/
def State.fansCounted (s : State) (failed : Nat) : State :=
  s.updRack fun r => { r with tc := { r.tc with fansBad := failed } }

theorem fanFailure_one (s : State) : ∃ t, exec (.fanFailure 1) s = .next t ∧ t.rack =
    { s.rack with tc := { s.rack.tc with fansBad := 1, amber := true, log := s.rack.tc.log ++ [.fanFailed] } } := by
  refine ⟨(s.fansCounted 1).tcAmber.tcLog .fanFailed, rfl, ?_⟩
  rw [State.tcLog_rack, State.tcAmber_rack]
  rfl

/-- Two fans or more: both chips are capped (R46). -/
theorem fanFailure_more {failed : Nat} (h : 2 ≤ failed) (s : State) : ∃ t, exec (.fanFailure failed) s = .next t ∧ t.rack =
    { s.rack with tc := { s.rack.tc with fansBad := failed, caps := #v[60, 60], log := s.rack.tc.log ++ [.fansFailed] } } := by
  obtain ⟨n, rfl⟩ := Nat.exists_eq_add_of_le' h
  refine ⟨((s.fansCounted (n + 2)).tcCaps fun _ => 60).tcLog .fansFailed, rfl, ?_⟩
  rw [State.tcLog_rack, State.tcCaps_rack]
  rfl

theorem exec_inletTemperature (quarterC : Int) (s : State) : exec (.inletTemperature quarterC) s =
    .next (if 160 < quarterC then (s.tcLog .inletWarm).tcCaps (fun _ => 60) |>.tcLog .inletHot
      else if 140 < quarterC then s.tcLog .inletWarm else s) := by
  change Host.Outcome.next _ = _
  by_cases h : 160 < quarterC
  · rw [if_pos h, if_pos h, if_pos (by omega)]
  · rw [if_neg h, if_neg h]

theorem inletTemperature_hot {quarterC : Int} (h : 160 < quarterC) (s : State) :
    ∃ t, exec (.inletTemperature quarterC) s = .next t ∧ t.rack =
      { s.rack with tc := { s.rack.tc with caps := #v[60, 60], log := s.rack.tc.log ++ [.inletWarm, .inletHot] } } := by
  rw [exec_inletTemperature, if_pos h]
  refine ⟨_, rfl, ?_⟩
  rw [State.tcLog_rack, State.tcCaps_rack, State.tcLog_rack]
  simp only [List.append_assoc, List.cons_append, List.nil_append]

/-- The rack as the TC knows it at its start: its place in the rack that a manager claimed it for, else STANDALONE (R32, R47). -/
def Rack.started (r : Rack) (claimed : Bool) (seat : Seat) : Rack :=
  if claimed then
    { r with fr32h := seat.fr32h, index := seat.rack.toNat, tray := seat.tray.toNat,
             tc := { r.tc with mode := some .rack, log := r.tc.log ++ [.restart] } }
  else
    { r with fr32h := seat.fr32h, index := 0, tray := 0,
             tc := { r.tc with mode := some .standalone, caps := Vector.replicate 2 150, log := r.tc.log ++ [.restart] } }

theorem exec_tcStart (claimed : Bool) (seat : Seat) (s : State) : exec (.tcStart claimed seat) s =
    .next (State.tcBringUp { s with rack := s.rack.started claimed seat } (!s.flag Page.chip CHIP_PCN_VALID)) := by
  cases claimed <;> rfl

theorem State.tcBringUp_of_unreached {s : State} (h : s.tcReaches = false) (fresh : Bool) : s.tcBringUp fresh = s := by
  unfold State.tcBringUp
  cases s.rack.tc.mode with
  | none => rfl
  | some mode => exact if_pos h

/-- A chip in RACK mode with the rack reference and its number: the TC has nothing to set. -/
theorem State.tcBringUp_of_placed {s : State} (hm : s.rack.tc.mode = some .rack) (hr : s.flag Page.clk CLK_REF_SRC = false)
    (hv : s.flag Page.chip CHIP_PCN_VALID = true) (hp : s.get Page.chip CHIP_PCN_PCN = s.placePcn) :
    s.tcBringUp false = s := by
  have href : s.tcReference false = s := if_pos hr
  have hpcn : s.tcPcn = s := if_pos ⟨hv, hp⟩
  have halone : (TcMode.rack == TcMode.standalone) = false := rfl
  unfold State.tcBringUp
  rw [hm]
  simp [halone, href, hpcn]

theorem tcStart_unreached {s : State} (h : s.tcReaches = false) (claimed : Bool) (seat : Seat) :
    exec (.tcStart claimed seat) s = .next { s with rack := s.rack.started claimed seat } := by
  rw [exec_tcStart, State.tcBringUp_of_unreached (s := { s with rack := s.rack.started claimed seat }) h]

theorem tcStart_placed {s : State} (seat : Seat) (hr : s.flag Page.clk CLK_REF_SRC = false)
    (hv : s.flag Page.chip CHIP_PCN_VALID = true)
    (hp : s.get Page.chip CHIP_PCN_PCN = State.placePcn { s with rack := s.rack.started true seat }) :
    exec (.tcStart true seat) s = .next { s with rack := s.rack.started true seat } := by
  rw [exec_tcStart, hv, Bool.not_true,
    State.tcBringUp_of_placed (s := { s with rack := s.rack.started true seat }) rfl hr hv hp]

/-! The managers and their lease. -/

theorem State.rackChip_lt (s : State) : s.rackChip < 64 := by
  have := s.trayPos.2
  unfold State.rackChip
  omega

/-- Of this chip's cap in force the TC reports what the chip holds. -/
theorem State.assocGet_reports_self (s : State) : assocGet (s.reports []) s.rackChip =
    if s.inRack then some (s.get Page.pwr PWR_CAP_IN_FORCE_CAP) else none := by
  unfold State.reports
  split
  · rw [assocGet_cons, if_pos rfl]
  · rfl

/-- The caps that an active manager reads. -/
def State.readCaps (s : State) (inForce : List Nat) : List Nat :=
  let read := (List.range 64).map fun c => inForce.getD c (s.rack.inForce.getD c 0)
  match assocGet (s.reports []) s.rackChip with
  | some cap => read.set s.rackChip cap
  | none => read

theorem State.readCaps_getD (s : State) (inForce : List Nat) {c : Nat} (h : c < 64) : (s.readCaps inForce).getD c 0 =
    if s.inRack = true ∧ c = s.rackChip then s.get Page.pwr PWR_CAP_IN_FORCE_CAP
    else inForce.getD c (s.rack.inForce.getD c 0) := by
  have hread : ((List.range 64).map fun c => inForce.getD c (s.rack.inForce.getD c 0)).getD c 0 =
      inForce.getD c (s.rack.inForce.getD c 0) := by
    rw [List.getD_eq_getElem?_getD, List.getElem?_map, List.getElem?_range h]
    rfl
  unfold State.readCaps
  rw [State.assocGet_reports_self]
  cases s.inRack with
  | false => simpa using hread
  | true =>
    simp only [if_true, true_and]
    rw [getD_set_of_lt _ (by simpa using s.rackChip_lt), hread]
    simp only [eq_comm]

theorem exec_managerActive {s : State} {m : Mgr} (h : (s.rack.mgr m).active = true) (inForce : List Nat) :
    exec (.managerActive m inForce) s = .next (s.updRack fun r =>
      { r with inForce := s.readCaps inForce, counted := s.readCaps inForce, issued := s.readCaps inForce, waiting := [],
               late := [], read := true }) := congrArg Host.Outcome.next (if_neg (by simp [h]))

theorem managerActive_of_not_active {s : State} {m : Mgr} (h : (s.rack.mgr m).active = false) (inForce : List Nat) :
    exec (.managerActive m inForce) s = .next s := congrArg Host.Outcome.next (if_pos h)

/-- Both managers change alike. -/
def Rack.eachMgr (r : Rack) (f : Manager → Manager) : Rack := { r with mgrA := f r.mgrA, mgrB := f r.mgrB }

theorem Rack.mgr_eachMgr (r : Rack) (f : Manager → Manager) (m : Mgr) : (r.eachMgr f).mgr m = f (r.mgr m) := by
  cases m <;> rfl

theorem Rack.mgr_setMgr (r : Rack) (m : Mgr) (x : Manager) : (r.setMgr m x).mgr m = x := by cases m <;> rfl
theorem Rack.peer_setMgr (r : Rack) (m : Mgr) (x : Manager) : (r.setMgr m x).peer m = r.peer m := by cases m <;> rfl

/-- A manager after a round of renewals, which reach its peer or not. -/
def Manager.renewed (reached : Bool) (m : Manager) : Manager :=
  if m.holder then { m with missed := !reached, stopped := m.stopped && !reached } else m

/-- A manager after 2 s without a renewal. -/
def Manager.selfStopped (m : Manager) : Manager := if m.holder && m.missed then { m with stopped := true } else m

theorem leaseRenew_spec (direct network : Bool) (m : Mgr) (s : State) :
    ∃ t, exec (.leaseRenew direct network) s = .next t ∧ t = { s with rack := t.rack } ∧
      ((s.rack.mgr m).holder = false → t.rack.mgr m = s.rack.mgr m) ∧
      ((s.rack.mgr m).holder = true → (t.rack.mgr m).holder = true ∧ (t.rack.mgr m).term = (s.rack.mgr m).term ∧
        ((t.rack.mgr m).missed = true ↔ direct = false ∧ network = false) ∧
        (direct = false → network = false → (t.rack.mgr m).stopped = (s.rack.mgr m).stopped)) := by
  refine ⟨s.updRack fun r => r.eachMgr (Manager.renewed (direct || network)), rfl, rfl, ?_⟩
  rw [State.updRack_rack, Rack.mgr_eachMgr]
  refine ⟨fun h => by simp [Manager.renewed, h], fun h => ?_⟩
  simp only [Manager.renewed, h, if_true, true_and]
  exact ⟨by simp, by rintro rfl rfl; simp⟩

theorem leaseSelfStop_spec (m : Mgr) (s : State) :
    ∃ t, exec .leaseSelfStop s = .next t ∧ t = { s with rack := t.rack } ∧
      ((s.rack.mgr m).holder = true → (s.rack.mgr m).missed = true → (t.rack.mgr m).active = false) ∧
      ((s.rack.mgr m).missed = false → t.rack.mgr m = s.rack.mgr m) := by
  refine ⟨s.updRack fun r => r.eachMgr Manager.selfStopped, rfl, rfl, ?_⟩
  rw [State.updRack_rack, Rack.mgr_eachMgr]
  exact ⟨fun h g => by simp [Manager.selfStopped, Manager.active, h, g], fun g => by simp [Manager.selfStopped, g]⟩

theorem Rack.unrenewed_iff (r : Rack) (m : Mgr) : r.unrenewed m = true ↔
    (r.mgr m).holder = false ∧ ((r.peer m).holder = false ∨ (r.peer m).missed = true) := by
  simp [Rack.unrenewed]

/-- A standby takes the lease over with a term above both terms (R54). -/
theorem leaseTakeover_of_unrenewed {s : State} {m : Mgr} (h : s.rack.unrenewed m = true) :
    ∃ t, exec (.leaseTakeover m true) s = .next t ∧ t = { s with rack := t.rack } ∧ (t.rack.mgr m).active = true ∧
      (t.rack.peer m).holder = false ∧ t.rack.read = false ∧ (t.rack.mgr m).term =
        (if (s.rack.mgr m).term.ult (s.rack.peer m).term then (s.rack.peer m).term else (s.rack.mgr m).term) + 1 := by
  refine ⟨_, congrArg Host.Outcome.next (if_neg (by simp [h])), rfl, ?_⟩
  cases m <;> exact ⟨rfl, rfl, rfl, rfl⟩

theorem leaseTakeover_of_not {s : State} {m : Mgr} {dropped : Bool} (h : dropped = false ∨ s.rack.unrenewed m = false) :
    exec (.leaseTakeover m dropped) s = .next s := congrArg Host.Outcome.next (if_pos h)

/-- A higher term makes a manager standby at once, and leaves its peer (R55). -/
theorem higherTerm_of_ult {s : State} {m : Mgr} {term : Dword} (h : (s.rack.mgr m).term.ult term = true) :
    ∃ t, exec (.higherTerm m term) s = .next t ∧ t = { s with rack := t.rack } ∧ (t.rack.mgr m).holder = false ∧
      t.rack.peer m = s.rack.peer m := by
  refine ⟨s.updRack fun r => r.setMgr m ⟨false, term, false, false⟩, congrArg Host.Outcome.next (if_pos h), rfl, ?_⟩
  rw [State.updRack_rack, Rack.mgr_setMgr, Rack.peer_setMgr]
  exact ⟨rfl, rfl⟩

theorem higherTerm_of_not_ult {s : State} {m : Mgr} {term : Dword} (h : (s.rack.mgr m).term.ult term = false) :
    exec (.higherTerm m term) s = .next s := congrArg Host.Outcome.next (if_neg (by simp [h]))

/-! The statement. -/

/-- Settles O58: clause by clause, from the lemmas on the governor, the busbar, the tray controller and the lease above. -/
theorem rackCapsAndLease : Obligations.RackCapsAndLease := by
  unfold Obligations.RackCapsAndLease
  intro caps reports chip deciW failed quarterC claimed direct network seat m inForce term s r old cap within tc
  refine ⟨fun hlen hsum => ?pool, fun hg => exec_without_governor hg caps reports chip deciW, fun hlen hg => ?governor,
    tcCommandSilence_of_mode, tcCommandSilence_of_not_mode, fun h => ?active, fun h => managerActive_of_not_active h inForce,
    fun h => ?noFan, fun h => ?oneFan, fun h => fanFailure_more h s, fun h => ?cool, fun hwarm hhot => ?warm,
    fun h => inletTemperature_hot h s, ⟨fun h => tcStart_unreached h claimed seat, fun hc => ?placed⟩,
    leaseRenew_spec direct network m s, leaseSelfStop_spec m s,
    fun h hp => leaseTakeover_of_unrenewed ((r.unrenewed_iff m).2 ⟨h, hp⟩), fun h => leaseTakeover_of_not (.inr ?held),
    leaseTakeover_of_not (.inl rfl), higherTerm_of_ult, higherTerm_of_not_ult⟩
  case pool =>
    obtain ⟨t, ht, hlen', hsum'⟩ := governorRedistribute_pooled s ⟨hlen, hsum⟩ caps reports
    exact ⟨t, ht, hsum', hlen'⟩
  case governor =>
    refine ⟨fun hw => ⟨governorRedistribute_of_no_plan hg hw reports, fun hok hne => ?_⟩,
      capDecreaseTimeout_of_counted_le chip, capDecreaseTimeout_of_lt_counted hg chip,
      fun h0 => ⟨busbarOverload_none hg deciW h0, busbarOverload_first hg hlen deciW h0⟩,
      fun h0 => ⟨busbarOverload_ends hg deciW h0, busbarOverload_falls hg hlen deciW h0⟩⟩
    have hplan := governorRedistribute_plan hg hw reports hlen hok hne
    rwa [Rack.decreases, State.heard_issued] at hplan
  case active =>
    exact ⟨_, exec_managerActive h inForce, rfl, rfl, rfl, rfl, rfl, rfl, rfl, fun _ hc => s.readCaps_getD inForce hc⟩
  case noFan => rw [h]; rfl
  case oneFan => rw [h]; exact fanFailure_one s
  case cool => rw [exec_inletTemperature, if_neg (by omega), if_neg (by omega)]
  case warm => rw [exec_inletTemperature, if_neg (by omega), if_pos hwarm]; rfl
  case placed =>
    subst hc
    exact fun hr hv hp => tcStart_placed seat hr hv hp
  case held =>
    rw [Bool.eq_false_iff, ne_eq, Rack.unrenewed_iff]
    rintro ⟨hm, hp⟩
    rcases h with h | ⟨h, hmiss⟩
    · exact absurd (hm.symm.trans h) Bool.false_ne_true
    · rcases hp with hp | hp
      · exact absurd (hp.symm.trans h) Bool.false_ne_true
      · exact absurd (hmiss.symm.trans hp) Bool.false_ne_true

end Sys2Proof.Machine
end

section
/-!
A COMMIT of one group (14_pages.md R518-R520), and the commits of the scale slots and of the optimizer's sets (07_numerics.md R263,
R275, R276). A COMMIT.APPLY that is accepted leaves one state, `State.appliedOne`, whatever the page; what a group's fields read
there follows from the registers' words: two words at different offsets never share a key.
-/
namespace Sys2Proof.Machine

open Reg

/-! Words at different offsets, and the fields of a word that takes some bits of another. -/

theorem regKey_ne_of_off {p q i j a b : Nat} (ha : a < 2 ^ 12) (hb : b < 2 ^ 12) (h : a ≠ b) : regKey p i a ≠ regKey q j b := by
  unfold regKey
  omega

section
variable {s : State} {f : Fld} (hf : f.off < 2 ^ 12)
include hf

theorem State.word_setI_of_off {x : Nat} (hx : x < 2 ^ 12) (h : x ≠ f.off) (p i v q j : Nat) :
    (s.setI p i f v).word q j x = s.word q j x := State.word_setI_ne _ _ _ _ _ _ _ (regKey_ne_of_off hx hf h)

theorem State.getI_setI_of_off {g : Fld} (hg : g.off < 2 ^ 12) (h : g.off ≠ f.off) (p i v q j : Nat) :
    (s.setI p i f v).getI q j g = s.getI q j g := congrArg g.of (State.word_setI_of_off hf hg h p i v q j)

end

theorem Fld.getLsbD_mask (f : Fld) {j : Nat} (hj : j < 32) : f.mask.getLsbD j = decide (f.lsb ≤ j ∧ j < f.lsb + f.width) := by
  simp only [Fld.mask, BitVec.getLsbD_shiftLeft, BitVec.getLsbD_ofNat, Nat.testBit_two_pow_sub_one]
  grind

/-- A field that lies within a mask reads what a write under the mask took from `w`. -/
theorem Fld.of_write_under_mask {f : Fld} {m : Word} (hm : f.mask &&& m = f.mask) (x w : Word) :
    f.of ((x &&& ~~~m) ||| (w &&& m)) = f.of w := by
  refine Nat.eq_of_testBit_eq fun i => ?_
  rw [Fld.testBit_of, Fld.testBit_of]
  by_cases hi : i < f.width ∧ f.lsb + i < 32
  · obtain ⟨hw, h32⟩ := hi
    have hbit : m.getLsbD (f.lsb + i) = true := by
      have hf : f.mask.getLsbD (f.lsb + i) = true := by simp [Fld.getLsbD_mask f h32, hw]
      rw [← hm, BitVec.getLsbD_and, Bool.and_eq_true] at hf
      exact hf.2
    simp [hbit]
  · by_cases hw : i < f.width
    · have h32 : 32 ≤ f.lsb + i := by omega
      rw [BitVec.getLsbD_of_ge _ _ h32, BitVec.getLsbD_of_ge _ _ h32]
    · simp [hw]

/-! The live copies take their staged words (R520), a register at a time. -/

/-- The register at `off` takes the RWS fields of its staged word. -/
def State.takeStaged (s : State) (path : Path) (page : Nat) (k : Kind) (off : Nat) : State :=
  let m := rwsMask k off
  let idx := s.entryIdx path page off
  s.setWord page idx off ((s.word page idx off &&& ~~~m) ||| (s.stagedWord page off &&& m))

section
variable {path : Path} {page : Nat} {k : Kind}

theorem State.copyLive_eq (s : State) (gs : List Nat) : s.copyLive path page k gs =
    eachOf (gs.flatMap fun g => groupOffs (k.groups.getD g (0, 0))) (fun off s => s.takeStaged path page k off) s := rfl

theorem State.copyLive_one (s : State) (g : Nat) : s.copyLive path page k [g] =
    eachOf (groupOffs (k.groups.getD g (0, 0))) (fun off s => s.takeStaged path page k off) s := by
  rw [State.copyLive_eq, List.flatMap_singleton]

theorem State.eachOf_takeStaged_cores (l : List Nat) (s : State) :
    (eachOf l (fun off s => s.takeStaged path page k off) s).cores = s.cores := by
  induction l generalizing s with
  | nil => rfl
  | cons x r ih => exact ih (s.takeStaged path page k x)

theorem State.eachOf_takeStaged_wf (l : List Nat) {s : State} (hs : RegFile.wf s.regs = true) :
    RegFile.wf (eachOf l (fun off s => s.takeStaged path page k off) s).regs = true := by
  induction l generalizing s with
  | nil => exact hs
  | cons x r ih => exact ih (State.wf_setWord hs _ _ _ _)

@[simp] theorem State.copyLive_cores (s : State) (gs : List Nat) : (s.copyLive path page k gs).cores = s.cores :=
  State.eachOf_takeStaged_cores _ s

theorem State.copyLive_wf {s : State} (hs : RegFile.wf s.regs = true) (gs : List Nat) :
    RegFile.wf (s.copyLive path page k gs).regs = true := State.eachOf_takeStaged_wf _ hs

/-- Words at other offsets read as before. -/
theorem State.word_eachOf_takeStaged {l : List Nat} (hl : ∀ x ∈ l, x < 2 ^ 12) {off : Nat} (ho : off < 2 ^ 12) (hn : off ∉ l)
    (s : State) (q i : Nat) : (eachOf l (fun off s => s.takeStaged path page k off) s).word q i off = s.word q i off := by
  induction l generalizing s with
  | nil => rfl
  | cons x r ih =>
    obtain ⟨hx, hr⟩ := List.forall_mem_cons.1 hl
    rw [List.mem_cons, not_or] at hn
    exact (ih hr hn.2 _).trans (Sparse.get_put_ne _ _ _ _ (regKey_ne_of_off ho hx hn.1))

/-- Every register of the list takes its staged fields when a selector outside the list alone decides the entry that they all
belong to. -/
theorem State.getI_eachOf_takeStaged {l : List Nat} (hl : ∀ x ∈ l, x < 2 ^ 12) {sel i : Nat} (hsel : sel < 2 ^ 12)
    (hn : sel ∉ l)
    {s : State} (hs : RegFile.wf s.regs = true)
    (hi : ∀ u : State, u.word page 0 sel = s.word page 0 sel → ∀ off ∈ l, u.entryIdx path page off = i)
    {f : Fld} (hf : f.off ∈ l) (hm : f.mask &&& rwsMask k f.off = f.mask) :
    (eachOf l (fun off s => s.takeStaged path page k off) s).getI page i f = f.of (s.stagedWord page f.off) := by
  induction l generalizing s with
  | nil => exact absurd hf List.not_mem_nil
  | cons x r ih =>
    obtain ⟨hx, hr⟩ := List.forall_mem_cons.1 hl
    rw [List.mem_cons, not_or] at hn
    by_cases hfr : f.off ∈ r
    · have hkeep : (s.takeStaged path page k x).word page 0 sel = s.word page 0 sel :=
        Sparse.get_put_ne _ _ _ _ (regKey_ne_of_off hsel hx hn.1)
      exact ih hr hn.2 (State.wf_setWord hs _ _ _ _) (fun u hu off ho => hi u (hu.trans hkeep) off (.tail _ ho)) hfr
    · obtain rfl : f.off = x := (List.mem_cons.1 hf).resolve_right hfr
      change f.of ((eachOf r _ (s.takeStaged path page k f.off)).word page i f.off) = _
      rw [State.word_eachOf_takeStaged hr hx hfr, State.takeStaged, State.word_setWord hs, hi s rfl _ (.head _), if_pos rfl,
        Fld.of_write_under_mask hm]

/-! A COMMIT that is accepted (R519, R520). -/

/-- The state that an accepted COMMIT of one group leaves. -/
def State.appliedOne (s : State) (path : Path) (page : Nat) (k : Kind) (g : Nat) : State :=
  let u := s.atCommit path page
  let live := (u.copyLive path page k ([g].filter fun g => !ownCopy k g)).untouch page k [g]
  (live.applyGroup u path page k g).committed page .ok g

theorem State.word_atCommit (s : State) {off : Nat} (ho : off < 2 ^ 12) (h1 : off ≠ PAGE_STATUS_LAST_PATH.off)
    (h2 : off ≠ COMMIT_STATUS_SEQ.off) (q i : Nat) : (s.atCommit path page).word q i off = s.word q i off :=
  calc (s.atCommit path page).word q i off
      = (s.lastPath page path).word q i off := State.word_setI_of_off (by decide) ho h2 _ _ _ _ _
    _ = (s.set page PAGE_STATUS_LAST_PATH path.code).word q i off :=
      State.word_setI_of_off (f := PAGE_STATUS_LAST_VF) (by decide) ho h1 _ _ _ _ _
    _ = s.word q i off := State.word_setI_of_off (by decide) ho h1 _ _ _ _ _

theorem State.atCommit_wf {s : State} (hs : RegFile.wf s.regs = true) : RegFile.wf (s.atCommit path page).regs = true :=
  State.wf_set (State.wf_set (State.wf_set hs _ _ _) _ _ _) _ _ _

/-- What the header records of a COMMIT leaves PAGE_STATUS.READY. -/
theorem State.ready_atCommit {s : State} (hs : RegFile.wf s.regs = true) :
    (s.atCommit path page).flag page PAGE_STATUS_READY = s.flag page PAGE_STATUS_READY := by
  have hread : (s.atCommit path page).get page PAGE_STATUS_READY = s.get page PAGE_STATUS_READY :=
    calc (s.atCommit path page).get page PAGE_STATUS_READY
        = (s.lastPath page path).get page PAGE_STATUS_READY :=
          State.getI_setI_of_off (by decide) (by decide) (by decide) _ _ _ _ _
      _ = (s.set page PAGE_STATUS_LAST_PATH path.code).get page PAGE_STATUS_READY :=
          State.get_set_disjoint (State.wf_set hs _ _ _) _ _ _ _ rfl (by decide)
      _ = s.get page PAGE_STATUS_READY := State.get_set_disjoint hs _ _ _ _ rfl (by decide)
  rw [State.flag, hread, State.flag]

theorem State.writeAccess_of_takesWrite {s : State} {off : Nat} (h : s.takesWrite path page off) (f : State → State) :
    s.writeAccess path page off 15 f = f (s.lastPath page path) := by
  obtain ⟨hreach, hreset, k, hk, hfields, hvf⟩ := h
  unfold State.writeAccess
  rw [if_neg (by simp [hreach]), hk]
  simp only [hreset, List.isEmpty_iff, hfields, Bool.false_eq_true, if_false, Nat.reduceMod, ne_eq, not_true_eq_false]
  cases path with
  | vf n => exact if_pos hvf
  | _ => rfl

theorem State.apply_of_commitsOne {s : State} {g : Nat} (h : s.commitsOne path page g) (hk : kindOf page = some k) :
    s.apply path page = s.appliedOne path page k g := by
  obtain ⟨hcan, htakes, hready, k', hk', htouched, hcheck⟩ := h
  obtain rfl : k' = k := Option.some.inj (hk'.symm.trans hk)
  have hgroups : ((pathGroups k' path).filter fun x => (s.atCommit path page).isTouched page x) = [g] := htouched
  have hready' := (State.ready_atCommit (path := path) (page := page) (State.canonical_regs hcan)).trans hready
  have hcommit : (s.lastPath page path).commitWrite path page k' 1 = (s.atCommit path page).commitApply path page k' [g] := by
    rw [← hgroups]
    exact if_neg (fun hf => Bool.noConfusion (hf.symm.trans hready'))
  unfold State.apply State.put State.registerWrite
  rw [State.writeAccess_of_takesWrite htakes, hk]
  refine hcommit.trans ?_
  unfold State.commitApply State.appliedOne
  simp [hcheck, eachOf]

/-! What the report of a COMMIT leaves. -/

theorem State.getI_committed_ne (s : State) (st : Status) (g : Nat) {f : Fld} (ho : f.off < 2 ^ 12)
    (h : f.off ≠ COMMIT_STATUS_STATUS.off) (q i : Nat) : (s.committed page st g).getI q i f = s.getI q i f :=
  (State.getI_setI_of_off (f := COMMIT_STATUS_GROUP) (by decide) ho h _ _ _ _ _).trans
    (State.getI_setI_of_off (by decide) ho h _ _ _ _ _)

theorem State.committed_ok_committedOne {s : State} (hs : RegFile.wf s.regs = true) {g : Nat} (hg : g < 16)
    (ht : s.isTouched page g = false) : (s.committed page .ok g).committedOne page g := by
  have hst : RegFile.wf (s.setStatus page COMMIT_STATUS_STATUS .ok).regs = true := State.wf_set hs _ _ _
  refine ⟨?_, ?_, ht⟩
  · calc (s.committed page .ok g).get page COMMIT_STATUS_STATUS
        = (s.setStatus page COMMIT_STATUS_STATUS .ok).get page COMMIT_STATUS_STATUS :=
          State.get_set_disjoint hst _ _ _ _ rfl (by decide)
      _ = Status.ok.code := State.get_set_self hs _ _ _ (by decide)
  · exact (State.get_set_self hst _ _ _ (by decide)).trans (Nat.mod_eq_of_lt hg)

theorem State.isTouched_untouch (s : State) (g : Nat) : (s.untouch page k [g]).isTouched page g = false := by
  simp [State.isTouched, State.untouch]

end

/-! SCALE COMMIT (R263, R275). -/

theorem State.history_of_find?_eq_none {s : State} {c : CoreId} {slot : Nat}
    (h : s.scale.find? (fun h => h.core == c && h.slot == slot) = none) : s.history c slot = [] := by
  rw [State.history, h]

section
variable {s : State} (hs : RegFile.wf s.regs = true) (c : CoreId) (slot : Nat) (cfg : Word)

theorem State.getI_scaleApply_ne {f : Fld} (q i : Nat) (ho : f.off < 2 ^ 12)
    (h : f.off ∉ [SCALE_PENDING_AMAX.off, SCALE_VALUE_SCALE.off, SCALE_NONFINITE_COUNT.off]) :
    (s.scaleApply c slot cfg).getI q i f = (s.setWord Page.scale (scaleIdx c slot) SCALE_CFG_LEN.off cfg).getI q i f := by
  simp only [List.mem_cons, List.not_mem_nil, or_false, not_or] at h
  obtain ⟨hp, hv, hn⟩ := h
  exact (State.getI_setI_of_off (by decide) ho hn _ _ _ _ _).trans
    ((State.getI_setI_of_off (by decide) ho hv _ _ _ _ _).trans (State.getI_setI_of_off (by decide) ho hp _ _ _ _ _))

include hs

theorem State.scaleApply_wf : RegFile.wf (s.scaleApply c slot cfg).regs = true :=
  State.wf_setI (State.wf_setI (State.wf_setI (State.wf_setWord hs _ _ _ _) _ _ _ _) _ _ _ _) _ _ _ _

theorem State.getI_scaleApply_cfg {f : Fld} (hf : f.off = SCALE_CFG_LEN.off) :
    (s.scaleApply c slot cfg).getI Page.scale (scaleIdx c slot) f = f.of cfg := by
  rw [State.getI_scaleApply_ne _ _ _ _ _ (by rw [hf]; decide) (by rw [hf]; decide), State.getI, hf, State.word_setWord hs,
    if_pos rfl]

/-- The slot starts afresh. -/
theorem State.scaleApply_fresh : let t := s.scaleApply c slot cfg
    t.getI Page.scale (scaleIdx c slot) SCALE_VALUE_SCALE = 0x3F800000 ∧
      t.getI Page.scale (scaleIdx c slot) SCALE_PENDING_AMAX = 0 ∧
      t.getI Page.scale (scaleIdx c slot) SCALE_NONFINITE_COUNT = 0 ∧ t.history c slot = [] := by
  have h1 := State.wf_setWord hs Page.scale (scaleIdx c slot) SCALE_CFG_LEN.off cfg
  have h2 := State.wf_setI h1 Page.scale (scaleIdx c slot) SCALE_PENDING_AMAX 0
  have h3 := State.wf_setI h2 Page.scale (scaleIdx c slot) SCALE_VALUE_SCALE 0x3F800000
  refine ⟨?scale, ?amax, State.getI_setI_self h3 _ _ _ _ (by decide), ?hist⟩
  case scale =>
    exact (State.getI_setI_of_off (by decide) (by decide) (by decide) _ _ _ _ _).trans
      (State.getI_setI_self h2 _ _ _ _ (by decide))
  case amax =>
    exact (State.getI_setI_of_off (by decide) (by decide) (by decide) _ _ _ _ _).trans
      ((State.getI_setI_of_off (by decide) (by decide) (by decide) _ _ _ _ _).trans
        (State.getI_setI_self h1 _ _ _ _ (by decide)))
  case hist =>
    have hnone : (s.scale.filter fun x : ScaleHist => !(x.core == c && x.slot == slot)).find?
        (fun h => h.core == c && h.slot == slot) = none := by
      rw [List.find?_eq_none]
      intro x hx
      simpa only [Bool.not_eq_true', Bool.not_eq_true] using (List.mem_filter.1 hx).2
    exact State.history_of_find?_eq_none hnone

end

theorem State.selScale_congr {s t : State}
    (h : t.word Page.scale 0 SCALE_SEL_CORE.off = s.word Page.scale 0 SCALE_SEL_CORE.off) : t.selScale = s.selScale := by
  simp only [State.selScale, State.get, State.getI, h]

/-- What an accepted SCALE COMMIT leaves: the slot's state, and the report. -/
theorem State.appliedOne_scale (s : State) (path : Path) : ∃ u : State, u.cores = s.cores ∧
    (RegFile.wf s.regs = true → RegFile.wf u.regs = true) ∧ u.isTouched Page.scale 0 = false ∧
    s.appliedOne path Page.scale .scale 0 = (u.scaleApply s.selScale.1 s.selScale.2
      (s.stagedWord Page.scale 0x044 &&& rwsMask .scale 0x044)).committed Page.scale .ok 0 := by
  have hsel : ((s.atCommit path Page.scale).untouch Page.scale .scale [0]).selScale = s.selScale :=
    State.selScale_congr (State.word_atCommit s (by decide) (by decide) (by decide) _ _)
  refine ⟨(s.atCommit path Page.scale).untouch Page.scale .scale [0], rfl, State.atCommit_wf, State.isTouched_untouch _ _, ?_⟩
  rw [← hsel]
  rfl

/-! OPTIM COMMIT (R276). -/

/-- The registers of a set. -/
def optimOffs : List Nat := groupOffs (Kind.optim.groups.getD 0 (0, 0))

theorem State.entryIdx_optim (s : State) (path : Path) :
    ∀ off ∈ optimOffs, s.entryIdx path Page.optim off = s.get Page.optim OPTIM_SEL_SET := by
  have hin : ∀ off ∈ optimOffs, 0x044 ≤ off ∧ off ≤ 0x05C := by decide
  exact fun off ho => if_pos (hin off ho)

/-- What an accepted OPTIM COMMIT leaves: the live copies, and the report. -/
theorem State.appliedOne_optim (s : State) (path : Path) : s.appliedOne path Page.optim .optim 0 =
    (((s.atCommit path Page.optim).copyLive path Page.optim .optim [0]).untouch Page.optim .optim [0]).committed Page.optim .ok 0 :=
  rfl

theorem State.getI_copyLive_optim {s : State} (hs : RegFile.wf s.regs = true) (path : Path) {f : Fld}
    (hf : f.off ∈ optimOffs) (hm : f.mask &&& rwsMask .optim f.off = f.mask) :
    (s.copyLive path Page.optim .optim [0]).getI Page.optim (s.get Page.optim OPTIM_SEL_SET) f =
      f.of (s.stagedWord Page.optim f.off) := by
  have hsel (u : State) (hu : u.word Page.optim 0 OPTIM_SEL_SET.off = s.word Page.optim 0 OPTIM_SEL_SET.off) :
      u.get Page.optim OPTIM_SEL_SET = s.get Page.optim OPTIM_SEL_SET := congrArg OPTIM_SEL_SET.of hu
  rw [State.copyLive_one]
  exact State.getI_eachOf_takeStaged (sel := OPTIM_SEL_SET.off) (by decide) (by decide) (by decide) hs
    (fun u hu off ho => (u.entryIdx_optim path off ho).trans (hsel u hu)) hf hm

/-! The statement. -/

theorem scaleCommit_spec {path : Path} {s : State} (h : s.commitsOne path Page.scale 0) :
    ∃ t, exec (.scaleCommit path) s = .next t ∧ t.committedOne Page.scale 0 ∧
      (∀ f ∈ [SCALE_CFG_LEN, SCALE_CFG_MARGIN, SCALE_CFG_FMT, SCALE_CFG_POW2, SCALE_CFG_VALID],
        t.getI Page.scale (scaleIdx s.selScale.1 s.selScale.2) f = f.of (s.stagedWord Page.scale 0x044)) ∧
      t.scaleOf s.selScale.1 s.selScale.2 = 0x3F800000 ∧
      t.getI Page.scale (scaleIdx s.selScale.1 s.selScale.2) SCALE_PENDING_AMAX = 0 ∧
      t.getI Page.scale (scaleIdx s.selScale.1 s.selScale.2) SCALE_NONFINITE_COUNT = 0 ∧
      t.history s.selScale.1 s.selScale.2 = [] ∧ t.cores = s.cores := by
  have hs := State.canonical_regs h.1
  obtain ⟨u, hcores, hwf, htouched, happlied⟩ := s.appliedOne_scale path
  obtain ⟨hscale, hamax, hcount, hhist⟩ := State.scaleApply_fresh (hwf hs) s.selScale.1 s.selScale.2
    (s.stagedWord Page.scale 0x044 &&& rwsMask .scale 0x044)
  refine ⟨_, congrArg Host.Outcome.next ((State.apply_of_commitsOne h rfl).trans happlied), ?_, fun f hf => ?_, ?_,
    (State.getI_committed_ne _ _ _ (by decide) (by decide) _ _).trans hamax,
    (State.getI_committed_ne _ _ _ (by decide) (by decide) _ _).trans hcount, hhist, hcores⟩
  · exact State.committed_ok_committedOne (State.scaleApply_wf (hwf hs) _ _ _) (by decide) htouched
  · have hcfg : ∀ f ∈ [SCALE_CFG_LEN, SCALE_CFG_MARGIN, SCALE_CFG_FMT, SCALE_CFG_POW2, SCALE_CFG_VALID],
        f.off = SCALE_CFG_LEN.off ∧ f.mask &&& rwsMask .scale 0x044 = f.mask := by decide
    obtain ⟨hoff, hmask⟩ := hcfg f hf
    rw [State.getI_committed_ne _ _ _ (by rw [hoff]; decide) (by rw [hoff]; decide), State.getI_scaleApply_cfg (hwf hs) _ _ _ hoff]
    simpa using Fld.of_write_under_mask hmask 0 (s.stagedWord Page.scale 0x044)
  · exact congrArg (BitVec.ofNat 32) ((State.getI_committed_ne _ _ _ (by decide) (by decide) _ _).trans hscale)

theorem optimCommit_spec {path : Path} {s : State} (h : s.commitsOne path Page.optim 0) :
    ∃ t, exec (.optimCommit path) s = .next t ∧ t.committedOne Page.optim 0 ∧ t.cores = s.cores ∧
      ∀ f : Fld, f.off ∈ optimOffs → f.mask &&& rwsMask .optim f.off = f.mask →
        t.getI Page.optim (s.get Page.optim OPTIM_SEL_SET) f = f.of (s.stagedWord Page.optim f.off) := by
  have hs : RegFile.wf (s.atCommit path Page.optim).regs = true := State.atCommit_wf (State.canonical_regs h.1)
  have hcopied : RegFile.wf
      (((s.atCommit path Page.optim).copyLive path Page.optim .optim [0]).untouch Page.optim .optim [0]).regs = true :=
    State.copyLive_wf hs [0]
  have hcores : ((s.atCommit path Page.optim).copyLive path Page.optim .optim [0]).cores = s.cores := State.copyLive_cores _ _
  have hsel : (s.atCommit path Page.optim).get Page.optim OPTIM_SEL_SET = s.get Page.optim OPTIM_SEL_SET :=
    congrArg OPTIM_SEL_SET.of (State.word_atCommit s (by decide) (by decide) (by decide) _ _)
  refine ⟨_, congrArg Host.Outcome.next ((State.apply_of_commitsOne h rfl).trans (s.appliedOne_optim path)),
    State.committed_ok_committedOne hcopied (by decide) (State.isTouched_untouch _ _), hcores, fun f hf hm => ?_⟩
  have hrange : ∀ off ∈ optimOffs, off < 2 ^ 12 ∧ off ≠ COMMIT_STATUS_STATUS.off := by decide
  obtain ⟨h12, hne⟩ := hrange f.off hf
  rw [State.getI_committed_ne _ _ _ h12 hne, ← hsel]
  exact State.getI_copyLive_optim hs path hf hm

/-- Settles O37: each commit leaves the state of `State.appliedOne`, whose slot or set is read field by field. -/
theorem scaleAndOptimCommits : Obligations.ScaleAndOptimCommits := by
  unfold Obligations.ScaleAndOptimCommits
  intro path s ps po
  refine ⟨scaleCommit_spec, fun h => ?_⟩
  obtain ⟨t, hexec, hdone, hcores, hfields⟩ := optimCommit_spec h
  have hset : ∀ f ∈ [OPTIM_LR_LR, OPTIM_BETA1_BETA1, OPTIM_BETA2_BETA2, OPTIM_EPS_EPS, OPTIM_WD_WD, OPTIM_GRAD_MUL_GRAD_MUL,
      OPTIM_MODE_MASTER, OPTIM_MODE_OUT, OPTIM_MODE_SR, OPTIM_MODE_SCALE_SLOT, OPTIM_MODE_VALID],
      f.off ∈ optimOffs ∧ f.mask &&& rwsMask .optim f.off = f.mask := by decide
  exact ⟨t, hexec, hdone, hcores, fun f hf => hfields f (hset f hf).1 (hset f hf).2⟩

end Sys2Proof.Machine
end

section
/-!
Lint (17_lint.md R599-R629): what the arbiter does with an event, a mirror from its trigger to its end, reading, clearing, LASTGASP
and the trigger table. A record is put in one place of the store or the ring, and the registers beside it are words at different
keys, so what each command leaves follows word by word.
-/
namespace Sys2Proof.Machine

open Reg

/-! Fields of a page after writes of other registers. -/

section
variable {s : State} {q : Nat} {g : Fld}

theorem State.get_add_ne (p : Nat) (f : Fld) (n : Nat) (h : regKey q 0 g.off ≠ regKey p 0 f.off) :
    (s.add p f n).get q g = s.get q g := State.get_set_ne p f _ q g h

theorem State.get_updLint (f : Lint → Lint) : (s.updLint f).get q g = s.get q g := rfl

theorem State.get_setStatus_ne (p : Nat) (f : Fld) (st : Status) (h : regKey q 0 g.off ≠ regKey p 0 f.off) :
    (s.setStatus p f st).get q g = s.get q g := State.get_set_ne p f _ q g h

theorem State.get_raise_ne (p : Nat) (e : Ev) (org : BitVec 16) (args : List Word) (h : regKey q 0 g.off ∉ raiseKeys p) :
    (s.raise p e org args).get q g = s.get q g := congrArg g.of (State.raise_word s p e org args q 0 g.off h)

theorem State.get_lastPath_ne (p : Nat) (path : Path) (h : regKey q 0 g.off ≠ regKey p 0 PAGE_STATUS_LAST_PATH.off) :
    (s.lastPath p path).get q g = s.get q g :=
  (State.get_set_ne p PAGE_STATUS_LAST_VF _ q g h).trans (State.get_set_ne p _ _ q g h)

theorem State.lastPath_wf (h : RegFile.wf s.regs = true) (p : Nat) (path : Path) :
    RegFile.wf (s.lastPath p path).regs = true := State.wf_set (State.wf_set h _ _ _) _ _ _

theorem State.get_setStatus_self (h : RegFile.wf s.regs = true) (p : Nat) {f : Fld} (hf : f.lsb + f.width ≤ 32)
    (hw : f.width = 8) (st : Status) : (s.setStatus p f st).get p f = st.code := by
  have hst : st.code < 2 ^ f.width := by
    rw [hw]
    cases st <;> decide
  exact (State.get_set_self h p f _ hf).trans (Nat.mod_eq_of_lt hst)

theorem State.flag_set_self (h : RegFile.wf s.regs = true) (p : Nat) {f : Fld} (hf : f.lsb + f.width ≤ 32) (hw : f.width = 1)
    {v : Nat} (hv : v < 2) : (s.set p f v).flag p f = (v != 0) := by
  rw [State.flag, State.get_set_self h p f _ hf, hw]
  exact congrArg (· != 0) (Nat.mod_eq_of_lt hv)

end

/-- What a counter of the LINT page reads after one more count. -/
def State.countedOnce (s : State) (f : Fld) : Nat := min (s.get Page.lint f + 1) (2 ^ f.width - 1)

/-- A write of a register of a page that reaches it does what the register does, once the header has recorded its path. -/
theorem State.writeReg_of_takesWrite {s : State} {path : Path} {page : Nat} {r : Fld} (h : s.takesWrite path page r.off)
    (f : State → State) : s.writeReg path page r f = f (s.lastPath page path) := State.writeAccess_of_takesWrite h f

theorem eachOf_range_succ (n : Nat) (f : Nat → State → State) (s : State) :
    eachOf (List.range (n + 1)) f s = f n (eachOf (List.range n) f s) := by
  simp only [eachOf, List.range_succ, List.foldl_append, List.foldl_cons, List.foldl_nil]

theorem eachOf_keeps {α γ : Type} {f : α → State → State} (g : State → γ) (h : ∀ x s, g (f x s) = g s) (l : List α) (s : State) :
    g (eachOf l f s) = g s := foldl_keeps (f := fun s x => f x s) g (fun s x => h x s) l s

/-! Sequence numbers (R602). -/

theorem State.lintSeq_eq (s : State) :
    s.lintSeq = s.get Page.lint LINT_SEQ_LO_SEQ + 2 ^ 32 * s.get Page.lint LINT_SEQ_HI_SEQ := rfl

theorem State.lintSeq_congr {s t : State} (hlo : t.get Page.lint LINT_SEQ_LO_SEQ = s.get Page.lint LINT_SEQ_LO_SEQ)
    (hhi : t.get Page.lint LINT_SEQ_HI_SEQ = s.get Page.lint LINT_SEQ_HI_SEQ) : t.lintSeq = s.lintSeq := by
  rw [State.lintSeq_eq, State.lintSeq_eq, hlo, hhi]

theorem State.lintSeq_set_ne (s : State) (p : Nat) (f : Fld) (v : Nat)
    (hlo : regKey Page.lint 0 LINT_SEQ_LO_SEQ.off ≠ regKey p 0 f.off)
    (hhi : regKey Page.lint 0 LINT_SEQ_HI_SEQ.off ≠ regKey p 0 f.off) : (s.set p f v).lintSeq = s.lintSeq :=
  State.lintSeq_congr (State.get_set_ne p f v _ _ hlo) (State.get_set_ne p f v _ _ hhi)

theorem State.lintSeq_lintDrop (s : State) : s.lintDrop.lintSeq = s.lintSeq :=
  State.lintSeq_set_ne s Page.lint LINT_DROPPED_COUNT _ (by decide) (by decide)

theorem State.setLintSeq_wf {s : State} (hs : RegFile.wf s.regs = true) (n : Nat) : RegFile.wf (s.setLintSeq n).regs = true :=
  State.wf_set (State.wf_set hs _ _ _) _ _ _

theorem State.lintSeq_setLintSeq {s : State} (hs : RegFile.wf s.regs = true) {n : Nat} (hn : n < 2 ^ 48) :
    (s.setLintSeq n).lintSeq = n := by
  have hlo : (s.setLintSeq n).get Page.lint LINT_SEQ_LO_SEQ = n % 2 ^ 32 :=
    (State.get_set_ne Page.lint LINT_SEQ_HI_SEQ _ _ _ (by decide)).trans (State.get_set_self hs _ _ _ (by decide))
  have hhi : (s.setLintSeq n).get Page.lint LINT_SEQ_HI_SEQ = n / 2 ^ 32 % 2 ^ 16 :=
    State.get_set_self (State.wf_set hs _ _ _) _ _ _ (by decide)
  rw [State.lintSeq_eq, hlo, hhi]
  omega

theorem State.get_setLintSeq_ne {s : State} {q : Nat} {g : Fld} (n : Nat)
    (hlo : regKey q 0 g.off ≠ regKey Page.lint 0 LINT_SEQ_LO_SEQ.off)
    (hhi : regKey q 0 g.off ≠ regKey Page.lint 0 LINT_SEQ_HI_SEQ.off) : (s.setLintSeq n).get q g = s.get q g :=
  (State.get_set_ne _ _ _ _ _ hhi).trans (State.get_set_ne _ _ _ _ _ hlo)

/-- The place of a new record follows from the mode, the records and the slots mapped out. -/
theorem State.lintPlace_congr {s t : State} (hmode : t.degraded = s.degraded) (hslots : t.lint.slots = s.lint.slots)
    (hring : t.lint.ring = s.lint.ring) (hbad : t.lint.bad = s.lint.bad) (sev : Nat) : t.lintPlace sev = s.lintPlace sev := by
  unfold State.lintPlace
  rw [hmode, hslots, hring, hbad]

theorem State.lintPlace_setLintSeq (s : State) (n sev : Nat) : (s.setLintSeq n).lintPlace sev = s.lintPlace sev := by
  have hmode : (s.setLintSeq n).degraded = s.degraded := by
    rw [State.degraded, State.flag, State.get_setLintSeq_ne n (by decide) (by decide), State.degraded, State.flag]
  exact State.lintPlace_congr hmode rfl rfl rfl sev

/-! Records in their places. -/

theorem Lint.bufs_putRec (l : Lint) (a : RecAt) (r : Rec) : (l.putRec a r).bufs = l.bufs := by
  cases a <;> rfl

theorem mem_assocSet {l : List (Nat × Rec)} {k : Nat} {v : Rec} {e : Nat × Rec} (h : e ∈ assocSet l k v) : e ∈ l ∨ e = (k, v) := by
  unfold assocSet at h
  split at h
  · obtain ⟨x, hx, rfl⟩ := List.mem_map.1 h
    split
    · exact .inr rfl
    · exact .inl hx
  · simpa using h

theorem Lint.mem_held {l : Lint} {e : RecAt × Rec} : e ∈ l.held ↔
    (∃ x ∈ l.slots, (.slot x.1, x.2) = e) ∨ ∃ x ∈ l.ring, (.entry x.1, x.2) = e := by
  rw [Lint.held, List.mem_append, List.mem_map, List.mem_map]

/-- A record held after one was put is that one or was held before. -/
theorem Lint.mem_held_putRec {l : Lint} {a : RecAt} {r : Rec} {e : RecAt × Rec} (h : e ∈ (l.putRec a r).held) :
    e ∈ l.held ∨ e.2 = r := by
  rw [Lint.mem_held] at h ⊢
  cases a with
  | slot k =>
    rcases h with ⟨x, hx, rfl⟩ | h
    · rcases mem_assocSet hx with hx | rfl
      · exact .inl (.inl ⟨x, hx, rfl⟩)
      · exact .inr rfl
    · exact .inl (.inr h)
  | entry k =>
    rcases h with h | ⟨x, hx, rfl⟩
    · exact .inl (.inl h)
    · rcases mem_assocSet hx with hx | rfl
      · exact .inl (.inr ⟨x, hx, rfl⟩)
      · exact .inr rfl

/-! A new record (R602-R612). -/

section
variable {s : State} {x : Event}

theorem State.lintWrite_of_none (h : s.lintPlace x.sev = none) : s.lintWrite x = (s.setLintSeq (s.lintSeq + 1)).lintDrop := by
  rw [← State.lintPlace_setLintSeq s (s.lintSeq + 1)] at h
  unfold State.lintWrite
  simp only [h]

theorem State.lintWrite_of_some {a : RecAt} (h : s.lintPlace x.sev = some a) :
    s.lintWrite x = (s.setLintSeq (s.lintSeq + 1)).updLint fun l => l.putRec a (s.lintRec x (s.lintSeq + 1)) := by
  rw [← State.lintPlace_setLintSeq s (s.lintSeq + 1)] at h
  unfold State.lintWrite
  simp only [h]

theorem State.lintWrite_wf (hs : RegFile.wf s.regs = true) : RegFile.wf (s.lintWrite x).regs = true := by
  cases h : s.lintPlace x.sev with
  | none =>
    rw [State.lintWrite_of_none h]
    exact State.wf_set (State.setLintSeq_wf hs _) _ _ _
  | some a =>
    rw [State.lintWrite_of_some h]
    exact State.setLintSeq_wf hs _

theorem State.lintSeq_lintWrite (hs : RegFile.wf s.regs = true) (h48 : s.lintSeq + 1 < 2 ^ 48) :
    (s.lintWrite x).lintSeq = s.lintSeq + 1 := by
  have hseq := State.lintSeq_setLintSeq hs h48
  cases h : s.lintPlace x.sev with
  | none => rw [State.lintWrite_of_none h, State.lintSeq_lintDrop, hseq]
  | some a =>
    rw [State.lintWrite_of_some h]
    exact hseq

theorem State.bufs_lintWrite : (s.lintWrite x).lint.bufs = s.lint.bufs := by
  cases h : s.lintPlace x.sev with
  | none =>
    rw [State.lintWrite_of_none h]
    rfl
  | some a =>
    rw [State.lintWrite_of_some h]
    exact Lint.bufs_putRec _ _ _

theorem State.seq_lintRec (h48 : s.lintSeq + 1 < 2 ^ 48) : (s.lintRec x (s.lintSeq + 1)).seq.toNat = s.lintSeq + 1 :=
  Nat.mod_eq_of_lt h48

/-- A record held after an event took a SEQ has that SEQ or was held before. -/
theorem State.mem_held_lintWrite (h48 : s.lintSeq + 1 < 2 ^ 48) {e : RecAt × Rec} (he : e ∈ (s.lintWrite x).lint.held) :
    e ∈ s.lint.held ∨ e.2.seq.toNat = s.lintSeq + 1 := by
  cases h : s.lintPlace x.sev with
  | none =>
    rw [State.lintWrite_of_none h] at he
    exact .inl he
  | some a =>
    rw [State.lintWrite_of_some h] at he
    rcases Lint.mem_held_putRec he with he | he
    · exact .inl he
    · exact .inr (he ▸ State.seq_lintRec h48)

theorem State.lintNew_eq_lintWrite (hex : s.flag Page.lint LINT_MODE_SEQ_EXHAUSTED = false)
    (hseq : s.lintSeq + 1 < 2 ^ 48 - 1) : s.lintNew x = s.lintWrite x := by
  unfold State.lintNew
  rw [if_neg (by simp [hex]), if_neg (Nat.ne_of_lt hseq)]

end

/-- An announced event writes at most the words that a raised one may. -/
theorem State.announce_frame (s : State) (e : Ev) : EventFrame (raiseKeys Page.lint) s (s.announce e) ∧
    (s.announce e).lint = s.lint := by
  have hfatal (u : State) : EventFrame (raiseKeys Page.lint) u (if e.sev = 5 then u.set Page.chip CHIP_STATUS_FATAL_SEEN 1 else u) ∧
      (if e.sev = 5 then u.set Page.chip CHIP_STATUS_FATAL_SEEN 1 else u).lint = u.lint := by
    split
    · exact ⟨EventFrame.set _ _ _ _ (by decide), rfl⟩
    · exact ⟨EventFrame.refl _ _, rfl⟩
  have halert (u : State) : EventFrame (raiseKeys Page.lint) u (u.alert Page.lint e) ∧ (u.alert Page.lint e).lint = u.lint := by
    unfold State.alert
    split
    · exact ⟨(EventFrame.set _ _ _ _ (by decide)).trans
        ((EventFrame.set _ _ _ _ (by decide)).trans (EventFrame.setWord _ _ _ _ _ (by decide))), rfl⟩
    · exact ⟨EventFrame.refl _ _, rfl⟩
  have hlatch : EventFrame (raiseKeys Page.lint) s (s.latch Page.lint e.sev) := EventFrame.setWord _ _ _ _ _ (by decide)
  exact ⟨hlatch.trans ((hfatal _).1.trans (halert _).1), (halert _).2.trans (hfatal _).2⟩

section
variable (s : State) (e : Ev)

theorem State.announce_lint : (s.announce e).lint = s.lint := (s.announce_frame e).2

theorem State.announce_wf (h : RegFile.wf s.regs = true) : RegFile.wf (s.announce e).regs = true := (s.announce_frame e).1.2.1 h

theorem State.get_announce_ne {q : Nat} {g : Fld} (h : regKey q 0 g.off ∉ raiseKeys Page.lint) :
    (s.announce e).get q g = s.get q g := congrArg g.of ((s.announce_frame e).1.2.2 q 0 g.off h)

theorem State.lintSeq_announce : (s.announce e).lintSeq = s.lintSeq :=
  State.lintSeq_congr (State.get_announce_ne s e (by decide)) (State.get_announce_ne s e (by decide))

end

theorem State.bufs_lintNew (s : State) (x : Event) : (s.lintNew x).lint.bufs = s.lint.bufs := by
  unfold State.lintNew
  split
  · rfl
  · split
    · exact State.bufs_lintWrite.trans (congrArg Lint.bufs (State.announce_lint _ _))
    · exact State.bufs_lintWrite

/-! The arbiter (R599, R607, R611, R621). -/

section
variable {s : State} {x : Event}

theorem State.lintTake_of_degraded (hd : s.degraded = true) (hx : x.sev < 4) : s.lintTake x = s.lintDrop := if_pos ⟨hd, hx⟩

theorem State.not_dropped (h : s.degraded = false ∨ 4 ≤ x.sev) : ¬ (s.degraded = true ∧ x.sev < 4) := by
  rintro ⟨hd, hx⟩
  rcases h with h | h
  · exact Bool.noConfusion (h.symm.trans hd)
  · omega

/-- An event that equals the most recent record merges into it. -/
theorem State.lintTake_again (h : s.degraded = false ∨ 4 ≤ x.sev) {a : RecAt} {y : Rec} (hl : s.lint.latest = some (a, y))
    (hy : y.event = x.id ∧ y.sev = x.sev ∧ y.origin = x.origin) :
    s.lintTake x = s.updLint fun l => l.putRec a (y.again s.weave.wt) := by
  unfold State.lintTake
  rw [if_neg (State.not_dropped h), hl]
  exact if_pos hy

/-- Any other needs a record of its own. -/
theorem State.lintTake_new (h : s.degraded = false ∨ 4 ≤ x.sev)
    (hl : ∀ a y, s.lint.latest = some (a, y) → ¬ (y.event = x.id ∧ y.sev = x.sev ∧ y.origin = x.origin)) :
    s.lintTake x = s.lintNew x := by
  unfold State.lintTake
  rw [if_neg (State.not_dropped h)]
  cases hm : s.lint.latest with
  | none => rfl
  | some m => exact if_neg (hl m.1 m.2 hm)

theorem State.bufs_lintTake (s : State) (x : Event) : (s.lintTake x).lint.bufs = s.lint.bufs := by
  unfold State.lintTake
  split
  · rfl
  · split
    · split
      · exact Lint.bufs_putRec _ _ _
      · exact State.bufs_lintNew _ _
    · exact State.bufs_lintNew _ _

end

/-- The state in which the arbiter has the oldest event of a page's buffer in hand; `r` are those left in the buffer. -/
def State.unbuffered (s : State) (page : Nat) (r : List Event) : State :=
  s.updLint fun l => { l with bufs := if r.isEmpty then assocDel l.bufs page else assocSet l.bufs page r }

theorem exec_lintAccept {page : BitVec 12} {x : Event} {r : List Event} {s : State}
    (h : assocGet s.lint.bufs page.toNat = some (x :: r)) :
    exec (.lintAccept page []) s = .next ((s.unbuffered page.toNat r).lintTake x) := by
  change execLintAccept page [] s = _
  unfold execLintAccept
  rw [h]
  rfl

/-- The buffer of a page holds the events `r`, oldest first. -/
def Lint.holds (l : Lint) (page : Nat) (r : List Event) : Prop := assocGet l.bufs page = if r = [] then none else some r

/-- Whatever becomes of the event, its buffer holds those after it. -/
theorem State.holds_lintTake (s : State) (page : Nat) (r : List Event) (x : Event) :
    ((s.unbuffered page r).lintTake x).lint.holds page r := by
  rw [Lint.holds, State.bufs_lintTake]
  change assocGet (if r.isEmpty then assocDel s.lint.bufs page else assocSet s.lint.bufs page r) page = _
  cases r with
  | nil => exact (assocGet_assocDel _ _ _).trans (if_pos rfl)
  | cons y r => exact (assocGet_assocSet _ _ _ _).trans (if_pos rfl)

theorem State.get_lintDrop_count {s : State} (hs : RegFile.wf s.regs = true) : s.lintDrop.get Page.lint LINT_DROPPED_COUNT =
    s.countedOnce LINT_DROPPED_COUNT := State.get_add_self hs _ _ _ (by decide)

theorem State.get_lintWrite_dropped {s : State} (hs : RegFile.wf s.regs = true) {x : Event} (h : s.lintPlace x.sev = none) :
    (s.lintWrite x).get Page.lint LINT_DROPPED_COUNT = s.countedOnce LINT_DROPPED_COUNT := by
  rw [State.lintWrite_of_none h, State.get_lintDrop_count (State.setLintSeq_wf hs _), State.countedOnce,
    State.get_setLintSeq_ne _ (by decide) (by decide), State.countedOnce]

/-- What the store reads after an event took a slot: its record there, every other slot as before. -/
theorem State.slots_lintWrite {s : State} {x : Event} {k : Nat} (h : s.lintPlace x.sev = some (.slot k)) (j : Nat) :
    assocGet (s.lintWrite x).lint.slots j = if j = k then some (s.lintRec x (s.lintSeq + 1)) else assocGet s.lint.slots j := by
  rw [State.lintWrite_of_some h]
  exact assocGet_assocSet s.lint.slots k j _

section
variable {page : BitVec 12} {x : Event} {r : List Event} {s : State} (hbuf : assocGet s.lint.bufs page.toNat = some (x :: r))
include hbuf

theorem lintAccept_of_lintTake {t : State} (h : (s.unbuffered page.toNat r).lintTake x = t) :
    exec (.lintAccept page []) s = .next t ∧ t.lint.holds page.toNat r := by
  subst h
  exact ⟨exec_lintAccept hbuf, State.holds_lintTake _ _ _ _⟩

theorem lintAccept_dropped (hs : RegFile.wf s.regs = true) (hd : s.degraded = true) (hx : x.sev < 4) :
    ∃ t, exec (.lintAccept page []) s = .next t ∧ t.lint.holds page.toNat r ∧
      t.get Page.lint LINT_DROPPED_COUNT = s.countedOnce LINT_DROPPED_COUNT ∧
      t.lint.slots = s.lint.slots ∧ t.lint.ring = s.lint.ring := by
  obtain ⟨hexec, hrest⟩ := lintAccept_of_lintTake hbuf (State.lintTake_of_degraded hd hx)
  exact ⟨_, hexec, hrest, State.get_lintDrop_count hs, rfl, rfl⟩

theorem lintAccept_merged (h : s.degraded = false ∨ 4 ≤ x.sev) (a : RecAt) (y : Rec) (hl : s.lint.latest = some (a, y))
    (hid : y.event = x.id) (hsev : y.sev = x.sev) (horg : y.origin = x.origin) :
    ∃ t, exec (.lintAccept page []) s = .next t ∧ t.lint.holds page.toNat r ∧
      t.regs = s.regs ∧ t.lint.slots = (s.lint.putRec a (y.again s.weave.wt)).slots ∧
      t.lint.ring = (s.lint.putRec a (y.again s.weave.wt)).ring := by
  obtain ⟨hexec, hrest⟩ :=
    lintAccept_of_lintTake hbuf (State.lintTake_again (s := s.unbuffered page.toNat r) h hl ⟨hid, hsev, horg⟩)
  refine ⟨_, hexec, hrest, rfl, ?_⟩
  cases a <;> exact ⟨rfl, rfl⟩

theorem lintAccept_recorded (hs : RegFile.wf s.regs = true) (h : s.degraded = false ∨ 4 ≤ x.sev)
    (hl : ∀ a y, s.lint.latest = some (a, y) → ¬ (y.event = x.id ∧ y.sev = x.sev ∧ y.origin = x.origin))
    (hex : s.flag Page.lint LINT_MODE_SEQ_EXHAUSTED = false) (hseq : s.lintSeq + 1 < 2 ^ 48 - 1) :
    ∃ t, exec (.lintAccept page []) s = .next t ∧ t.lint.holds page.toNat r ∧
      t.lintSeq = s.lintSeq + 1 ∧
      (s.lintPlace x.sev = none → t.get Page.lint LINT_DROPPED_COUNT = s.countedOnce LINT_DROPPED_COUNT ∧
        t.lint.slots = s.lint.slots ∧ t.lint.ring = s.lint.ring) ∧
      ∀ k, s.lintPlace x.sev = some (.slot k) → ∃ y, assocGet t.lint.slots k = some y ∧ y.seq.toNat = s.lintSeq + 1 ∧
        y.event = x.id ∧ y.sev = x.sev ∧ y.origin = x.origin ∧ y.args = x.args.take 8 ∧ y.rep = 0 ∧
        y.tFirst = s.weave.wt ∧ y.tLast = s.weave.wt ∧ ∀ j, j ≠ k → assocGet t.lint.slots j = assocGet s.lint.slots j := by
  let u := s.unbuffered page.toNat r
  have htake : u.lintTake x = u.lintWrite x :=
    (State.lintTake_new (s := u) h hl).trans (State.lintNew_eq_lintWrite (s := u) hex hseq)
  have h48 : u.lintSeq + 1 < 2 ^ 48 := Nat.lt_of_lt_of_le hseq (Nat.sub_le _ _)
  have hplace : u.lintPlace x.sev = s.lintPlace x.sev := State.lintPlace_congr (s := s) (t := u) rfl rfl rfl rfl x.sev
  obtain ⟨hexec, hrest⟩ := lintAccept_of_lintTake hbuf htake
  refine ⟨_, hexec, hrest, State.lintSeq_lintWrite (s := u) hs h48, fun hno => ?_, fun k hk => ?_⟩
  · rw [← hplace] at hno
    refine ⟨State.get_lintWrite_dropped (s := u) hs hno, ?_⟩
    rw [State.lintWrite_of_none hno]
    exact ⟨rfl, rfl⟩
  · rw [← hplace] at hk
    exact ⟨u.lintRec x (u.lintSeq + 1), (State.slots_lintWrite hk k).trans (if_pos rfl), State.seq_lintRec h48, rfl, rfl, rfl, rfl,
      rfl, rfl, rfl, fun j hj => (State.slots_lintWrite hk j).trans (if_neg hj)⟩

end

/-! Writes of the Shelf's blocks. -/

theorem State.commitBuffer_eq (s : State) : ∃ x : Tier, s.commitBuffer = { s with tier := x } ∧ x.shelf = s.tier.shelf := by
  unfold State.commitBuffer
  split
  · exact ⟨s.tier, rfl, rfl⟩
  · exact ⟨_, rfl, rfl⟩

/-- A mirror tile written changes the tier controller's state alone. -/
theorem State.mirrorTile_eq (s : State) (image i : Nat) (data : List Byte) :
    ∃ x : Tier, s.mirrorTile image i data = { s with tier := x } ∧
      x.shelf = assocSet s.tier.shelf (imageBlock image i) ⟨data, sealSide data [], false⟩ := by
  unfold State.mirrorTile State.shelfWrite
  split
  · exact ⟨_, rfl, rfl⟩
  · obtain ⟨x, hx, hshelf⟩ := s.commitBuffer_eq
    rw [hx, ← hshelf]
    exact ⟨_, rfl, rfl⟩

theorem State.mirrorTile_regs (s : State) (image i : Nat) (data : List Byte) : (s.mirrorTile image i data).regs = s.regs := by
  obtain ⟨_, h, _⟩ := s.mirrorTile_eq image i data
  rw [h]

theorem State.mirrorTile_lint (s : State) (image i : Nat) (data : List Byte) : (s.mirrorTile image i data).lint = s.lint := by
  obtain ⟨_, h, _⟩ := s.mirrorTile_eq image i data
  rw [h]

/-- What the Shelf reads after a mirror tile was written. -/
theorem State.shelf_mirrorTile (s : State) (image i : Nat) (data : List Byte) (j : Nat) :
    (assocGet (s.mirrorTile image i data).tier.shelf j).map (·.data) =
      if j = imageBlock image i then some data else (assocGet s.tier.shelf j).map (·.data) := by
  obtain ⟨x, h, hx⟩ := s.mirrorTile_eq image i data
  rw [h]
  change (assocGet x.shelf j).map _ = _
  rw [hx, assocGet_assocSet]
  split <;> rfl

/-- The first tiles of an image after its header, each written once. -/
theorem State.shelf_mirrorTiles (s : State) (image : Nat) (f : Nat → List Byte) {n i : Nat} (hi : i < n) :
    (assocGet (eachOf (List.range n) (fun i s => s.mirrorTile image (i + 1) (f i)) s).tier.shelf (imageBlock image (i + 1))).map
      (·.data) = some (f i) := by
  induction n with
  | zero => exact absurd hi (Nat.not_lt_zero i)
  | succ n ih =>
    rw [eachOf_range_succ, State.shelf_mirrorTile]
    by_cases e : i = n
    · subst e
      exact if_pos rfl
    · rw [if_neg (by unfold imageBlock; omega)]
      exact ih (by omega)

/-! The mirror (R614-R618). -/

/-- What LINT_MIRROR_STATUS reports of a mirror of image `n`. -/
def State.mirrorReport (s : State) (st : Status) (n : Nat) : State :=
  (s.setStatus Page.lint LINT_MIRROR_STATUS_STATUS st).set Page.lint LINT_MIRROR_STATUS_IMAGE n

theorem State.mirrorFail_eq (s : State) (st : Status) :
    s.mirrorFail st = (s.mirrorReport st s.lint.image).raise Page.lint Ev.MIRROR_FAIL byBlock (arg st.code) := rfl

section
variable {s : State} (st : Status) (n : Nat)

theorem State.get_mirrorReport_ne {q : Nat} {g : Fld} (h : regKey q 0 g.off ≠ regKey Page.lint 0 LINT_MIRROR_STATUS_STATUS.off) :
    (s.mirrorReport st n).get q g = s.get q g :=
  (State.get_set_ne _ LINT_MIRROR_STATUS_IMAGE _ _ _ h).trans (State.get_setStatus_ne _ _ _ h)

variable (hs : RegFile.wf s.regs = true)
include hs

theorem State.mirrorReport_wf : RegFile.wf (s.mirrorReport st n).regs = true := State.wf_set (State.wf_set hs _ _ _) _ _ _

theorem State.get_mirrorReport_status : (s.mirrorReport st n).get Page.lint LINT_MIRROR_STATUS_STATUS = st.code :=
  (State.get_set_disjoint (State.wf_set hs _ _ _) Page.lint LINT_MIRROR_STATUS_IMAGE LINT_MIRROR_STATUS_STATUS n rfl
    (by decide)).trans (State.get_setStatus_self hs _ (by decide) rfl st)

theorem State.get_mirrorReport_image (hn : n < 64) : (s.mirrorReport st n).get Page.lint LINT_MIRROR_STATUS_IMAGE = n :=
  (State.get_set_self (State.wf_set hs _ _ _) _ _ _ (by decide)).trans (Nat.mod_eq_of_lt hn)

end

section
variable (s : State) (st : Status)

/-- A mirror that fails changes registers and Lint's buffers alone. -/
theorem State.mirrorFail_frame : ∃ r b, s.mirrorFail st = { s with regs := r, lint := { s.lint with bufs := b } } := by
  obtain ⟨⟨r, b, h⟩, -⟩ :=
    State.raise_frame (s.mirrorReport st s.lint.image) Page.lint Ev.MIRROR_FAIL byBlock (arg st.code)
  rw [State.mirrorFail_eq]
  exact ⟨r, b, h⟩

theorem State.get_mirrorFail {q : Nat} {g : Fld} (h : regKey q 0 g.off ∉ raiseKeys Page.lint) :
    (s.mirrorFail st).get q g = (s.mirrorReport st s.lint.image).get q g := by
  rw [State.mirrorFail_eq, State.get_raise_ne _ _ _ _ h]

theorem State.flag_busy_mirrorFail :
    (s.mirrorFail st).flag Page.lint LINT_MODE_MIRROR_BUSY = s.flag Page.lint LINT_MODE_MIRROR_BUSY := by
  rw [State.flag, State.get_mirrorFail s st (by decide), State.get_mirrorReport_ne _ _ (by decide), State.flag]

end

theorem exec_lintMirror {s : State} (hcold : s.resets.cold = false) (hen : s.flag Page.lint LINT_CTRL_MIRROR_EN = true) :
    exec (.lintMirror []) s = .next
      (if s.flag Page.lint LINT_MODE_MIRROR_BUSY then s.updLint fun l => { l with again := true } else s.mirrorBegin []) := by
  change Host.Outcome.next _ = _
  rw [if_neg (by simp [hcold]), if_neg (by simp [hen])]

theorem State.mirrorBegin_of_tier_reset {s : State} (hro : s.shelfRo = false) (ht : s.inReset Page.tier = true) :
    s.mirrorBegin [] = s.mirrorFail .resetNack := by
  unfold State.mirrorBegin
  rw [if_neg (by simp [hro]), if_pos ht]

/-- The slots copied to their tiles, in slot order. -/
def State.withTiles (s : State) : State :=
  eachOf (List.range 64) (fun i u => u.mirrorTile s.lint.image (i + 1) (s.lint.tile i)) s

theorem State.withTiles_regs (s : State) : s.withTiles.regs = s.regs :=
  eachOf_keeps (f := fun i u => u.mirrorTile s.lint.image (i + 1) (s.lint.tile i)) State.regs
    (fun i u => u.mirrorTile_regs s.lint.image (i + 1) (s.lint.tile i)) _ s

theorem State.withTiles_lint (s : State) : s.withTiles.lint = s.lint :=
  eachOf_keeps (f := fun i u => u.mirrorTile s.lint.image (i + 1) (s.lint.tile i)) State.lint
    (fun i u => u.mirrorTile_lint s.lint.image (i + 1) (s.lint.tile i)) _ s

theorem State.shelf_withTiles (s : State) {i : Nat} (hi : i < 64) :
    (assocGet s.withTiles.tier.shelf (imageBlock s.lint.image (i + 1))).map (·.data) = some (s.lint.tile i) :=
  State.shelf_mirrorTiles s s.lint.image s.lint.tile hi

theorem State.mirrorBegin_of_ready {s : State} (hro : s.shelfRo = false) (ht : s.inReset Page.tier = false)
    (hr : s.flag Page.shelf PAGE_STATUS_READY = true) :
    s.mirrorBegin [] = s.withTiles.set Page.lint LINT_MODE_MIRROR_BUSY 1 := by
  unfold State.mirrorBegin
  rw [if_neg (by simp [hro]), if_neg (by simp [ht]), if_neg (by simp [hr])]
  rfl

theorem lintMirror_refused {s : State} (hs : RegFile.wf s.regs = true) (hcold : s.resets.cold = false)
    (hen : s.flag Page.lint LINT_CTRL_MIRROR_EN = true) (hbusy : s.flag Page.lint LINT_MODE_MIRROR_BUSY = false)
    (hro : s.shelfRo = false) (ht : s.inReset Page.tier = true) :
    ∃ t, exec (.lintMirror []) s = .next t ∧ t.get Page.lint LINT_MIRROR_STATUS_STATUS = Status.resetNack.code ∧
      t.flag Page.lint LINT_MODE_MIRROR_BUSY = false := by
  refine ⟨s.mirrorFail .resetNack, ?_, ?_, (s.flag_busy_mirrorFail _).trans hbusy⟩
  · rw [exec_lintMirror hcold hen, if_neg (by simp [hbusy]), State.mirrorBegin_of_tier_reset hro ht]
  · exact (s.get_mirrorFail _ (by decide)).trans (State.get_mirrorReport_status _ _ hs)

theorem lintMirror_begins {s : State} (hs : RegFile.wf s.regs = true) (hcold : s.resets.cold = false)
    (hen : s.flag Page.lint LINT_CTRL_MIRROR_EN = true) (hbusy : s.flag Page.lint LINT_MODE_MIRROR_BUSY = false)
    (hro : s.shelfRo = false) (ht : s.inReset Page.tier = false) (hr : s.flag Page.shelf PAGE_STATUS_READY = true) :
    ∃ t, exec (.lintMirror []) s = .next t ∧ t.flag Page.lint LINT_MODE_MIRROR_BUSY = true ∧ t.lint = s.lint ∧
      ∀ i, i < 64 → (assocGet t.tier.shelf (imageBlock s.lint.image (i + 1))).map (·.data) = some (s.lint.tile i) := by
  have htiles : RegFile.wf s.withTiles.regs = true := by rwa [State.withTiles_regs]
  refine ⟨s.withTiles.set Page.lint LINT_MODE_MIRROR_BUSY 1, ?_,
    State.flag_set_self htiles Page.lint (by decide) rfl Nat.one_lt_two, (State.set_lint _ _ _ _).trans s.withTiles_lint,
    fun i hi => ?_⟩
  · rw [exec_lintMirror hcold hen, if_neg (by simp [hbusy]), State.mirrorBegin_of_ready hro ht hr]
  · rw [State.set_tier]
    exact s.shelf_withTiles hi

/-! The end of a mirror (R615, R617). -/

/-- The header tile of the running mirror's image written. -/
def State.withHeader (s : State) : State := s.mirrorTile s.lint.image 0 s.mirrorHeader

theorem State.withHeader_regs (s : State) : s.withHeader.regs = s.regs := s.mirrorTile_regs _ _ _

theorem State.withHeader_wf {s : State} (hs : RegFile.wf s.regs = true) : RegFile.wf s.withHeader.regs = true := by
  rwa [State.withHeader_regs]

theorem State.withHeader_lint (s : State) : s.withHeader.lint = s.lint := s.mirrorTile_lint _ _ _

theorem State.get_withHeader (s : State) (q : Nat) (f : Fld) : s.withHeader.get q f = s.get q f := by
  simp only [State.get, State.getI, State.word, State.withHeader_regs]

/-- The state once the end of the running mirror is reported: well, its header tile written last, or with a failure. -/
def State.mirrorDone (s : State) : Option Status → State
  | some st => (s.set Page.lint LINT_MODE_MIRROR_BUSY 0).mirrorFail st
  | none =>
    let u := (s.set Page.lint LINT_MODE_MIRROR_BUSY 0).withHeader
    ((u.mirrorReport .ok u.lint.image).add Page.lint LINT_MIRRORS_COUNT 1).updLint fun l => { l with image := (l.image + 1) % 64 }

theorem State.mirrorDone_none (s : State) : s.mirrorDone none =
    (((s.set Page.lint LINT_MODE_MIRROR_BUSY 0).withHeader.mirrorReport .ok s.lint.image).add Page.lint LINT_MIRRORS_COUNT 1).updLint
      fun l => { l with image := (l.image + 1) % 64 } := by
  rw [State.mirrorDone, State.withHeader_lint]
  rfl

/-- What waited for the end: a clear request, then a further mirror. -/
def State.afterMirror (s : State) : State :=
  let t := match s.lint.clear with
    | some (path, upto) => s.lintClear path upto.toNat
    | none => s
  if t.lint.again then (t.updLint fun l => { l with again := false }).mirrorBegin [] else t

theorem State.mirrorEnd_eq {s : State} (hb : s.flag Page.lint LINT_MODE_MIRROR_BUSY = true) (fail : Option Status) :
    s.mirrorEnd fail = (s.mirrorDone fail).afterMirror := by
  unfold State.mirrorEnd
  rw [if_neg (by simp [hb])]
  cases fail <;> rfl

theorem State.afterMirror_of_quiet {s : State} (hc : s.lint.clear = none) (ha : s.lint.again = false) : s.afterMirror = s := by
  unfold State.afterMirror
  simp [hc, ha]

section
variable {s : State} (hb : s.flag Page.lint LINT_MODE_MIRROR_BUSY = true) (hc : s.lint.clear = none)
  (ha : s.lint.again = false)
include hb hc ha

theorem exec_lintMirrorEnd (fail : Option Status) : exec (.lintMirrorEnd fail) s = .next (s.mirrorDone fail) := by
  have hquiet : (s.mirrorDone fail).lint.clear = none ∧ (s.mirrorDone fail).lint.again = false := by
    cases fail with
    | none =>
      have hlint := (s.set Page.lint LINT_MODE_MIRROR_BUSY 0).withHeader_lint
      exact ⟨(congrArg Lint.clear hlint).trans hc, (congrArg Lint.again hlint).trans ha⟩
    | some st =>
      obtain ⟨r, b, h⟩ := (s.set Page.lint LINT_MODE_MIRROR_BUSY 0).mirrorFail_frame st
      rw [State.mirrorDone, h]
      exact ⟨hc, ha⟩
  exact congrArg Host.Outcome.next ((State.mirrorEnd_eq hb fail).trans (State.afterMirror_of_quiet hquiet.1 hquiet.2))

variable (hs : RegFile.wf s.regs = true) (hi : s.lint.image < 64)
include hs hi

theorem lintMirrorEnd_well :
    ∃ t, exec (.lintMirrorEnd none) s = .next t ∧ t.flag Page.lint LINT_MODE_MIRROR_BUSY = false ∧
      t.get Page.lint LINT_MIRROR_STATUS_STATUS = Status.ok.code ∧ t.get Page.lint LINT_MIRROR_STATUS_IMAGE = s.lint.image ∧
      t.get Page.lint LINT_MIRRORS_COUNT = s.countedOnce LINT_MIRRORS_COUNT ∧
      t.lint.image = (s.lint.image + 1) % 64 := by
  let u := (s.set Page.lint LINT_MODE_MIRROR_BUSY 0).withHeader
  have hu : RegFile.wf u.regs = true := State.withHeader_wf (State.wf_set hs _ _ _)
  have hread {f : Fld} (hf : regKey Page.lint 0 f.off ≠ regKey Page.lint 0 LINT_MIRRORS_COUNT.off) :
      (s.mirrorDone none).get Page.lint f = (u.mirrorReport .ok s.lint.image).get Page.lint f := by
    rw [State.mirrorDone_none, State.get_updLint, State.get_add_ne _ _ _ hf]
  refine ⟨_, exec_lintMirrorEnd hb hc ha none, ?busy, ?status, ?image, ?count, ?next⟩
  case busy =>
    rw [State.flag, hread (by decide), State.get_mirrorReport_ne _ _ (by decide), State.get_withHeader]
    exact State.flag_set_self hs Page.lint (by decide) rfl Nat.two_pos
  case status => exact (hread (by decide)).trans (State.get_mirrorReport_status _ _ hu)
  case image => exact (hread (by decide)).trans (State.get_mirrorReport_image _ _ hu hi)
  case count =>
    rw [State.mirrorDone_none, State.get_updLint, State.get_add_self (State.mirrorReport_wf _ _ hu) _ _ _ (by decide),
      State.get_mirrorReport_ne _ _ (by decide), State.get_withHeader, State.get_set_ne _ _ _ _ _ (by decide),
      State.countedOnce]
  case next =>
    rw [State.mirrorDone_none]
    exact congrArg (fun l : Lint => (l.image + 1) % 64) (State.withHeader_lint _)

theorem lintMirrorEnd_failed (st : Status) :
    ∃ t, exec (.lintMirrorEnd (some st)) s = .next t ∧ t.flag Page.lint LINT_MODE_MIRROR_BUSY = false ∧
      t.get Page.lint LINT_MIRROR_STATUS_STATUS = st.code ∧ t.get Page.lint LINT_MIRROR_STATUS_IMAGE = s.lint.image ∧
      t.lint.image = s.lint.image := by
  let v := s.set Page.lint LINT_MODE_MIRROR_BUSY 0
  have hv : RegFile.wf v.regs = true := State.wf_set hs _ _ _
  refine ⟨v.mirrorFail st, exec_lintMirrorEnd hb hc ha (some st), ?_, ?_, ?_, ?_⟩
  · exact (v.flag_busy_mirrorFail st).trans (State.flag_set_self hs Page.lint (by decide) rfl Nat.two_pos)
  · exact (v.get_mirrorFail st (by decide)).trans (State.get_mirrorReport_status _ _ hv)
  · exact (v.get_mirrorFail st (by decide)).trans (State.get_mirrorReport_image _ _ hv hi)
  · obtain ⟨r, b, h⟩ := v.mirrorFail_frame st
    rw [h]
    rfl

end

/-! The headers read at the Shelf's first READY (R618): reads of the Shelf may raise events, and leave the store. -/

theorem State.slots_updateWear (s : State) : s.updateWear.lint.slots = s.lint.slots := by
  unfold State.updateWear
  dsimp only
  split
  · exact State.raise_lint_slots _ _ _ _ _
  · rfl

theorem State.slots_relocate (s : State) (id : Nat) : (s.relocate id).lint.slots = s.lint.slots := by
  unfold State.relocate
  split
  · split
    · split
      · rfl
      · exact State.raise_lint_slots _ _ _ _ _
    · exact State.slots_updateWear _
  · exact State.slots_updateWear _

theorem State.slots_disturbed (s : State) : s.disturbed.lint.slots = s.lint.slots :=
  eachOf_keeps (f := fun (b : NandBlk) u => u.relocate b.id) (fun u => u.lint.slots) (fun b u => u.slots_relocate b.id) _ s

theorem State.slots_mediaUe (s : State) (lba : Nat) : (s.mediaUe lba).lint.slots = s.lint.slots :=
  State.raise_lint_slots _ _ _ _ _

theorem State.slots_shelfRead (s : State) (lba : Nat) (fails : Bool) : (s.shelfRead lba fails).2.lint.slots = s.lint.slots := by
  unfold State.shelfRead
  split
  · rfl
  · split
    · rfl
    · split
      · exact (State.slots_mediaUe _ _).trans (State.slots_disturbed _)
      · exact State.slots_disturbed _

/-- One header more: the state is the one that its read leaves. -/
theorem State.newestImage_succ_snd (bad : List Nat) (n : Nat) (s : State) : (State.newestImage bad (n + 1) s).2 =
    ((State.newestImage bad n s).2.shelfRead (imageBlock n 0) (bad.contains n)).2 := by
  rw [State.newestImage]
  dsimp only
  split <;> rfl

theorem State.slots_newestImage (bad : List Nat) (n : Nat) (s : State) :
    (State.newestImage bad n s).2.lint.slots = s.lint.slots := by
  induction n with
  | zero => rfl
  | succ n ih =>
    rw [State.newestImage_succ_snd]
    exact (State.slots_shelfRead _ _ _).trans ih

/-- Lint once the newest image's header is known, if the ring holds one. -/
def Lint.afterHeaders (l : Lint) : Option (Nat × Nat × Nat × Nat) → Lint
  | some h => { l with shelfOk := true, boot := h.1 + 1, image := (h.2.2.2 + 1) % 64 }
  | none => { l with shelfOk := true, boot := 1, image := 0 }

section
variable {s : State} (hok : s.lint.shelfOk = false) (hreset : s.inReset Page.shelf = false)
  (hready : s.flag Page.shelf PAGE_STATUS_READY = true) (unread : List Nat)
include hok hreset hready

theorem exec_lintShelfReady : exec (.lintShelfReady unread) s = .next
    ((State.newestImage unread 64 s).2.updLint fun l => l.afterHeaders (State.newestImage unread 64 s).1) := by
  change execLintShelfReady unread s = _
  unfold execLintShelfReady
  rw [if_neg (by simp [hok, hreset, hready])]
  obtain ⟨best, u⟩ := State.newestImage unread 64 s
  cases best <;> rfl

theorem lintShelfReady_spec :
    ∃ t, exec (.lintShelfReady unread) s = .next t ∧ t.lint.shelfOk = true ∧ t.lint.slots = s.lint.slots ∧
      ((State.newestImage unread 64 s).1 = none → t.lint.boot = 1 ∧ t.lint.image = 0) ∧
      ∀ h, (State.newestImage unread 64 s).1 = some h → t.lint.boot = h.1 + 1 ∧ t.lint.image = (h.2.2.2 + 1) % 64 := by
  refine ⟨_, exec_lintShelfReady hok hreset hready unread, ?_⟩
  have hslots := State.slots_newestImage unread 64 s
  generalize State.newestImage unread 64 s = h at hslots ⊢
  obtain ⟨best, u⟩ := h
  cases best with
  | none => exact ⟨rfl, hslots, fun _ => ⟨rfl, rfl⟩, fun _ he => (nomatch he)⟩
  | some x =>
    refine ⟨rfl, hslots, fun he => (nomatch he), fun h he => ?_⟩
    obtain rfl := Option.some.inj he
    exact ⟨rfl, rfl⟩

end

/-! Reading (R624). -/

theorem leNat_lt (l : List Byte) : leNat l < 256 ^ l.length := by
  induction l with
  | nil => exact Nat.one_pos
  | cons b l ih =>
    have hb := b.isLt
    rw [leNat, List.length_cons, Nat.pow_succ]
    omega

/-- A field of four bytes fits a register word. -/
theorem field_lt_of_four (b : List Byte) (i : Nat) : field b i 4 < 2 ^ 32 := by
  have h := leNat_lt (slice b i 4)
  rwa [length_slice] at h

/-- The bytes that a slot reads as: an empty one as zeros (R604). -/
def slotBytes : Option Rec → List Byte
  | some y => y.bytes
  | none => List.replicate 64 0

/-- The first words of LINT_RD_DATA of entry `i` take a record's bytes. -/
def State.latchBytes (s : State) (i n : Nat) (b : List Byte) : State :=
  eachOf (List.range n) (fun n s => s.setI Page.lint i (LINT_RD_DATA_DATA.nth n) (field b (4 * n) 4)) s

section
variable (s : State) (i : Nat) (b : List Byte)

theorem State.latchBytes_succ (n : Nat) : s.latchBytes i (n + 1) b =
    (s.latchBytes i n b).setI Page.lint i (LINT_RD_DATA_DATA.nth n) (field b (4 * n) 4) := eachOf_range_succ _ _ _

theorem State.latchBytes_lint (n : Nat) : (s.latchBytes i n b).lint = s.lint :=
  eachOf_keeps (f := fun n u => u.setI Page.lint i (LINT_RD_DATA_DATA.nth n) (field b (4 * n) 4)) State.lint
    (fun _ _ => rfl) _ s

variable {s}

theorem State.latchBytes_wf (hs : RegFile.wf s.regs = true) (n : Nat) : RegFile.wf (s.latchBytes i n b).regs = true := by
  induction n with
  | zero => exact hs
  | succ n ih =>
    rw [State.latchBytes_succ]
    exact State.wf_setI ih _ _ _ _

/-- A field below LINT_RD_DATA reads as before. -/
theorem State.getI_latchBytes_ne {f : Fld} (hf : f.off < LINT_RD_DATA_DATA.off) {n : Nat} (hn : n ≤ 16) (q j : Nat) :
    (s.latchBytes i n b).getI q j f = s.getI q j f := by
  induction n with
  | zero => rfl
  | succ n ih =>
    have hoff : (LINT_RD_DATA_DATA.nth n).off = 128 + 4 * n := rfl
    have hf' : f.off < 128 := hf
    rw [State.latchBytes_succ, State.getI_setI_of_off (by omega) (by omega) (by omega), ih (by omega)]

/-- Each word of LINT_RD_DATA reads its four bytes. -/
theorem State.getI_latchBytes (hs : RegFile.wf s.regs = true) {n : Nat} (hn : n ≤ 16) {k : Nat} (hk : k < n) :
    (s.latchBytes i n b).getI Page.lint i (LINT_RD_DATA_DATA.nth k) = field b (4 * k) 4 := by
  induction n with
  | zero => exact absurd hk (Nat.not_lt_zero k)
  | succ n ih =>
    have hoff (m : Nat) : (LINT_RD_DATA_DATA.nth m).off = 128 + 4 * m := rfl
    rw [State.latchBytes_succ]
    by_cases e : k = n
    · subst e
      exact (State.getI_setI_self (State.latchBytes_wf i b hs k) _ _ _ _ (by change 0 + 32 ≤ 32; decide)).trans
        (Nat.mod_eq_of_lt (field_lt_of_four b _))
    · rw [State.getI_setI_of_off (by rw [hoff]; omega) (by rw [hoff]; omega) (by rw [hoff, hoff]; omega)]
      exact ih (by omega) (by omega)

end

/-- Latching a slot that is not mapped out. -/
theorem State.lintLatch_slot {s : State} {path : Path} {val : Word} (hring : LINT_RD_SEL_RING.of val = 0)
    (hbad : s.lint.bad.contains (LINT_RD_SEL_SLOT.of val) = false) : s.lintLatch path val false =
      (((s.setI Page.lint path.code LINT_RD_SEL_SLOT (LINT_RD_SEL_SLOT.of val)).setI Page.lint path.code LINT_RD_SEL_RING 0).setI
        Page.lint path.code LINT_RD_STATUS_STATUS Status.ok.code).latchBytes path.code 16
          (slotBytes (assocGet s.lint.slots (LINT_RD_SEL_SLOT.of val))) := by
  unfold State.lintLatch
  simp only [hring, hbad, Nat.reduceBEq, Bool.false_eq_true, false_and, if_false]
  unfold State.latchBytes
  cases assocGet s.lint.slots (LINT_RD_SEL_SLOT.of val) <;> rfl

theorem lintRdSelWrite_spec {path : Path} {val : Word} {s : State} (hs : RegFile.wf s.regs = true)
    (h : s.takesWrite path Page.lint LINT_RD_SEL_SLOT.off) (hring : LINT_RD_SEL_RING.of val = 0)
    (hbad : s.lint.bad.contains (LINT_RD_SEL_SLOT.of val) = false) :
    ∃ t, exec (.lintRdSelWrite path val false) s = .next t ∧ t.lint = s.lint ∧
      t.getI Page.lint path.code LINT_RD_STATUS_STATUS = Status.ok.code ∧
      ∀ n, n < 16 → t.getI Page.lint path.code (LINT_RD_DATA_DATA.nth n) =
        field (slotBytes (assocGet s.lint.slots (LINT_RD_SEL_SLOT.of val))) (4 * n) 4 := by
  let u := s.lastPath Page.lint path
  have hsel := State.wf_setI (State.wf_setI (State.lastPath_wf hs Page.lint path) Page.lint path.code LINT_RD_SEL_SLOT
    (LINT_RD_SEL_SLOT.of val)) Page.lint path.code LINT_RD_SEL_RING 0
  have hstatus := State.wf_setI hsel Page.lint path.code LINT_RD_STATUS_STATUS Status.ok.code
  have hlatch := State.lintLatch_slot (s := u) (path := path) hring hbad
  refine ⟨u.lintLatch path val false, congrArg Host.Outcome.next (State.writeReg_of_takesWrite h _), ?_⟩
  rw [hlatch]
  refine ⟨State.latchBytes_lint _ _ _ _, ?_, fun n hn => State.getI_latchBytes _ _ hstatus (Nat.le_refl 16) hn⟩
  exact (State.getI_latchBytes_ne _ _ (by decide) (Nat.le_refl 16) _ _).trans (State.getI_setI_self hsel _ _ _ _ (by decide))

/-! Clearing (R625, R626). -/

theorem exec_lintClear {path : Path} {s : State} (h : s.takesWrite path Page.lint LINT_CLEAR_REQ.off) :
    exec (.lintClear path) s = .next ((s.lastPath Page.lint path).clearRequest path) :=
  congrArg Host.Outcome.next (State.writeReg_of_takesWrite h _)

section
variable (s : State) (path : Path)

/-- The last SEQ that a clear discards. -/
def State.clearUpto : Nat := s.pair Page.lint 0 LINT_CLEAR_UPTO_LO_SEQ LINT_CLEAR_UPTO_HI_SEQ

theorem State.clearUpto_lastPath : (s.lastPath Page.lint path).clearUpto = s.clearUpto := by
  have h (f : Fld) (hf : regKey Page.lint 0 f.off ≠ regKey Page.lint 0 PAGE_STATUS_LAST_PATH.off) :
      (s.lastPath Page.lint path).getI Page.lint 0 f = s.getI Page.lint 0 f := State.get_lastPath_ne Page.lint path hf
  rw [State.clearUpto, State.pair, h _ (by decide), h _ (by decide), State.clearUpto, State.pair]

theorem State.flag_lastPath {q : Nat} {g : Fld} (h : regKey q 0 g.off ≠ regKey Page.lint 0 PAGE_STATUS_LAST_PATH.off) :
    (s.lastPath Page.lint path).flag q g = s.flag q g := by
  rw [State.flag, State.get_lastPath_ne Page.lint path h, State.flag]

theorem State.lintSeq_lastPath : (s.lastPath Page.lint path).lintSeq = s.lintSeq :=
  State.lintSeq_congr (State.get_lastPath_ne _ _ (by decide)) (State.get_lastPath_ne _ _ (by decide))

end

section
variable {s : State} {path : Path}

theorem State.clearRequest_denied (h : s.flag Page.access ACCESS_STATE_CLEAR_AUTH = false) : s.clearRequest path =
    (s.setStatus Page.lint LINT_CLEAR_STATUS_STATUS .authFail).raise Page.lint Ev.CLEAR_DENIED (byPath path) (arg path.code) :=
  if_pos h

theorem State.clearRequest_granted (h : s.flag Page.access ACCESS_STATE_CLEAR_AUTH = true) : s.clearRequest path =
    if s.flag Page.lint LINT_MODE_MIRROR_BUSY then
      s.updLint fun l => { l with clear := some (path, BitVec.ofNat 48 s.clearUpto) }
    else s.lintClear path s.clearUpto := if_neg (by simp [h])

end

theorem lintClear_denied {path : Path} {s : State} (hs : RegFile.wf s.regs = true)
    (h : s.takesWrite path Page.lint LINT_CLEAR_REQ.off) (hauth : s.flag Page.access ACCESS_STATE_CLEAR_AUTH = false) :
    ∃ t, exec (.lintClear path) s = .next t ∧ t.get Page.lint LINT_CLEAR_STATUS_STATUS = Status.authFail.code ∧
      t.lint.slots = s.lint.slots ∧ t.lint.ring = s.lint.ring := by
  have hdenied := State.clearRequest_denied (path := path) ((s.flag_lastPath path (by decide)).trans hauth)
  refine ⟨_, (exec_lintClear h).trans (congrArg _ hdenied), ?_, State.raise_lint_slots _ _ _ _ _, State.raise_lint_ring _ _ _ _ _⟩
  exact (State.get_raise_ne _ _ _ _ (by decide)).trans
    (State.get_setStatus_self (State.lastPath_wf hs _ _) _ (by decide) rfl _)

theorem lintClear_waits {path : Path} {s : State} (h : s.takesWrite path Page.lint LINT_CLEAR_REQ.off)
    (hauth : s.flag Page.access ACCESS_STATE_CLEAR_AUTH = true) (hbusy : s.flag Page.lint LINT_MODE_MIRROR_BUSY = true) :
    ∃ t, exec (.lintClear path) s = .next t ∧ t.lint = { s.lint with clear := some (path, BitVec.ofNat 48 s.clearUpto) } := by
  have hgranted := State.clearRequest_granted (path := path) ((s.flag_lastPath path (by decide)).trans hauth)
  rw [if_pos ((s.flag_lastPath path (by decide)).trans hbusy), State.clearUpto_lastPath] at hgranted
  exact ⟨_, (exec_lintClear h).trans (congrArg _ hgranted), rfl⟩

/-- The records that a clear discards are gone, and no clear waits. -/
def Lint.cleared (l : Lint) (upto : Nat) : Lint :=
  let keep (x : Nat × Rec) : Bool := decide (upto < x.2.seq.toNat)
  { l with slots := l.slots.filter keep, ring := l.ring.filter keep, clear := none }

theorem Lint.lt_seq_of_mem_held_cleared {l : Lint} {upto : Nat} {e : RecAt × Rec} (he : e ∈ (l.cleared upto).held) :
    upto < e.2.seq.toNat := by
  rcases Lint.mem_held.1 he with ⟨x, hx, rfl⟩ | ⟨x, hx, rfl⟩ <;> exact of_decide_eq_true (List.mem_filter.1 hx).2

/-- The state in which CLEARED takes its record: the records are discarded and the event is announced (R626). -/
def State.clearing (s : State) (upto : Nat) : State := (s.updLint fun l => l.cleared upto).announce Ev.CLEARED

/-- The report of a clear: the counters return to 0. -/
def State.clearReport (s : State) : State :=
  ((s.set Page.lint LINT_DROPPED_COUNT 0).set Page.lint LINT_FILTERED_COUNT 0).setStatus Page.lint LINT_CLEAR_STATUS_STATUS .ok

/-- CLEARED is the event that takes a record between the two. -/
theorem State.lintClear_eq (s : State) (path : Path) (upto : Nat) :
    ∃ x : Event, s.lintClear path upto = ((s.clearing upto).lintNew x).clearReport := ⟨_, rfl⟩

section
variable {s : State} (upto : Nat)

theorem State.clearing_wf (hs : RegFile.wf s.regs = true) : RegFile.wf (s.clearing upto).regs = true :=
  State.announce_wf (s.updLint fun l => l.cleared upto) _ hs

theorem State.clearing_lint : (s.clearing upto).lint = s.lint.cleared upto := State.announce_lint _ _

theorem State.lintSeq_clearing : (s.clearing upto).lintSeq = s.lintSeq :=
  State.lintSeq_announce (s.updLint fun l => l.cleared upto) _

theorem State.exhausted_clearing :
    (s.clearing upto).flag Page.lint LINT_MODE_SEQ_EXHAUSTED = s.flag Page.lint LINT_MODE_SEQ_EXHAUSTED :=
  congrArg (· != 0) (State.get_announce_ne (s.updLint fun l => l.cleared upto) _ (by decide))

theorem State.clearReport_lint : s.clearReport.lint = s.lint := rfl

theorem State.lintSeq_clearReport : s.clearReport.lintSeq = s.lintSeq :=
  (State.lintSeq_set_ne _ _ LINT_CLEAR_STATUS_STATUS _ (by decide) (by decide)).trans
    ((State.lintSeq_set_ne _ _ _ _ (by decide) (by decide)).trans (State.lintSeq_set_ne _ _ _ _ (by decide) (by decide)))

/-- What the report of a clear reads. -/
theorem State.clearReport_reads (hs : RegFile.wf s.regs = true) :
    s.clearReport.get Page.lint LINT_CLEAR_STATUS_STATUS = Status.ok.code ∧ s.clearReport.get Page.lint LINT_DROPPED_COUNT = 0 ∧
      s.clearReport.get Page.lint LINT_FILTERED_COUNT = 0 := by
  have hdropped : RegFile.wf (s.set Page.lint LINT_DROPPED_COUNT 0).regs = true := State.wf_set hs _ _ _
  refine ⟨State.get_setStatus_self (State.wf_set hdropped _ _ _) _ (by decide) rfl _, ?_, ?_⟩
  · exact (State.get_setStatus_ne _ _ _ (by decide)).trans
      ((State.get_set_ne _ _ _ _ _ (by decide)).trans (State.get_set_self hs _ _ _ (by decide)))
  · exact (State.get_setStatus_ne _ _ _ (by decide)).trans (State.get_set_self hdropped _ _ _ (by decide))

end

theorem State.lintClear_spec {s : State} (hs : RegFile.wf s.regs = true) (path : Path) (upto : Nat)
    (hex : s.flag Page.lint LINT_MODE_SEQ_EXHAUSTED = false) (hseq : s.lintSeq + 1 < 2 ^ 48 - 1) :
    let t := s.lintClear path upto
    t.get Page.lint LINT_CLEAR_STATUS_STATUS = Status.ok.code ∧ t.get Page.lint LINT_DROPPED_COUNT = 0 ∧
      t.get Page.lint LINT_FILTERED_COUNT = 0 ∧ t.lintSeq = s.lintSeq + 1 ∧
      ∀ e ∈ t.lint.held, upto < e.2.seq.toNat ∨ e.2.seq.toNat = s.lintSeq + 1 := by
  obtain ⟨x, hx⟩ := s.lintClear_eq path upto
  have hwf := State.clearing_wf upto hs
  rw [← State.lintSeq_clearing upto] at hseq ⊢
  have h48 : (s.clearing upto).lintSeq + 1 < 2 ^ 48 := by omega
  rw [hx, State.lintNew_eq_lintWrite ((State.exhausted_clearing upto).trans hex) hseq]
  obtain ⟨hstatus, hdropped, hfiltered⟩ := State.clearReport_reads (State.lintWrite_wf (x := x) hwf)
  refine ⟨hstatus, hdropped, hfiltered, State.lintSeq_clearReport.trans (State.lintSeq_lintWrite hwf h48), fun e he => ?_⟩
  rw [State.clearReport_lint] at he
  refine (State.mem_held_lintWrite h48 he).imp_left fun hheld => ?_
  rw [State.clearing_lint] at hheld
  exact Lint.lt_seq_of_mem_held_cleared hheld

theorem lintClear_clears {path : Path} {s : State} (hs : RegFile.wf s.regs = true)
    (h : s.takesWrite path Page.lint LINT_CLEAR_REQ.off) (hauth : s.flag Page.access ACCESS_STATE_CLEAR_AUTH = true)
    (hbusy : s.flag Page.lint LINT_MODE_MIRROR_BUSY = false) (hex : s.flag Page.lint LINT_MODE_SEQ_EXHAUSTED = false)
    (hseq : s.lintSeq + 1 < 2 ^ 48 - 1) :
    ∃ t, exec (.lintClear path) s = .next t ∧ t.get Page.lint LINT_CLEAR_STATUS_STATUS = Status.ok.code ∧
      t.get Page.lint LINT_DROPPED_COUNT = 0 ∧ t.get Page.lint LINT_FILTERED_COUNT = 0 ∧ t.lintSeq = s.lintSeq + 1 ∧
      ∀ e ∈ t.lint.held, s.clearUpto < e.2.seq.toNat ∨ e.2.seq.toNat = s.lintSeq + 1 := by
  have hbusy' : (s.lastPath Page.lint path).flag Page.lint LINT_MODE_MIRROR_BUSY = false :=
    (s.flag_lastPath path (by decide)).trans hbusy
  have hgranted := State.clearRequest_granted (path := path) ((s.flag_lastPath path (by decide)).trans hauth)
  rw [if_neg (by simp [hbusy']), State.clearUpto_lastPath] at hgranted
  have hlast := s.lintSeq_lastPath path
  have hspec := State.lintClear_spec (State.lastPath_wf hs Page.lint path) path s.clearUpto
    ((s.flag_lastPath path (by decide)).trans hex) (by rwa [hlast])
  rw [hlast] at hspec
  exact ⟨_, (exec_lintClear h).trans (congrArg _ hgranted), hspec⟩

/-! LINT_LASTGASP (R627) and the trigger table (R629). -/

theorem lastgaspAck_spec {path : Path} {s : State} (hs : RegFile.wf s.regs = true)
    (h : s.takesWrite path Page.lint LINT_LASTGASP_ACK.off) :
    ∃ t, exec (.lastgaspAck path) s = .next t ∧ t.get Page.lint LINT_LASTGASP_CODE = 0 ∧
      t.get Page.lint LINT_LASTGASP_SLOT = s.get Page.lint LINT_LASTGASP_SLOT ∧ t.lint = s.lint := by
  have hs' := State.lastPath_wf hs Page.lint path
  refine ⟨(s.lastPath Page.lint path).gaspAck, congrArg Host.Outcome.next (State.writeReg_of_takesWrite h _),
    State.get_set_self hs' _ _ _ (by decide), ?_, rfl⟩
  exact (State.get_set_disjoint hs' Page.lint LINT_LASTGASP_CODE LINT_LASTGASP_SLOT 0 rfl (by decide)).trans
    (State.get_lastPath_ne _ _ (by decide))

theorem State.copyLive_lint (s : State) (path : Path) (page : Nat) (k : Kind) (gs : List Nat) :
    (s.copyLive path page k gs).lint = s.lint := by
  rw [State.copyLive_eq]
  exact eachOf_keeps (f := fun off u => u.takeStaged path page k off) State.lint (fun _ _ => rfl) _ s

/-! What a COMMIT leaves beside the live copies. -/

section
variable (s : State) (page : Nat) (k : Kind) (gs : List Nat)

theorem State.untouch_lint : (s.untouch page k gs).lint = s.lint := rfl
theorem State.untouch_regs : (s.untouch page k gs).regs = s.regs := rfl
theorem State.getI_untouch (q i : Nat) (f : Fld) : (s.untouch page k gs).getI q i f = s.getI q i f := rfl
theorem State.committed_lint (st : Status) (g : Nat) : (s.committed page st g).lint = s.lint := rfl
theorem State.atCommit_lint (path : Path) : (s.atCommit path page).lint = s.lint := rfl
theorem State.stagedWord_atCommit (path : Path) (q off : Nat) : (s.atCommit path page).stagedWord q off = s.stagedWord q off := rfl

end

/-- The registers of an entry of the trigger table. -/
def lintsnapOffs : List Nat := groupOffs (Kind.lintsnap.groups.getD 0 (0, 0))

theorem State.entryIdx_lintsnap (s : State) (path : Path) :
    ∀ off ∈ lintsnapOffs, s.entryIdx path Page.lintsnap off = s.get Page.lintsnap LINTSNAP_SEL_ENTRY := by
  have hin : ∀ off ∈ lintsnapOffs, 0x044 ≤ off ∧ off ≤ 0x064 := by decide
  exact fun off ho => if_pos (hin off ho)

/-- What an accepted LINTSNAP COMMIT leaves: the live copies, and the report. -/
theorem State.appliedOne_lintsnap (s : State) (path : Path) : s.appliedOne path Page.lintsnap .lintsnap 0 =
    (((s.atCommit path Page.lintsnap).copyLive path Page.lintsnap .lintsnap [0]).untouch Page.lintsnap .lintsnap [0]).committed
      Page.lintsnap .ok 0 := rfl

theorem State.getI_copyLive_lintsnap {s : State} (hs : RegFile.wf s.regs = true) (path : Path) {f : Fld}
    (hf : f.off ∈ lintsnapOffs) (hm : f.mask &&& rwsMask .lintsnap f.off = f.mask) :
    (s.copyLive path Page.lintsnap .lintsnap [0]).getI Page.lintsnap (s.get Page.lintsnap LINTSNAP_SEL_ENTRY) f =
      f.of (s.stagedWord Page.lintsnap f.off) := by
  have hsel (u : State) (hu : u.word Page.lintsnap 0 LINTSNAP_SEL_ENTRY.off = s.word Page.lintsnap 0 LINTSNAP_SEL_ENTRY.off) :
      u.get Page.lintsnap LINTSNAP_SEL_ENTRY = s.get Page.lintsnap LINTSNAP_SEL_ENTRY := congrArg LINTSNAP_SEL_ENTRY.of hu
  rw [State.copyLive_one]
  exact State.getI_eachOf_takeStaged (sel := LINTSNAP_SEL_ENTRY.off) (by decide) (by decide) (by decide) hs
    (fun u hu off ho => (u.entryIdx_lintsnap path off ho).trans (hsel u hu)) hf hm

theorem lintsnapCommit_spec {path : Path} {s : State} (h : s.commitsOne path Page.lintsnap 0) :
    ∃ t, exec (.lintsnapCommit path) s = .next t ∧ t.committedOne Page.lintsnap 0 ∧ t.lint = s.lint ∧
      ∀ f : Fld, f.off ∈ lintsnapOffs → f.mask &&& rwsMask .lintsnap f.off = f.mask →
        t.getI Page.lintsnap (s.get Page.lintsnap LINTSNAP_SEL_ENTRY) f = f.of (s.stagedWord Page.lintsnap f.off) := by
  have hs : RegFile.wf (s.atCommit path Page.lintsnap).regs = true := State.atCommit_wf (State.canonical_regs h.1)
  have hcopied : RegFile.wf (((s.atCommit path Page.lintsnap).copyLive path Page.lintsnap .lintsnap [0]).untouch Page.lintsnap
      .lintsnap [0]).regs = true := by
    rw [State.untouch_regs]
    exact State.copyLive_wf hs [0]
  have hsel : (s.atCommit path Page.lintsnap).get Page.lintsnap LINTSNAP_SEL_ENTRY = s.get Page.lintsnap LINTSNAP_SEL_ENTRY :=
    congrArg LINTSNAP_SEL_ENTRY.of (State.word_atCommit s (by decide) (by decide) (by decide) _ _)
  refine ⟨_, congrArg Host.Outcome.next ((State.apply_of_commitsOne h rfl).trans (s.appliedOne_lintsnap path)),
    State.committed_ok_committedOne hcopied (by decide) (State.isTouched_untouch _ _), ?_, fun f hf hm => ?_⟩
  · rw [State.committed_lint, State.untouch_lint, State.copyLive_lint, State.atCommit_lint]
  · have hrange : ∀ off ∈ lintsnapOffs, off < 2 ^ 12 ∧ off ≠ COMMIT_STATUS_STATUS.off := by decide
    obtain ⟨h12, hne⟩ := hrange f.off hf
    rw [State.getI_committed_ne _ _ _ h12 hne, State.getI_untouch, ← hsel, State.getI_copyLive_lintsnap hs path hf hm,
      State.stagedWord_atCommit]

/-- The fields of an entry of the trigger table lie in its registers, which a COMMIT takes whole. -/
theorem lintsnap_fields_staged : ∀ f ∈ [LINTSNAP_MATCH_EVENT, LINTSNAP_MATCH_PAGE_ONLY, LINTSNAP_MATCH_NREG, LINTSNAP_MATCH_VALID,
    LINTSNAP_REG_PAGE, LINTSNAP_REG_WORD], f.off ∈ lintsnapOffs ∧ f.mask &&& rwsMask .lintsnap f.off = f.mask := by decide

/-! The statement. -/

/-- Settles O55: the arbiter's three outcomes, a mirror's start and end, the read of a slot, the three answers to a clear, the
acknowledge and the COMMIT, each from its lemma above. -/
theorem lintRecordsMirrorsAndClears : Obligations.LintRecordsMirrorsAndClears := by
  unfold Obligations.LintRecordsMirrorsAndClears
  intro path page x r val st unread s hcan pl latest rest up
  have hs := State.canonical_regs hcan
  refine ⟨fun hbuf => ⟨?dropped, fun h => ⟨?merged, ?recorded⟩⟩, fun hcold hen => ⟨?again, fun hbusy hro => ⟨?refused, ?begins⟩⟩,
    fun hb hc ha hi => ⟨?well, ?failed⟩, fun hok hreset hready => lintShelfReady_spec hok hreset hready unread, ?read,
    fun h => ⟨?denied, fun hauth => ⟨?waits, ?clears⟩⟩, lastgaspAck_spec hs, ?commit⟩
  case dropped => exact lintAccept_dropped hbuf hs
  case merged => exact lintAccept_merged hbuf h
  case recorded => exact lintAccept_recorded hbuf hs h
  case again =>
    intro hbusy
    rw [exec_lintMirror hcold hen, if_pos hbusy]
    rfl
  case refused => exact lintMirror_refused hs hcold hen hbusy hro
  case begins => exact lintMirror_begins hs hcold hen hbusy hro
  case well => exact lintMirrorEnd_well hb hc ha hs hi
  case failed => exact lintMirrorEnd_failed hb hc ha hs hi st
  case read =>
    intro h hring k b hbad
    have hbytes : b = slotBytes (assocGet s.lint.slots k) := by
      simp only [b]
      cases assocGet s.lint.slots k <;> rfl
    rw [hbytes]
    exact lintRdSelWrite_spec hs h hring hbad
  case denied => exact lintClear_denied hs h
  case waits => exact lintClear_waits h hauth
  case clears => exact lintClear_clears hs h hauth
  case commit =>
    intro h e
    obtain ⟨t, hexec, hdone, hlint, hfields⟩ := lintsnapCommit_spec h
    refine ⟨t, hexec, hdone, hlint, fun f hf => ?_⟩
    obtain ⟨hoff, hmask⟩ := lintsnap_fields_staged f hf
    exact hfields f hoff hmask

end Sys2Proof.Machine
end

section
/-!
Access levels, the calibration set and the lamps (18_access.md R640-R659). Each action is a chain of writes of fields of its page
and one event, and a word that neither writes reads as before; what an action leaves follows field by field.
-/
namespace Sys2Proof.Machine

open Reg

/-! Fields and words after an event. -/

/-- An event writes no word, of any entry of any page, at an offset that no event's word has. -/
theorem regKey_notMem_raiseKeys {off : Nat} (ho : off < 2 ^ 12)
    (hn : off ∉ [INT_STATUS_STATUS.off, CHIP_STATUS_FATAL_SEEN.off, CHIP_ALERT_PEND.off, CHIP_ALERT_EVENT_EVENT.off,
      LINT_FILTERED_COUNT.off, LINT_DROPPED_COUNT.off]) (page q i : Nat) : regKey q i off ∉ raiseKeys page := by
  have hne {x : Nat} (hx : x < 2 ^ 12) (h : off ≠ x) (p : Nat) : regKey q i off ≠ regKey p 0 x := regKey_ne_of_off ho hx h
  simp only [List.mem_cons, List.not_mem_nil, or_false, not_or] at hn
  obtain ⟨hint, hfatal, hpend, hevent, hfiltered, hdropped⟩ := hn
  simp only [raiseKeys, List.mem_cons, List.not_mem_nil, or_false, not_or]
  exact ⟨hne (by decide) hint _, hne (by decide) hfatal _, hne (by decide) hpend _, hne (by decide) hevent _,
    hne (by decide) hint _, hne (by decide) hfiltered _, hne (by decide) hdropped _⟩

section
variable (s : State) (page : Nat) (e : Ev) (org : BitVec 16) (args : List Word)

theorem State.getI_raise_ne {q i : Nat} {g : Fld} (h : regKey q i g.off ∉ raiseKeys page) :
    (s.raise page e org args).getI q i g = s.getI q i g := congrArg g.of (State.raise_word s page e org args q i g.off h)

theorem State.flag_raise_ne {q : Nat} {g : Fld} (h : regKey q 0 g.off ∉ raiseKeys page) :
    (s.raise page e org args).flag q g = s.flag q g := congrArg (· != 0) (State.get_raise_ne page e org args h)

theorem State.word_record_chipStatus : (s.record page e org args).word Page.chip 0 CHIP_STATUS_FATAL_SEEN.off =
    s.word Page.chip 0 CHIP_STATUS_FATAL_SEEN.off := by
  unfold State.record
  split <;> exact State.word_setI_ne _ _ _ _ _ _ _ (by decide)

theorem State.word_alert_chipStatus : (s.alert page e).word Page.chip 0 CHIP_STATUS_FATAL_SEEN.off =
    s.word Page.chip 0 CHIP_STATUS_FATAL_SEEN.off := by
  unfold State.alert
  split
  · exact (Sparse.get_put_ne _ _ _ _ (by decide)).trans
      ((State.word_setI_ne _ _ _ _ _ _ _ (by decide)).trans (State.word_setI_ne _ _ _ _ _ _ _ (by decide)))
  · rfl

/-- Only a FATAL event writes CHIP_STATUS (R530). -/
theorem State.get_raise_chipStatus (he : e.sev ≠ 5) {g : Fld} (hg : g.off = CHIP_STATUS_FATAL_SEEN.off) :
    (s.raise page e org args).get Page.chip g = s.get Page.chip g := by
  have hlatch : (s.latch page e.sev).word Page.chip 0 CHIP_STATUS_FATAL_SEEN.off =
      s.word Page.chip 0 CHIP_STATUS_FATAL_SEEN.off :=
    Sparse.get_put_ne _ _ _ _ (regKey_ne_of_off (by decide) (by decide) (by decide))
  have hraise : s.raise page e org args = ((s.latch page e.sev).alert page e).record page e org args := by
    simp only [State.raise, he, if_false]
  rw [hraise, State.get, State.getI, hg, State.word_record_chipStatus, State.word_alert_chipStatus, hlatch, State.get,
    State.getI, hg]

end

/-! What an action of the access page reports. -/

/-- An action answered `st`, and the level is as before. -/
def State.answered (s t : State) (st : Status) : Prop :=
  t.get Page.access ACCESS_STATUS_STATUS = st.code ∧ t.get Page.access ACCESS_STATE_LEVEL = s.get Page.access ACCESS_STATE_LEVEL

/-- A level was opened: OK, the higher of the two levels stands, and Lint may be cleared (R640, R645). -/
def State.opened (s t : State) (level : Nat) : Prop :=
  t.get Page.access ACCESS_STATUS_STATUS = Status.ok.code ∧
    t.get Page.access ACCESS_STATE_LEVEL = max level (s.get Page.access ACCESS_STATE_LEVEL) ∧
    t.flag Page.access ACCESS_STATE_CLEAR_AUTH = true

theorem State.get_lastPath_access {s : State} (path : Path) {g : Fld} (ho : g.off < 2 ^ 12)
    (h : g.off ≠ PAGE_STATUS_LAST_PATH.off) (q : Nat) : (s.lastPath Page.access path).get q g = s.get q g :=
  State.get_lastPath_ne _ _ (regKey_ne_of_off ho (by decide) h)

/-- The bytes of four registers follow from what the registers read. -/
theorem State.fieldBytes_congr {s t : State} {p : Nat} {f : Fld}
    (h : ∀ n ∈ List.range 4, t.get p (f.nth n) = s.get p (f.nth n)) :
    ((List.range 4).flatMap fun n => leBytes 4 (t.get p (f.nth n))) =
      (List.range 4).flatMap fun n => leBytes 4 (s.get p (f.nth n)) :=
  congrArg List.flatten (List.map_congr_left fun n hn => congrArg (leBytes 4) (h n hn))

section
variable {s : State} {path : Path}

theorem State.answered_of_lastPath {t : State} {st : Status} (h : (s.lastPath Page.access path).answered t st) :
    s.answered t st := by
  rwa [State.answered, State.get_lastPath_access path (by decide) (by decide)] at h

theorem State.opened_of_lastPath {t : State} {n : Nat} (h : (s.lastPath Page.access path).opened t n) : s.opened t n := by
  rwa [State.opened, State.get_lastPath_access path (by decide) (by decide)] at h

end

section
variable {s : State} (st : Status)

theorem State.get_accessDone_ne {q : Nat} {g : Fld} (h : regKey q 0 g.off ≠ regKey Page.access 0 ACCESS_STATUS_STATUS.off) :
    (s.accessDone st).get q g = s.get q g := State.get_setStatus_ne _ _ _ h

@[simp] theorem State.accessDone_mgmt : (s.accessDone st).mgmt = s.mgmt := rfl

variable (hs : RegFile.wf s.regs = true)
include hs

theorem State.accessDone_wf : RegFile.wf (s.accessDone st).regs = true := State.wf_set hs _ _ _

theorem State.get_accessDone_status : (s.accessDone st).get Page.access ACCESS_STATUS_STATUS = st.code :=
  State.get_setStatus_self hs _ (by decide) rfl st

theorem State.answered_accessDone : s.answered (s.accessDone st) st :=
  ⟨State.get_accessDone_status st hs, State.get_accessDone_ne st (by decide)⟩

end

/-- An event of the access page leaves the answer. -/
theorem State.answered_raise {s t : State} {st : Status} (h : s.answered t st) (e : Ev) (org : BitVec 16) (args : List Word) :
    s.answered (t.raise Page.access e org args) st :=
  ⟨(State.get_raise_ne _ _ _ _ (by decide)).trans h.1, (State.get_raise_ne _ _ _ _ (by decide)).trans h.2⟩

theorem State.openLevel_opened {s : State} (hs : RegFile.wf s.regs = true) (path : Path) {n : Nat} (hn : n < 4) :
    s.opened (s.openLevel path n) n := by
  let u := s.set Page.access ACCESS_STATE_LEVEL (max n s.accessLevel)
  have hu : RegFile.wf u.regs = true := State.wf_set hs _ _ _
  have hauth : RegFile.wf (u.set Page.access ACCESS_STATE_CLEAR_AUTH 1).regs = true := State.wf_set hu _ _ _
  have hlevel : max n s.accessLevel < 2 ^ ACCESS_STATE_LEVEL.width := Nat.max_lt.2 ⟨hn, Fld.of_lt _ _⟩
  refine ⟨(State.get_raise_ne _ _ _ _ (by decide)).trans (State.get_accessDone_status _ hauth), ?level, ?auth⟩
  case level =>
    calc (s.openLevel path n).get Page.access ACCESS_STATE_LEVEL
        = (u.set Page.access ACCESS_STATE_CLEAR_AUTH 1).get Page.access ACCESS_STATE_LEVEL :=
          (State.get_raise_ne _ _ _ _ (by decide)).trans (State.get_accessDone_ne _ (by decide))
      _ = u.get Page.access ACCESS_STATE_LEVEL := State.get_set_disjoint hu _ _ _ _ rfl (by decide)
      _ = max n s.accessLevel := (State.get_set_self hs _ _ _ (by decide)).trans (Nat.mod_eq_of_lt hlevel)
  case auth =>
    have hkeep : (s.openLevel path n).get Page.access ACCESS_STATE_CLEAR_AUTH =
        (u.set Page.access ACCESS_STATE_CLEAR_AUTH 1).get Page.access ACCESS_STATE_CLEAR_AUTH :=
      (State.get_raise_ne _ _ _ _ (by decide)).trans (State.get_accessDone_ne _ (by decide))
    rw [State.flag, hkeep]
    exact State.flag_set_self hu _ (by decide) rfl Nat.one_lt_two

@[simp] theorem State.openLevel_mgmt (s : State) (path : Path) (n : Nat) : (s.openLevel path n).mgmt = s.mgmt := by
  simp [State.openLevel]

/-! The owner password (R642, R643). -/

/-- The words of the attempt are zeroed. -/
def State.zeroTries (s : State) : State := s.updMgmt fun m => { m with tries := Vector.replicate 8 0 }

/-- Whether the attempt is the owner's password. -/
def State.passwordHit (s : State) : Bool :=
  s.flag Page.access ACCESS_STATE_PW_SET && (sha256 (wordBytes s.mgmt.tries.toList)).take 16 == s.ownerDigest

/-- A failed attempt, counted and reported, before it may lock the password. -/
def State.failedOnce (s : State) (path : Path) : State :=
  (((s.add Page.access ACCESS_STATE_PW_FAILS 1).updMgmt fun m => { m with pwFailAt := some s.weave.wt }).accessDone
    .authFail).raise Page.access Ev.UNLOCK_FAIL (byPath path)

theorem State.passwordFail_eq (s : State) (path : Path) : s.passwordFail path =
    if 16 ≤ (s.failedOnce path).get Page.access ACCESS_STATE_PW_FAILS ∧
      (s.failedOnce path).flag Page.access ACCESS_STATE_PW_LOCKOUT = false then
    ((s.failedOnce path).set Page.access ACCESS_STATE_PW_LOCKOUT 1).raise Page.access Ev.LOCKOUT (byPath path)
    else s.failedOnce path := rfl

@[simp] theorem State.passwordFail_tries (s : State) (path : Path) : (s.passwordFail path).mgmt.tries = s.mgmt.tries := by
  rw [State.passwordFail_eq]
  split <;> simp [State.failedOnce]

/-- What one failed attempt leaves: AUTH_FAIL, a saturating count, the level. -/
theorem State.failedOnce_spec {s : State} (hs : RegFile.wf s.regs = true) (path : Path) :
    RegFile.wf (s.failedOnce path).regs = true ∧ s.answered (s.failedOnce path) .authFail ∧
      (s.failedOnce path).get Page.access ACCESS_STATE_PW_FAILS = min (s.get Page.access ACCESS_STATE_PW_FAILS + 1) 255 := by
  let u := (s.add Page.access ACCESS_STATE_PW_FAILS 1).updMgmt fun m => { m with pwFailAt := some s.weave.wt }
  have hu : RegFile.wf u.regs = true := State.wf_set hs _ _ _
  have hlevel : u.get Page.access ACCESS_STATE_LEVEL = s.get Page.access ACCESS_STATE_LEVEL :=
    State.get_set_disjoint hs _ _ _ _ rfl (by decide)
  have hdone : s.answered (u.accessDone .authFail) .authFail :=
    ⟨State.get_accessDone_status _ hu, (State.get_accessDone_ne _ (by decide)).trans hlevel⟩
  refine ⟨State.raise_wf _ _ _ _ _ (State.accessDone_wf _ hu), State.answered_raise hdone _ _ _, ?_⟩
  exact (State.get_raise_ne _ _ _ _ (by decide)).trans
    ((State.get_accessDone_ne _ (by decide)).trans (State.get_add_self hs Page.access ACCESS_STATE_PW_FAILS 1 (by decide)))

/-- A failed attempt; the sixteenth locks the password (R643). -/
theorem State.passwordFail_spec {s : State} (hs : RegFile.wf s.regs = true) (path : Path) :
    s.answered (s.passwordFail path) .authFail ∧
      (s.passwordFail path).get Page.access ACCESS_STATE_PW_FAILS = min (s.get Page.access ACCESS_STATE_PW_FAILS + 1) 255 ∧
      (15 ≤ s.get Page.access ACCESS_STATE_PW_FAILS →
        (s.passwordFail path).flag Page.access ACCESS_STATE_PW_LOCKOUT = true) := by
  obtain ⟨hwf, ⟨hstatus, hlevel⟩, hfails⟩ := State.failedOnce_spec hs path
  rw [State.passwordFail_eq]
  split
  case isTrue h =>
    have hsame (g : Fld) (ho : g.off = ACCESS_STATE_PW_LOCKOUT.off) (hd : g.lsb + g.width ≤ ACCESS_STATE_PW_LOCKOUT.lsb) :
        ((s.failedOnce path).set Page.access ACCESS_STATE_PW_LOCKOUT 1).get Page.access g =
          (s.failedOnce path).get Page.access g := State.get_set_disjoint hwf _ _ g 1 ho (.inr hd)
    have hlocked : s.answered ((s.failedOnce path).set Page.access ACCESS_STATE_PW_LOCKOUT 1) .authFail :=
      ⟨(State.get_set_ne _ _ _ _ _ (by decide)).trans hstatus, (hsame ACCESS_STATE_LEVEL rfl (by decide)).trans hlevel⟩
    refine ⟨State.answered_raise hlocked _ _ _, ?fails, fun _ => ?locked⟩
    case fails =>
      exact (State.get_raise_ne _ _ _ _ (by decide)).trans
        ((hsame ACCESS_STATE_PW_FAILS rfl (by decide)).trans hfails)
    case locked =>
      exact (State.flag_raise_ne _ _ _ _ _ (by decide)).trans (State.flag_set_self hwf _ (by decide) rfl Nat.one_lt_two)
  case isFalse h =>
    refine ⟨⟨hstatus, hlevel⟩, hfails, fun h15 => ?_⟩
    have h16 : 16 ≤ (s.failedOnce path).get Page.access ACCESS_STATE_PW_FAILS := by omega
    exact eq_true_of_ne_false fun hf => h ⟨h16, hf⟩

/-- An attempt does one of three things (R643). -/
theorem State.openPassword_eq (s : State) (path : Path) : s.openPassword path =
    if (!s.flag Page.access ACCESS_STATE_PW_LOCKOUT && s.pwTooSoon) = true then s.zeroTries.accessDone .busy
    else if (!s.flag Page.access ACCESS_STATE_PW_LOCKOUT && s.passwordHit) = true then s.zeroTries.openLevel path 1
    else s.zeroTries.passwordFail path := by
  rw [State.passwordHit, ← Bool.and_assoc]
  rfl

theorem State.openPassword_tries (s : State) (path : Path) : (s.openPassword path).mgmt.tries = Vector.replicate 8 0 := by
  rw [State.openPassword_eq]
  split
  · rfl
  · split <;> simp [State.zeroTries]

/-- The answers to an attempt. -/
theorem State.openPassword_spec {s : State} (hs : RegFile.wf s.regs = true) (path : Path) :
    let t := s.openPassword path
    let fails := s.get Page.access ACCESS_STATE_PW_FAILS
    let locked := s.flag Page.access ACCESS_STATE_PW_LOCKOUT
    (locked = false → s.pwTooSoon = true → s.answered t .busy ∧ t.get Page.access ACCESS_STATE_PW_FAILS = fails) ∧
      (locked = false → s.pwTooSoon = false → s.passwordHit = true → s.opened t 1) ∧
      (locked = true ∨ (s.pwTooSoon = false ∧ s.passwordHit = false) → s.answered t .authFail ∧
        t.get Page.access ACCESS_STATE_PW_FAILS = min (fails + 1) 255 ∧
        (15 ≤ fails → t.flag Page.access ACCESS_STATE_PW_LOCKOUT = true)) := by
  intro t fails locked
  have ht : t = if (!locked && s.pwTooSoon) = true then s.zeroTries.accessDone .busy
      else if (!locked && s.passwordHit) = true then s.zeroTries.openLevel path 1
      else s.zeroTries.passwordFail path := s.openPassword_eq path
  refine ⟨fun hl hsoon => ?soon, fun hl hsoon hhit => ?opens, fun h => ?fails⟩
  case soon =>
    rw [ht, if_pos (by simp [hl, hsoon])]
    exact ⟨State.answered_accessDone (s := s.zeroTries) _ hs, State.get_accessDone_ne (s := s.zeroTries) _ (by decide)⟩
  case opens =>
    rw [ht, if_neg (by simp [hsoon]), if_pos (by simp [hl, hhit])]
    exact State.openLevel_opened (s := s.zeroTries) hs path (by decide)
  case fails =>
    have hno : (!locked && s.pwTooSoon) = false ∧ (!locked && s.passwordHit) = false := by
      rcases h with hl | ⟨hsoon, hhit⟩
      · simp [hl]
      · simp [hsoon, hhit]
    rw [ht, if_neg (by simp [hno.1]), if_neg (by simp [hno.2])]
    exact State.passwordFail_spec (s := s.zeroTries) hs path


theorem exec_openPw {path : Path} {s : State} (h : s.takesWrite path Page.access ACCESS_CTRL_OPEN_PW.off) :
    exec (.openPw path) s = .next ((s.lastPath Page.access path).openPassword path) :=
  congrArg Host.Outcome.next (State.writeReg_of_takesWrite h _)

theorem openPw_spec {path : Path} {s : State} (hs : RegFile.wf s.regs = true)
    (h : s.takesWrite path Page.access ACCESS_CTRL_OPEN_PW.off) :
    let fails := s.get Page.access ACCESS_STATE_PW_FAILS
    let locked := s.flag Page.access ACCESS_STATE_PW_LOCKOUT
    ∃ t, exec (.openPw path) s = .next t ∧ t.mgmt.tries = Vector.replicate 8 0 ∧
      (locked = false → s.pwTooSoon = true → s.answered t .busy ∧ t.get Page.access ACCESS_STATE_PW_FAILS = fails) ∧
      (locked = false → s.pwTooSoon = false → s.passwordHit = true → s.opened t 1) ∧
      (locked = true ∨ (s.pwTooSoon = false ∧ s.passwordHit = false) → s.answered t .authFail ∧
        t.get Page.access ACCESS_STATE_PW_FAILS = min (fails + 1) 255 ∧
        (15 ≤ fails → t.flag Page.access ACCESS_STATE_PW_LOCKOUT = true)) := by
  intro fails locked
  have hread (g : Fld) (ho : g.off < 2 ^ 12) (hne : g.off ≠ PAGE_STATUS_LAST_PATH.off) :=
    State.get_lastPath_access (s := s) path ho hne Page.access
  have hdigest : (s.lastPath Page.access path).ownerDigest = s.ownerDigest := by
    have hword : ∀ n ∈ List.range 4, (ACCESS_OWNER_PW_DIGEST.nth n).off < 2 ^ 12 ∧
        (ACCESS_OWNER_PW_DIGEST.nth n).off ≠ PAGE_STATUS_LAST_PATH.off := by decide
    exact State.fieldBytes_congr fun n hn => hread _ (hword n hn).1 (hword n hn).2
  have hhit : (s.lastPath Page.access path).passwordHit = s.passwordHit := by
    rw [State.passwordHit, hdigest, State.flag, hread _ (by decide) (by decide)]
    rfl
  obtain ⟨hbusy, hopen, hfail⟩ := State.openPassword_spec (State.lastPath_wf hs Page.access path) path
  rw [State.flag, hread _ (by decide) (by decide)] at hbusy hopen hfail
  rw [hhit] at hopen hfail
  rw [hread _ (by decide) (by decide)] at hbusy hfail
  exact ⟨_, exec_openPw h, State.openPassword_tries _ _,
    fun hl hsoon => (hbusy hl hsoon).imp_left State.answered_of_lastPath,
    fun hl hsoon hhit => State.opened_of_lastPath (hopen hl hsoon hhit),
    fun hno => (hfail hno).imp_left State.answered_of_lastPath⟩

/-! Challenge and response (R644). -/

theorem RawFrame.wf {s t : State} (h : RawFrame s t) (hs : RegFile.wf s.regs = true) : RegFile.wf t.regs = true := by
  obtain ⟨p, -, hwf, -⟩ := h
  exact hwf hs

theorem RawFrame.get_ne {s t : State} (h : RawFrame s t) {q : Nat} {g : Fld} (hk : regKey q 0 g.off ∉ rawKeys) :
    t.get q g = s.get q g := by
  obtain ⟨p, -, -, hword⟩ := h
  exact congrArg g.of (hword q 0 g.off hk)

theorem RawFrame.mgmt {s t : State} (h : RawFrame s t) : t.mgmt = s.mgmt := by
  obtain ⟨p, ⟨r, b, rfl⟩, -⟩ := h
  rfl

theorem State.conditioned_congr {s t : State} (h : t.spin = s.spin) : t.conditioned = s.conditioned := by
  rw [State.conditioned, h, State.conditioned]

/-- The live nonce is used up. -/
def State.dropNonce (s : State) : State := s.updMgmt fun m => { m with nonce := false }

/-- The conditioner once a challenge has offered it raw bits. -/
def State.challenged (s : State) (raw : List Byte) : State :=
  if s.dropNonce.emptyBlock.entropy then State.fillBlock raw s.dropNonce.emptyBlock else s.dropNonce.emptyBlock

/-- The block that the conditioner gives a challenge. -/
def State.challengeBlock (s : State) (raw : List Byte) : Option (List Byte) :=
  if s.entropy then (State.fillBlock raw s.emptyBlock).conditioned else none

theorem State.challenged_frame (s : State) (raw : List Byte) : RawFrame s.dropNonce (s.challenged raw) := by
  have hempty : RawFrame s.dropNonce s.dropNonce.emptyBlock := RawFrame.updSpin _ _
  unfold State.challenged
  split
  · exact hempty.trans (State.fillBlock_frame _ _)
  · exact hempty

theorem State.challenged_conditioned (s : State) (raw : List Byte) : (s.challenged raw).conditioned = s.challengeBlock raw := by
  have hentropy : s.dropNonce.emptyBlock.entropy = s.entropy := rfl
  unfold State.challenged State.challengeBlock
  rw [hentropy]
  split
  · exact State.conditioned_congr (State.fillBlock_spin raw rfl)
  · rfl

/-- The four words of the nonce take the first bytes of a block. -/
def State.latchNonce (s : State) (n : Nat) (d : List Byte) : State :=
  eachOf (List.range n) (fun n s => s.set Page.access (ACCESS_NONCE_NONCE.nth n) (field d (4 * n) 4)) s

theorem State.challenge_eq (s : State) (raw : List Byte) : s.challenge raw =
    match s.challengeBlock raw with
    | some d => (((s.challenged raw).emptyBlock.latchNonce 4 d).updMgmt fun m => { m with nonce := true }).accessDone .ok
    | none => (s.challenged raw).emptyBlock.accessDone .notReady := by
  rw [← State.challenged_conditioned]
  rfl

section
variable (s : State) (d : List Byte)

theorem State.latchNonce_succ (n : Nat) : s.latchNonce (n + 1) d =
    (s.latchNonce n d).set Page.access (ACCESS_NONCE_NONCE.nth n) (field d (4 * n) 4) := eachOf_range_succ _ _ _

theorem State.get_latchNonce_ne {q : Nat} {g : Fld} (hg : g.off < ACCESS_NONCE_NONCE.off) {n : Nat} (hn : n ≤ 4) :
    (s.latchNonce n d).get q g = s.get q g := by
  induction n with
  | zero => rfl
  | succ n ih =>
    have hoff : (ACCESS_NONCE_NONCE.nth n).off = 128 + 4 * n := rfl
    have hg' : g.off < 128 := hg
    rw [State.latchNonce_succ, State.get_set_ne _ _ _ _ _ (regKey_ne_of_off (by omega) (by omega) (by omega)), ih (by omega)]

variable {s} (hs : RegFile.wf s.regs = true)
include hs

theorem State.latchNonce_wf (n : Nat) : RegFile.wf (s.latchNonce n d).regs = true := by
  induction n with
  | zero => exact hs
  | succ n ih =>
    rw [State.latchNonce_succ]
    exact State.wf_set ih _ _ _

theorem State.get_latchNonce {n : Nat} (hn : n ≤ 4) {k : Nat} (hk : k < n) :
    (s.latchNonce n d).get Page.access (ACCESS_NONCE_NONCE.nth k) = field d (4 * k) 4 := by
  induction n with
  | zero => exact absurd hk (Nat.not_lt_zero k)
  | succ n ih =>
    have hoff (m : Nat) : (ACCESS_NONCE_NONCE.nth m).off = 128 + 4 * m := rfl
    rw [State.latchNonce_succ]
    by_cases e : k = n
    · subst e
      exact (State.get_set_self (State.latchNonce_wf d hs k) _ _ _ (by change 0 + 32 ≤ 32; decide)).trans
        (Nat.mod_eq_of_lt (field_lt_of_four d _))
    · rw [State.get_set_ne _ _ _ _ _ (regKey_ne_of_off (by rw [hoff]; omega) (by rw [hoff]; omega) (by rw [hoff, hoff]; omega))]
      exact ih (by omega) (by omega)

end

theorem State.challenge_ok {s : State} (hs : RegFile.wf s.regs = true) {raw : List Byte} {d : List Byte}
    (hd : s.challengeBlock raw = some d) : s.answered (s.challenge raw) .ok ∧ (s.challenge raw).mgmt.nonce = true ∧
      ∀ n, n < 4 → (s.challenge raw).get Page.access (ACCESS_NONCE_NONCE.nth n) = field d (4 * n) 4 := by
  have hframe := s.challenged_frame raw
  have hwf : RegFile.wf (s.challenged raw).emptyBlock.regs = true := hframe.wf hs
  let u := ((s.challenged raw).emptyBlock.latchNonce 4 d).updMgmt fun m => { m with nonce := true }
  have hu : RegFile.wf u.regs = true := State.latchNonce_wf d hwf 4
  have hlevel : u.get Page.access ACCESS_STATE_LEVEL = s.get Page.access ACCESS_STATE_LEVEL :=
    (State.get_latchNonce_ne _ d (by decide) (Nat.le_refl 4)).trans (hframe.get_ne (by decide))
  rw [State.challenge_eq, hd]
  refine ⟨⟨State.get_accessDone_status _ hu, (State.get_accessDone_ne _ (by decide)).trans hlevel⟩, rfl, fun n hn => ?_⟩
  have hoff : (ACCESS_NONCE_NONCE.nth n).off = 128 + 4 * n := rfl
  exact (State.get_accessDone_ne _ (regKey_ne_of_off (by omega) (by decide) (by rw [hoff]; change 128 + 4 * n ≠ 72; omega))).trans
    (State.get_latchNonce d hwf (Nat.le_refl 4) hn)

theorem State.challenge_notReady {s : State} (hs : RegFile.wf s.regs = true) {raw : List Byte}
    (hd : s.challengeBlock raw = none) : s.answered (s.challenge raw) .notReady ∧ (s.challenge raw).mgmt.nonce = false := by
  have hframe := s.challenged_frame raw
  have hwf : RegFile.wf (s.challenged raw).emptyBlock.regs = true := hframe.wf hs
  rw [State.challenge_eq, hd]
  exact ⟨⟨State.get_accessDone_status _ hwf, (State.get_accessDone_ne _ (by decide)).trans (hframe.get_ne (by decide))⟩,
    congrArg Mgmt.nonce hframe.mgmt⟩

theorem chal_spec {path : Path} {s : State} (raw : List Byte) (hs : RegFile.wf s.regs = true)
    (h : s.takesWrite path Page.access ACCESS_CTRL_CHAL.off) :
    ∃ t, exec (.chal path raw) s = .next t ∧
      (∀ d, s.challengeBlock raw = some d → s.answered t .ok ∧ t.mgmt.nonce = true ∧
        ∀ n, n < 4 → t.get Page.access (ACCESS_NONCE_NONCE.nth n) = field d (4 * n) 4) ∧
      (s.challengeBlock raw = none → s.answered t .notReady ∧ t.mgmt.nonce = false) := by
  have hs' := State.lastPath_wf hs Page.access path
  have hblock : (s.lastPath Page.access path).challengeBlock raw = s.challengeBlock raw := by
    unfold State.challengeBlock
    rw [State.conditioned_congr (State.fillBlock_spin raw (s := (s.lastPath Page.access path).emptyBlock) (u := s.emptyBlock) rfl)]
    rfl
  refine ⟨(s.lastPath Page.access path).challenge raw, congrArg Host.Outcome.next (State.writeReg_of_takesWrite h _),
    fun d hd => ?_, fun hd => ?_⟩
  · exact (State.challenge_ok hs' (hblock.trans hd)).imp_left State.answered_of_lastPath
  · exact (State.challenge_notReady hs' (hblock.trans hd)).imp_left State.answered_of_lastPath

/-- Whether the signature in SIG is one of the level over the live nonce. -/
def State.signed (s : State) (level : Nat) : Bool :=
  let sig := wordBytes s.mgmt.sig.toList
  ecdsaOk Config.debugKeyX Config.debugKeyY (s.signedDigest level) (beNat (slice sig 0 32)) (beNat (slice sig 32 32))

/-- A response does one of four things (R644). -/
theorem State.respond_eq {s : State} {n : Nat} (hn : s.get Page.access ACCESS_CTRL_REQ_LEVEL = n) (path : Path) : s.respond path =
    if s.mgmt.nonce = false then s.accessDone .notReady
    else if n = 0 ∨ n = 3 then s.dropNonce.accessDone .param
    else if s.signed n = true then s.dropNonce.openLevel path n
    else (s.dropNonce.accessDone .authFail).raise Page.access Ev.UNLOCK_FAIL (byPath path) := by
  subst hn
  rfl

theorem State.dropNonce_of_used {s : State} (h : s.mgmt.nonce = false) : { s.mgmt with nonce := false } = s.mgmt := by
  rw [← h]

theorem State.respond_mgmt (s : State) (path : Path) : (s.respond path).mgmt = { s.mgmt with nonce := false } := by
  rw [State.respond_eq rfl]
  split
  next h => exact (State.dropNonce_of_used h).symm
  next =>
    split
    · rfl
    · split
      · exact State.openLevel_mgmt _ _ _
      · exact State.raise_mgmt _ _ _ _ _

theorem State.respond_spec {s : State} (hs : RegFile.wf s.regs = true) {n : Nat}
    (hn : s.get Page.access ACCESS_CTRL_REQ_LEVEL = n) (path : Path) :
    (s.mgmt.nonce = false → s.answered (s.respond path) .notReady) ∧
      (s.mgmt.nonce = true →
        if n = 1 ∨ n = 2 then if s.signed n then s.opened (s.respond path) n else s.answered (s.respond path) .authFail
        else s.answered (s.respond path) .param) := by
  have h4 : n < 4 := hn ▸ Fld.of_lt _ _
  have hdrop : RegFile.wf s.dropNonce.regs = true := hs
  rw [State.respond_eq hn]
  refine ⟨fun hused => ?_, fun hlive => ?_⟩
  · rw [if_pos hused]
    exact State.answered_accessDone _ hs
  · have hunused : ¬ s.mgmt.nonce = false := by simp [hlive]
    rw [if_neg hunused]
    by_cases hlevel : n = 1 ∨ n = 2
    · have hvalid : ¬ (n = 0 ∨ n = 3) := by omega
      rw [if_pos hlevel, if_neg hvalid]
      split
      next => exact State.openLevel_opened hdrop path h4
      next => exact State.answered_raise (State.answered_accessDone (s := s.dropNonce) _ hdrop) _ _ _
    · have hinvalid : n = 0 ∨ n = 3 := by omega
      rw [if_neg hlevel, if_pos hinvalid]
      exact State.answered_accessDone (s := s.dropNonce) _ hdrop

/-- The header does not say what is signed. -/
theorem State.signed_lastPath (s : State) (path : Path) (n : Nat) : (s.lastPath Page.access path).signed n = s.signed n := by
  let u := s.lastPath Page.access path
  have hread (g : Fld) (ho : g.off < 2 ^ 12) (hne : g.off ≠ PAGE_STATUS_LAST_PATH.off) (q : Nat) : u.get q g = s.get q g :=
    State.get_lastPath_access path ho hne q
  have hnonce : ∀ n ∈ List.range 4, (ACCESS_NONCE_NONCE.nth n).off < 2 ^ 12 ∧
      (ACCESS_NONCE_NONCE.nth n).off ≠ PAGE_STATUS_LAST_PATH.off := by decide
  have hbytes : ((List.range 4).flatMap fun n => leBytes 4 (u.get Page.access (ACCESS_NONCE_NONCE.nth n))) =
      (List.range 4).flatMap fun n => leBytes 4 (s.get Page.access (ACCESS_NONCE_NONCE.nth n)) :=
    State.fieldBytes_congr fun n hn => hread _ (hnonce n hn).1 (hnonce n hn).2 _
  have hdigest : u.signedDigest n = s.signedDigest n := by
    rw [State.signedDigest, hbytes, hread _ (by decide) (by decide), hread _ (by decide) (by decide), State.signedDigest]
  change u.signed n = _
  rw [State.signed, hdigest, State.signed]
  rfl

theorem resp_spec {path : Path} {s : State} (hs : RegFile.wf s.regs = true)
    (h : s.takesWrite path Page.access ACCESS_CTRL_RESP.off) :
    let n := s.get Page.access ACCESS_CTRL_REQ_LEVEL
    ∃ t, exec (.resp path) s = .next t ∧ t.mgmt = { s.mgmt with nonce := false } ∧
      (s.mgmt.nonce = false → s.answered t .notReady) ∧
      (s.mgmt.nonce = true →
        if n = 1 ∨ n = 2 then if s.signed n then s.opened t n else s.answered t .authFail else s.answered t .param) := by
  intro n
  obtain ⟨hused, hlive⟩ := State.respond_spec (State.lastPath_wf hs Page.access path) (n := n)
    (State.get_lastPath_access path (by decide) (by decide) _) path
  rw [State.signed_lastPath] at hlive
  have hlevel : (s.lastPath Page.access path).get Page.access ACCESS_STATE_LEVEL = s.get Page.access ACCESS_STATE_LEVEL :=
    State.get_lastPath_access path (by decide) (by decide) _
  simp only [State.answered, State.opened, hlevel] at hused hlive
  exact ⟨(s.lastPath Page.access path).respond path, congrArg Host.Outcome.next (State.writeReg_of_takesWrite h _),
    State.respond_mgmt _ _, hused, hlive⟩

/-! CLOSE (R645). -/

theorem State.closeAccess_spec {s : State} (hs : RegFile.wf s.regs = true) (path : Path) :
    let t := s.closeAccess path
    t.get Page.access ACCESS_STATUS_STATUS = Status.ok.code ∧ t.get Page.access ACCESS_STATE_LEVEL = 0 ∧
      t.flag Page.access ACCESS_STATE_CLEAR_AUTH = false ∧ t.cores = s.cores := by
  let u := s.set Page.access ACCESS_STATE_LEVEL 0
  have hu : RegFile.wf u.regs = true := State.wf_set hs _ _ _
  have hauth : RegFile.wf (u.set Page.access ACCESS_STATE_CLEAR_AUTH 0).regs = true := State.wf_set hu _ _ _
  have hkeep (g : Fld) (hg : g.off = ACCESS_STATE_LEVEL.off) : (s.closeAccess path).get Page.access g =
      (u.set Page.access ACCESS_STATE_CLEAR_AUTH 0).get Page.access g :=
    (State.get_raise_ne _ _ _ _ (by rw [hg]; decide)).trans (State.get_accessDone_ne _ (by rw [hg]; decide))
  refine ⟨(State.get_raise_ne _ _ _ _ (by decide)).trans (State.get_accessDone_status _ hauth), ?level, ?auth,
    State.raise_cores _ _ _ _ _⟩
  case level =>
    exact (hkeep ACCESS_STATE_LEVEL rfl).trans
      ((State.get_set_disjoint hu Page.access ACCESS_STATE_CLEAR_AUTH ACCESS_STATE_LEVEL 0 rfl (by decide)).trans
        (State.get_set_self hs _ _ _ (by decide)))
  case auth =>
    rw [State.flag, hkeep ACCESS_STATE_CLEAR_AUTH rfl]
    exact State.flag_set_self hu _ (by decide) rfl Nat.zero_lt_two

theorem close_spec {path : Path} {s : State} (hs : RegFile.wf s.regs = true)
    (h : s.takesWrite path Page.access ACCESS_CTRL_CLOSE.off) : ∃ t, exec (.close path) s = .next t ∧
      t.get Page.access ACCESS_STATUS_STATUS = Status.ok.code ∧ t.get Page.access ACCESS_STATE_LEVEL = 0 ∧
      t.flag Page.access ACCESS_STATE_CLEAR_AUTH = false ∧ t.cores = s.cores :=
  ⟨(s.lastPath Page.access path).closeAccess path, congrArg Host.Outcome.next (State.writeReg_of_takesWrite h _),
    State.closeAccess_spec (State.lastPath_wf hs Page.access path) path⟩

/-! A commit of calibration items (R649). -/

/-- The sum of the powers of two of some numbers below `n`. -/
def sumBits (p : Nat → Bool) (n : Nat) : Nat := (((List.range n).filter p).map fun i => 2 ^ i).sum

theorem sumBits_succ (p : Nat → Bool) (n : Nat) : sumBits p (n + 1) = if p n then 2 ^ n + sumBits p n else sumBits p n := by
  unfold sumBits
  rw [List.range_succ, List.filter_append, List.map_append, List.sum_append]
  by_cases h : p n = true
  · rw [if_pos h, List.filter_cons_of_pos h, List.filter_nil, List.map_singleton, List.sum_singleton, Nat.add_comm]
  · rw [if_neg h, List.filter_cons_of_neg h, List.filter_nil, List.map_nil, List.sum_nil, Nat.add_zero]

theorem sumBits_lt (p : Nat → Bool) (n : Nat) : sumBits p n < 2 ^ n := by
  induction n with
  | zero => exact Nat.one_pos
  | succ n ih =>
    rw [sumBits_succ, Nat.pow_succ]
    split <;> omega

/-- Its bits are those numbers. -/
theorem testBit_sumBits (p : Nat → Bool) (n i : Nat) : (sumBits p n).testBit i = (decide (i < n) && p i) := by
  induction n with
  | zero => exact Nat.zero_testBit i
  | succ n ih =>
    have hlt := sumBits_lt p n
    have hlt' := sumBits_lt p (n + 1)
    rcases Nat.lt_trichotomy i n with h | rfl | h
    · have hstep : (sumBits p (n + 1)).testBit i = (sumBits p n).testBit i := by
        rw [sumBits_succ]
        split
        · exact Nat.testBit_two_pow_add_gt h _
        · rfl
      rw [hstep, ih, decide_eq_true h, decide_eq_true (Nat.lt_succ_of_lt h)]
    · have hstep : (sumBits p (i + 1)).testBit i = p i := by
        rw [sumBits_succ]
        split
        next hp => rw [Nat.testBit_two_pow_add_eq, Nat.testBit_lt_two_pow hlt, hp, Bool.not_false]
        next hp => rw [Nat.testBit_lt_two_pow hlt, Bool.eq_false_iff.2 hp]
      rw [hstep, decide_eq_true (Nat.lt_succ_self i), Bool.true_and]
    · have hout : ¬ i < n + 1 := by omega
      rw [Nat.testBit_lt_two_pow (Nat.lt_of_lt_of_le hlt' (Nat.pow_le_pow_right (by decide) h)), decide_eq_false hout,
        Bool.false_and]

/-- The factory flags that stay when items of some sections are replaced. -/
def factoryLeft (flags : Nat) (sections : List Nat) : Nat :=
  (([1, 2, 3, 4, 5, 6].filter fun x => flags.testBit (x - 1) && !sections.contains x).map fun x => 2 ^ (x - 1)).sum

theorem factoryLeft_eq (flags : Nat) (sections : List Nat) :
    factoryLeft flags sections = sumBits (fun y => flags.testBit y && !sections.contains (y + 1)) 6 := by
  have hrange : [1, 2, 3, 4, 5, 6] = (List.range 6).map (· + 1) := rfl
  rw [factoryLeft, hrange, List.filter_map, List.map_map]
  rfl

theorem testBit_factoryLeft (flags : Nat) {sections : List Nat} {sec : Nat} (h1 : 1 ≤ sec) (hmem : sec ∈ sections) :
    (factoryLeft flags sections).testBit (sec - 1) = false := by
  rw [factoryLeft_eq, testBit_sumBits, Nat.sub_add_cancel h1, List.contains_iff_mem.2 hmem, Bool.not_true, Bool.and_false,
    Bool.and_false]

/-- The registers after items of some sections are replaced, before the event. -/
def State.calReplaced (s : State) (sections : List Nat) : State :=
  let u := (s.set Page.cal CAL_STATUS_FACTORY (factoryLeft (s.get Page.cal CAL_STATUS_FACTORY) sections)).set Page.cal
    CAL_STATUS_NOR_BUSY 1
  if sections.any [1, 2, 3, 5].contains then u.set Page.chip CHIP_STATUS_CAL_VALID 0 else u

theorem State.calCommitted_eq (s : State) (sections : List Nat) :
    s.calCommitted sections = (s.calReplaced sections).raise Page.cal Ev.CAL_WRITE := rfl

/-- The keys of the words that a commit of calibration items may write beside the items. -/
def calKeysWritten : List Nat := regKey Page.cal 0 CAL_STATUS_FACTORY.off :: raiseKeys Page.cal

theorem regKey_calData_notMem (k : Nat) : regKey Page.cal k CAL_DATA_DATA.off ∉ calKeysWritten :=
  List.not_mem_cons_of_ne_of_not_mem (regKey_ne_of_off (by decide) (by decide) (by decide))
    (regKey_notMem_raiseKeys (by decide) (by decide) _ _ _)

section
variable {s : State} (sections : List Nat)

theorem State.getI_calReplaced_ne {q i : Nat} {g : Fld} (hcal : regKey q i g.off ≠ regKey Page.cal 0 CAL_STATUS_FACTORY.off)
    (hchip : regKey q i g.off ≠ regKey Page.chip 0 CHIP_STATUS_FATAL_SEEN.off) :
    (s.calReplaced sections).getI q i g = s.getI q i g := by
  have hu (v : Nat) : ((s.set Page.cal CAL_STATUS_FACTORY v).set Page.cal CAL_STATUS_NOR_BUSY 1).getI q i g = s.getI q i g :=
    (State.getI_setI_ne Page.cal 0 CAL_STATUS_NOR_BUSY 1 q i g hcal).trans
      (State.getI_setI_ne Page.cal 0 CAL_STATUS_FACTORY v q i g hcal)
  unfold State.calReplaced
  dsimp only
  split
  · exact (State.getI_setI_ne Page.chip 0 CHIP_STATUS_CAL_VALID 0 q i g hchip).trans (hu _)
  · exact hu _

/-- A field that a commit of items leaves. -/
theorem State.getI_calCommitted_ne {q i : Nat} {g : Fld} (h : regKey q i g.off ∉ calKeysWritten) :
    (s.calCommitted sections).getI q i g = s.getI q i g := by
  obtain ⟨hcal, hraise⟩ := List.ne_and_not_mem_of_not_mem_cons h
  have hchip : regKey q i g.off ≠ regKey Page.chip 0 CHIP_STATUS_FATAL_SEEN.off := fun e =>
    hraise (by rw [e]; decide)
  exact (State.getI_raise_ne _ _ _ _ _ hraise).trans (State.getI_calReplaced_ne sections hcal hchip)

@[simp] theorem State.calCommitted_touched : (s.calCommitted sections).touched = s.touched := by
  rw [State.calCommitted_eq, State.raise_touched]
  unfold State.calReplaced
  dsimp only
  split <;> rfl

variable (hs : RegFile.wf s.regs = true)
include hs

theorem State.calReplaced_wf : RegFile.wf (s.calReplaced sections).regs = true := by
  have hu (v : Nat) : RegFile.wf ((s.set Page.cal CAL_STATUS_FACTORY v).set Page.cal CAL_STATUS_NOR_BUSY 1).regs = true :=
    State.wf_set (State.wf_set hs _ _ _) _ _ _
  unfold State.calReplaced
  dsimp only
  split
  · exact State.wf_set (hu _) _ _ _
  · exact hu _

theorem State.calCommitted_wf : RegFile.wf (s.calCommitted sections).regs = true :=
  State.raise_wf _ _ _ _ _ (State.calReplaced_wf sections hs)

/-- What CAL_STATUS reads after a commit: the flags that stay, and the rewrite runs. -/
theorem State.calCommitted_status :
    (s.calCommitted sections).get Page.cal CAL_STATUS_FACTORY =
        factoryLeft (s.get Page.cal CAL_STATUS_FACTORY) sections % 2 ^ CAL_STATUS_FACTORY.width ∧
      (s.calCommitted sections).flag Page.cal CAL_STATUS_NOR_BUSY = true := by
  let v := factoryLeft (s.get Page.cal CAL_STATUS_FACTORY) sections
  let u := (s.set Page.cal CAL_STATUS_FACTORY v).set Page.cal CAL_STATUS_NOR_BUSY 1
  have hv : RegFile.wf (s.set Page.cal CAL_STATUS_FACTORY v).regs = true := State.wf_set hs _ _ _
  have hkeep (g : Fld) (hg : g.off = CAL_STATUS_FACTORY.off) : (s.calCommitted sections).get Page.cal g = u.get Page.cal g := by
    have hreplaced : (s.calReplaced sections).get Page.cal g = u.get Page.cal g := by
      unfold State.calReplaced
      dsimp only
      split
      · exact State.get_set_ne _ _ _ _ _ (by rw [hg]; decide)
      · rfl
    exact (State.get_raise_ne _ _ _ _ (by rw [hg]; decide)).trans hreplaced
  have hfactory : u.get Page.cal CAL_STATUS_FACTORY = v % 2 ^ CAL_STATUS_FACTORY.width :=
    (State.get_set_disjoint hv Page.cal CAL_STATUS_NOR_BUSY CAL_STATUS_FACTORY 1 rfl (by decide)).trans
      (State.get_set_self hs Page.cal CAL_STATUS_FACTORY v (by decide))
  refine ⟨(hkeep _ rfl).trans hfactory, ?_⟩
  rw [State.flag, hkeep CAL_STATUS_NOR_BUSY rfl]
  exact State.flag_set_self hv Page.cal (by decide) rfl Nat.one_lt_two

/-- The chip's calibration is no longer valid once a section that it needs was replaced (R648, R649). -/
theorem State.calCommitted_calValid {sec : Nat} (hmem : sec ∈ sections) (hneed : sec ∈ [1, 2, 3, 5]) :
    (s.calCommitted sections).flag Page.chip CHIP_STATUS_CAL_VALID = false := by
  have hany : sections.any [1, 2, 3, 5].contains = true := List.any_eq_true.2 ⟨sec, hmem, List.contains_iff_mem.2 hneed⟩
  have hu (v : Nat) : RegFile.wf ((s.set Page.cal CAL_STATUS_FACTORY v).set Page.cal CAL_STATUS_NOR_BUSY 1).regs = true :=
    State.wf_set (State.wf_set hs _ _ _) _ _ _
  have hkeep : (s.calCommitted sections).get Page.chip CHIP_STATUS_CAL_VALID =
      (s.calReplaced sections).get Page.chip CHIP_STATUS_CAL_VALID :=
    State.get_raise_chipStatus (s.calReplaced sections) Page.cal Ev.CAL_WRITE byBlock [] (by decide) rfl
  rw [State.flag, hkeep, State.calReplaced, if_pos hany]
  exact State.flag_set_self (hu _) Page.chip (by decide) rfl Nat.zero_lt_two

end

/-- The commit of an item names a section. -/
theorem State.calCheck_ok {s : State} (h : s.calCheck = .ok) : 1 ≤ s.get Page.cal CAL_SEL_SECTION := by
  refine Nat.one_le_iff_ne_zero.2 fun h0 => ?_
  have hnone : calCount 0 ≤ s.get Page.cal CAL_SEL_INDEX := Nat.zero_le _
  rw [State.calCheck, h0, if_pos hnone] at h
  exact Status.noConfusion h

/-- The live copies when a COMMIT of an item is applied. -/
def State.calLive (s : State) (path : Path) : State :=
  ((s.atCommit path Page.cal).copyLive path Page.cal .cal [0]).untouch Page.cal .cal [0]

theorem State.appliedOne_cal (s : State) (path : Path) : s.appliedOne path Page.cal .cal 0 =
    ((s.calLive path).calCommitted [(s.calLive path).get Page.cal CAL_SEL_SECTION]).committed Page.cal .ok 0 := rfl

/-- The index of an item. -/
theorem State.entryIdx_cal (s : State) (path : Path) : s.entryIdx path Page.cal CAL_DATA_DATA.off =
    256 * s.get Page.cal CAL_SEL_SECTION + s.get Page.cal CAL_SEL_INDEX := rfl

theorem State.calLive_spec {s : State} (hs : RegFile.wf s.regs = true) (path : Path) :
    RegFile.wf (s.calLive path).regs = true ∧
      (s.calLive path).get Page.cal CAL_SEL_SECTION = s.get Page.cal CAL_SEL_SECTION ∧
      (s.calLive path).getI Page.cal (256 * s.get Page.cal CAL_SEL_SECTION + s.get Page.cal CAL_SEL_INDEX) CAL_DATA_DATA =
        (s.stagedWord Page.cal CAL_DATA_DATA.off).toNat := by
  have hcommit : RegFile.wf (s.atCommit path Page.cal).regs = true := State.atCommit_wf hs
  have hatsel : (s.atCommit path Page.cal).word Page.cal 0 CAL_SEL_SECTION.off = s.word Page.cal 0 CAL_SEL_SECTION.off :=
    State.word_atCommit s (by decide) (by decide) (by decide) _ _
  have hidx (u : State)
      (hu : u.word Page.cal 0 CAL_SEL_SECTION.off = (s.atCommit path Page.cal).word Page.cal 0 CAL_SEL_SECTION.off) :
      u.entryIdx path Page.cal CAL_DATA_DATA.off =
        256 * s.get Page.cal CAL_SEL_SECTION + s.get Page.cal CAL_SEL_INDEX := by
    have hsel := hu.trans hatsel
    have hsection : u.get Page.cal CAL_SEL_SECTION = s.get Page.cal CAL_SEL_SECTION := congrArg CAL_SEL_SECTION.of hsel
    have hindex : u.get Page.cal CAL_SEL_INDEX = s.get Page.cal CAL_SEL_INDEX := congrArg CAL_SEL_INDEX.of hsel
    rw [State.entryIdx_cal, hsection, hindex]
  refine ⟨State.copyLive_wf hcommit [0], ?sel, ?data⟩
  case sel =>
    have hkeep : ((s.atCommit path Page.cal).copyLive path Page.cal .cal [0]).word Page.cal 0 CAL_SEL_SECTION.off =
        (s.atCommit path Page.cal).word Page.cal 0 CAL_SEL_SECTION.off := by
      rw [State.copyLive_one]
      exact State.word_eachOf_takeStaged (by decide) (by decide) (by decide) _ _ _
    exact congrArg CAL_SEL_SECTION.of (hkeep.trans hatsel)
  case data =>
    have hcopied := State.getI_eachOf_takeStaged (path := path) (page := Page.cal) (k := .cal) (l := [CAL_DATA_DATA.off])
      (sel := CAL_SEL_SECTION.off) (by decide) (by decide) (by decide) hcommit
      (fun u hu off ho => by rw [List.mem_singleton.1 ho]; exact hidx u hu) (f := CAL_DATA_DATA) (by decide) (by decide)
    have hwhole (w : Word) : CAL_DATA_DATA.of w = w.toNat := Nat.mod_eq_of_lt w.isLt
    rw [hwhole] at hcopied
    exact hcopied

theorem calCommit_spec {path : Path} {s : State} (h : s.commitsOne path Page.cal 0) :
    let sec := s.get Page.cal CAL_SEL_SECTION
    ∃ t, exec (.calCommit path) s = .next t ∧ t.committedOne Page.cal 0 ∧ t.flag Page.cal CAL_STATUS_NOR_BUSY = true ∧
      t.getI Page.cal (256 * sec + s.get Page.cal CAL_SEL_INDEX) CAL_DATA_DATA = (s.stagedWord Page.cal CAL_DATA_DATA.off).toNat ∧
      (t.get Page.cal CAL_STATUS_FACTORY).testBit (sec - 1) = false ∧
      (sec ∈ [1, 2, 3, 5] → t.flag Page.chip CHIP_STATUS_CAL_VALID = false) := by
  intro sec
  have hexec : exec (.calCommit path) s = .next
      (((s.calLive path).calCommitted [(s.calLive path).get Page.cal CAL_SEL_SECTION]).committed Page.cal .ok 0) :=
    congrArg Host.Outcome.next ((State.apply_of_commitsOne h rfl).trans (s.appliedOne_cal path))
  obtain ⟨hcan, -, -, k, hk, -, hcheck⟩ := h
  obtain rfl : k = .cal := Option.some.inj (hk.symm.trans rfl)
  obtain ⟨hlive, hsec, hdata⟩ := State.calLive_spec (State.canonical_regs hcan) path
  have hsec1 : 1 ≤ sec := by
    have hat : (s.atCommit path Page.cal).get Page.cal CAL_SEL_SECTION = sec :=
      congrArg CAL_SEL_SECTION.of (State.word_atCommit s (by decide) (by decide) (by decide) _ _)
    exact hat ▸ State.calCheck_ok hcheck
  rw [hsec] at hexec
  obtain ⟨hfactory, hbusy⟩ := State.calCommitted_status [sec] hlive
  have hdone : ((s.calLive path).calCommitted [sec]).isTouched Page.cal 0 = false := by
    rw [State.isTouched, State.calCommitted_touched]
    exact State.isTouched_untouch _ _
  have hkeep (q i : Nat) (g : Fld) (ho : g.off < 2 ^ 12) (hne : g.off ≠ COMMIT_STATUS_STATUS.off) :=
    State.getI_committed_ne (page := Page.cal) ((s.calLive path).calCommitted [sec]) .ok 0 ho hne q i
  refine ⟨_, hexec, State.committed_ok_committedOne (State.calCommitted_wf _ hlive) (by decide) hdone, ?busy, ?data, ?factory,
    fun hneed => ?valid⟩
  case busy =>
    rw [State.flag, State.get, hkeep _ _ _ (by decide) (by decide)]
    exact hbusy
  case data =>
    rw [hkeep _ _ _ (by decide) (by decide), State.getI_calCommitted_ne _ (regKey_calData_notMem _)]
    exact hdata
  case factory =>
    rw [State.get, hkeep _ _ _ (by decide) (by decide)]
    change (((s.calLive path).calCommitted [sec]).get Page.cal CAL_STATUS_FACTORY).testBit (sec - 1) = false
    rw [hfactory, Nat.testBit_mod_two_pow, testBit_factoryLeft _ hsec1 (List.mem_singleton.2 rfl), Bool.and_false]
  case valid =>
    rw [State.flag, State.get, hkeep _ _ _ (by decide) (by decide)]
    exact State.calCommitted_calValid _ hlive (List.mem_singleton.2 rfl) hneed

/-! The rewrite of the calibration page ends (R649, R650). -/

/-- The page's place in the NOR holds bytes, `n` free values are used, and the rewrite no longer runs. -/
def State.calRewritten (s : State) (n : Nat) (bs : List Byte) : State :=
  { s.set Page.cal CAL_STATUS_NOR_BUSY 0 with
    free := s.free + n
    nor := (s.nor.erase calBase calBytes).write calBase bs norFill }

/-- What a failed rewrite reports: a status that the spec leaves open. -/
def State.calWriteFailed (s : State) : State :=
  (({ s with free := s.free + 1 } : State).set Page.cal CAL_STATUS_NOR_STATUS (Config.freshWord s.free).toNat).raise Page.cal
    Ev.CAL_WRITE_FAIL

theorem exec_calWrite {s : State} (hbusy : s.flag Page.cal CAL_STATUS_NOR_BUSY = true) (ok : Bool) :
    ∃ bs : List Byte, bs.length = calBytes ∧ exec (.calWrite ok) s = .next
      (if ok then (s.calRewritten calBytes bs).setStatus Page.cal CAL_STATUS_NOR_STATUS .ok
      else (s.calRewritten calBytes bs).calWriteFailed) := by
  refine ⟨freeBytes s.free calBytes, by simp [freeBytes], ?_⟩
  change Host.Outcome.next (if _ then _ else _) = _
  rw [if_neg (by simp [hbusy])]
  rfl

theorem State.byte_nor_calRewritten {s : State} (hnor : Memory.wf norFill s.nor = true) (n : Nat) {bs : List Byte}
    (hlen : bs.length = calBytes) {a : Nat} (ha : a < calBase ∨ calBase + calBytes ≤ a) :
    (s.calRewritten n bs).nor.byte a norFill = s.nor.byte a norFill := by
  have hout : ¬ (calBase ≤ a ∧ a < calBase + calBytes) := by omega
  change ((s.nor.erase calBase calBytes).write calBase bs norFill).byte a norFill = _
  rw [Mem.byte_write _ _ _ (Mem.wf_erase _ _ hnor), hlen, Mem.byte_erase, if_neg hout, if_neg hout]

section
variable {s : State}

theorem State.calWriteFailed_nor : s.calWriteFailed.nor = s.nor := State.raise_nor _ _ _ _ _

theorem State.getI_calWriteFailed_data (k : Nat) :
    s.calWriteFailed.getI Page.cal k CAL_DATA_DATA = s.getI Page.cal k CAL_DATA_DATA :=
  (State.getI_raise_ne _ _ _ _ _ (regKey_notMem_raiseKeys (by decide) (by decide) _ _ _)).trans
    (State.getI_setI_of_off (f := CAL_STATUS_NOR_STATUS) (by decide) (by decide) (by decide) _ _ _ _ _)

theorem State.getI_calRewritten_data (n : Nat) (bs : List Byte) (k : Nat) :
    (s.calRewritten n bs).getI Page.cal k CAL_DATA_DATA = s.getI Page.cal k CAL_DATA_DATA :=
  State.getI_setI_of_off (f := CAL_STATUS_NOR_BUSY) (by decide) (by decide) (by decide) _ _ _ _ _

theorem State.get_calWriteFailed_busy (hs : RegFile.wf s.regs = true) :
    s.calWriteFailed.flag Page.cal CAL_STATUS_NOR_BUSY = s.flag Page.cal CAL_STATUS_NOR_BUSY :=
  congrArg (· != 0) ((State.get_raise_ne _ _ _ _ (by decide)).trans
    (State.get_set_disjoint (s := { s with free := s.free + 1 }) hs Page.cal CAL_STATUS_NOR_STATUS CAL_STATUS_NOR_BUSY _ rfl
      (by decide)))

end

theorem calWrite_spec {s : State} (hcan : s.canonical = true) (hbusy : s.flag Page.cal CAL_STATUS_NOR_BUSY = true) (ok : Bool) :
    ∃ t, exec (.calWrite ok) s = .next t ∧ t.flag Page.cal CAL_STATUS_NOR_BUSY = false ∧
      (ok = true → t.get Page.cal CAL_STATUS_NOR_STATUS = Status.ok.code) ∧
      (∀ k, t.getI Page.cal k CAL_DATA_DATA = s.getI Page.cal k CAL_DATA_DATA) ∧
      ∀ a, a < calBase ∨ calBase + calBytes ≤ a → t.nor.byte a norFill = s.nor.byte a norFill := by
  obtain ⟨hs, -, -, -, hnor, -⟩ := (State.canonical_iff s).1 hcan
  obtain ⟨bs, hlen, hexec⟩ := exec_calWrite hbusy ok
  have hu : RegFile.wf (s.calRewritten calBytes bs).regs = true := State.wf_set hs Page.cal CAL_STATUS_NOR_BUSY 0
  have hidle : (s.calRewritten calBytes bs).flag Page.cal CAL_STATUS_NOR_BUSY = false :=
    State.flag_set_self hs Page.cal (f := CAL_STATUS_NOR_BUSY) (by decide) rfl Nat.zero_lt_two
  have hdata := State.getI_calRewritten_data (s := s) calBytes bs
  have hbyte {a : Nat} := State.byte_nor_calRewritten hnor calBytes hlen (a := a)
  generalize s.calRewritten calBytes bs = u at hexec hu hidle hdata hbyte
  refine ⟨_, hexec, ?_⟩
  cases ok with
  | true =>
    refine ⟨?_, fun _ => State.get_setStatus_self hu _ (by decide) rfl _, fun k => ?_, fun a ha => hbyte ha⟩
    · exact (congrArg (· != 0) (State.get_set_disjoint hu Page.cal CAL_STATUS_NOR_STATUS CAL_STATUS_NOR_BUSY _ rfl
        (by decide))).trans hidle
    · exact (State.getI_setI_of_off (f := CAL_STATUS_NOR_STATUS) (by decide) (by decide) (by decide) _ _ _ _ _).trans (hdata k)
  | false =>
    exact ⟨(State.get_calWriteFailed_busy hu).trans hidle, fun h => (nomatch h),
      fun k => (State.getI_calWriteFailed_data k).trans (hdata k),
      fun a ha => (congrArg (·.byte a norFill) State.calWriteFailed_nor).trans (hbyte ha)⟩

/-! A re-derivation (R651). -/

/-- A port that CAL_DERIVE names and that is in use. -/
def State.derivesUsed (s : State) (w : Word) : Prop :=
  ∃ p : PortId, (CAL_DERIVE_PORTS.of w).testBit p.1 = true ∧ (s.port p).st ≠ .down ∧ (s.port p).st ≠ .failed

theorem State.any_used_iff (s : State) (w : Word) : (allPorts.any fun p =>
    (CAL_DERIVE_PORTS.of w).testBit p.1 && !((s.port p).st == .down || (s.port p).st == .failed)) = true ↔ s.derivesUsed w := by
  have hall : ∀ p : PortId, p ∈ allPorts := by decide
  simp [State.derivesUsed, hall]

theorem State.deriveStart_spec {s : State} (hs : RegFile.wf s.regs = true) {val : Word} (hstart : CAL_DERIVE_START.of val = 1) :
    let t := s.deriveStart val
    (s.derivesUsed val ∨ s.deriving? = true →
        t.get Page.cal CAL_DERIVE_STATUS_STATUS = Status.busy.code ∧ t.deriving? = s.deriving?) ∧
      (¬ s.derivesUsed val → s.deriving? = false → t.word Page.cal 0 CAL_DERIVE_START.off = val ∧ t.deriving? = true) := by
  intro t
  let used : Bool := allPorts.any fun p =>
    (CAL_DERIVE_PORTS.of val).testBit p.1 && !((s.port p).st == .down || (s.port p).st == .failed)
  have hused : used = true ↔ s.derivesUsed val := s.any_used_iff val
  have ht : t = if used || s.deriving? then s.deriveDone .busy else s.setWord Page.cal 0 CAL_DERIVE_START.off val :=
    if_neg (by simp [hstart])
  refine ⟨fun h => ?busy, fun hno hidle => ?runs⟩
  case busy =>
    rw [ht, if_pos (by rwa [Bool.or_eq_true, hused])]
    exact ⟨State.get_setStatus_self hs _ (by decide) rfl _, congrArg (· != 0) (State.get_setStatus_ne _ _ _ (by decide))⟩
  case runs =>
    have hfree : ¬ (used || s.deriving?) = true := by simp [hused, hno, hidle]
    have hword : (s.setWord Page.cal 0 CAL_DERIVE_START.off val).word Page.cal 0 CAL_DERIVE_START.off = val := by
      rw [State.word_setWord hs, if_pos rfl]
    rw [ht, if_neg hfree]
    refine ⟨hword, ?_⟩
    rw [State.deriving?, State.flag, State.get, State.getI, hword, hstart]
    rfl

theorem calDerive_spec {path : Path} {val : Word} {s : State} (hs : RegFile.wf s.regs = true)
    (h : s.takesWrite path Page.cal CAL_DERIVE_START.off) (hstart : CAL_DERIVE_START.of val = 1) :
    ∃ t, exec (.calDerive path val) s = .next t ∧
      (s.derivesUsed val ∨ s.deriving? = true →
        t.get Page.cal CAL_DERIVE_STATUS_STATUS = Status.busy.code ∧ t.deriving? = s.deriving?) ∧
      (¬ s.derivesUsed val → s.deriving? = false → t.word Page.cal 0 CAL_DERIVE_START.off = val ∧ t.deriving? = true) := by
  have hspec := State.deriveStart_spec (State.lastPath_wf hs Page.cal path) hstart
  have hderiving : (s.lastPath Page.cal path).deriving? = s.deriving? :=
    congrArg (· != 0) (State.get_lastPath_ne Page.cal path (by decide))
  rw [hderiving] at hspec
  exact ⟨(s.lastPath Page.cal path).deriveStart val, congrArg Host.Outcome.next (State.writeReg_of_takesWrite h _), hspec⟩

/-- The preset found for a port, if one was. -/
def foundPreset (res : Derived) (p : Nat) : Option (BitVec 8) := (assocGet res.presets p).getD none

/-- The ports and the lamps that a request names. -/
def derivedPorts (w : Word) : List Nat := (List.range 12).filter fun p => (CAL_DERIVE_PORTS.of w).testBit p
def derivedLamps (w : Word) : List Nat := (List.range 2).filter fun l => (CAL_DERIVE_LAMPS.of w).testBit l

/-- The items that a re-derivation commits, by index. -/
def foundItems (res : Derived) (w : Word) : List (Nat × Nat) :=
  (derivedPorts w).filterMap (fun p => (foundPreset res p).map fun x => (256 * 4 + p, x.toNat)) ++
    (derivedLamps w).filterMap (fun l => (assocGet res.trims l).map fun x => (256 * 6 + l, x.toNat))

/-- The ports for which it found no preset. -/
def presetless (res : Derived) (w : Word) : List Nat := (derivedPorts w).filter fun p => (foundPreset res p).isNone

theorem mem_derivedPorts {w : Word} {p : Nat} : p ∈ derivedPorts w ↔ p < 12 ∧ (CAL_DERIVE_PORTS.of w).testBit p = true := by
  rw [derivedPorts, List.mem_filter, List.mem_range]

/-- The item of a port is its preset. -/
theorem mem_foundItems_port {res : Derived} {w : Word} {p v : Nat} (hp : p < 12) : (1024 + p, v) ∈ foundItems res w ↔
    (CAL_DERIVE_PORTS.of w).testBit p = true ∧ ∃ x, foundPreset res p = some x ∧ v = x.toNat := by
  rw [foundItems, List.mem_append, List.mem_filterMap, List.mem_filterMap]
  constructor
  · rintro (⟨q, hq, hitem⟩ | ⟨l, hl, hitem⟩)
    · obtain ⟨x, hx, he⟩ := Option.map_eq_some_iff.1 hitem
      obtain ⟨hqp, rfl⟩ := Prod.mk.inj he
      obtain rfl : q = p := by omega
      exact ⟨(mem_derivedPorts.1 hq).2, x, hx, rfl⟩
    · obtain ⟨x, -, he⟩ := Option.map_eq_some_iff.1 hitem
      have := (Prod.mk.inj he).1
      omega
  · rintro ⟨hbit, x, hx, rfl⟩
    exact .inl ⟨p, mem_derivedPorts.2 ⟨hp, hbit⟩, by rw [hx]; rfl⟩

theorem testBit_presetless (res : Derived) (w : Word) (p : Nat) :
    ((presetless res w).map fun n => 2 ^ n).sum.testBit p = true ↔ p ∈ presetless res w := by
  have hfilter : presetless res w =
      (List.range 12).filter fun p => (foundPreset res p).isNone && (CAL_DERIVE_PORTS.of w).testBit p := by
    rw [presetless, derivedPorts, List.filter_filter]
  have hbit := testBit_sumBits (fun p => (foundPreset res p).isNone && (CAL_DERIVE_PORTS.of w).testBit p) 12 p
  rw [sumBits, ← hfilter] at hbit
  rw [hbit, hfilter, List.mem_filter, List.mem_range, Bool.and_eq_true, decide_eq_true_iff]

/-- Items of the calibration set take values. -/
def State.putItems (s : State) (items : List (Nat × Nat)) : State :=
  eachOf items (fun x s => s.setI Page.cal x.1 CAL_DATA_DATA x.2) s

section
variable {s : State} {items : List (Nat × Nat)}

theorem State.putItems_wf (hs : RegFile.wf s.regs = true) : RegFile.wf (s.putItems items).regs = true := by
  induction items generalizing s with
  | nil => exact hs
  | cons x r ih => exact ih (State.wf_setI hs _ _ _ _)

theorem State.getI_putItems_of_off {g : Fld} (ho : g.off < 2 ^ 12) (hne : g.off ≠ CAL_DATA_DATA.off) (q i : Nat) :
    (s.putItems items).getI q i g = s.getI q i g := by
  induction items generalizing s with
  | nil => rfl
  | cons x r ih => exact ih.trans (State.getI_setI_of_off (by decide) ho hne _ _ _ _ _)

/-- An item that is not named reads as before. -/
theorem State.getI_putItems_ne {k : Nat} (hk : ∀ v, (k, v) ∉ items) :
    (s.putItems items).getI Page.cal k CAL_DATA_DATA = s.getI Page.cal k CAL_DATA_DATA := by
  induction items generalizing s with
  | nil => rfl
  | cons x r ih =>
    have hx : k ≠ x.1 := fun e => hk x.2 (by simp [e])
    have hkey : regKey Page.cal k CAL_DATA_DATA.off ≠ regKey Page.cal x.1 CAL_DATA_DATA.off := by
      unfold regKey
      omega
    exact (ih fun v hv => hk v (.tail _ hv)).trans (State.getI_setI_ne _ _ _ _ _ _ _ hkey)

/-- An item that is named with one value takes it. -/
theorem State.getI_putItems (hs : RegFile.wf s.regs = true) {k v : Nat} (hmem : (k, v) ∈ items)
    (hone : ∀ y, (k, y) ∈ items → y = v) (hv : v < 2 ^ 32) : (s.putItems items).getI Page.cal k CAL_DATA_DATA = v := by
  induction items generalizing s with
  | nil => exact absurd hmem List.not_mem_nil
  | cons x r ih =>
    by_cases hr : ∃ y, (k, y) ∈ r
    · obtain ⟨y, hy⟩ := hr
      obtain rfl := hone y (.tail _ hy)
      exact ih (State.wf_setI hs _ _ _ _) hy fun z hz => hone z (.tail _ hz)
    · obtain rfl : x = (k, v) := ((List.mem_cons.1 hmem).resolve_right fun h => hr ⟨v, h⟩).symm
      exact (State.getI_putItems_ne fun y hy => hr ⟨y, hy⟩).trans
        ((State.getI_setI_self hs Page.cal k CAL_DATA_DATA v (by decide)).trans (Nat.mod_eq_of_lt hv))

end

/-- The request has ended, and the ports without a preset are reported. -/
def State.deriveEnded (s : State) (failed : List Nat) : State :=
  (s.setWord Page.cal 0 CAL_DERIVE_START.off 0).set Page.cal CAL_DERIVE_STATUS_FAILED (failed.map fun n => 2 ^ n).sum

/-- The items found are committed as one COMMIT, if there are any. -/
def State.deriveStored (s : State) (items : List (Nat × Nat)) : State :=
  if items.isEmpty then s else (s.putItems items).calCommitted (items.map fun x => x.1 / 256)

theorem State.getI_deriveEnded_ne {s : State} {failed : List Nat} {g : Fld} (ho : g.off < 2 ^ 12)
    (h1 : g.off ≠ CAL_DERIVE_START.off) (h2 : g.off ≠ CAL_DERIVE_STATUS_FAILED.off) (q i : Nat) :
    (s.deriveEnded failed).getI q i g = s.getI q i g :=
  (State.getI_setI_of_off (f := CAL_DERIVE_STATUS_FAILED) (by decide) ho h2 _ _ _ _ _).trans
    (congrArg g.of (Sparse.get_put_ne _ _ _ _ (regKey_ne_of_off ho (by decide) h1)))

/-- With the NOR free, the end of a request stores what it found, and answers by the ports without a preset. -/
theorem exec_deriveDone {s : State} (hrun : s.deriving? = true) (hidle : s.flag Page.cal CAL_STATUS_NOR_BUSY = false)
    (res : Derived) {w : Word} (hw : s.word Page.cal 0 CAL_DERIVE_START.off = w) :
    exec (.deriveDone res) s = .next ((((s.deriveEnded (presetless res w)).deriveStored (foundItems res w)).deriveDone
      (if (presetless res w).isEmpty then .ok else .notReady)).raise Page.cal Ev.DERIVE_DONE) := by
  subst hw
  let items := foundItems res (s.word Page.cal 0 CAL_DERIVE_START.off)
  let failed := presetless res (s.word Page.cal 0 CAL_DERIVE_START.off)
  let u := s.deriveEnded failed
  let st : Status := if failed.isEmpty then .ok else .notReady
  have hidle' : u.flag Page.cal CAL_STATUS_NOR_BUSY = false :=
    (congrArg (· != 0) (State.getI_deriveEnded_ne (by decide) (by decide) (by decide) _ _)).trans hidle
  have hexec : exec (.deriveDone res) s = .next ((if items.isEmpty then u.deriveDone st
      else if u.flag Page.cal CAL_STATUS_NOR_BUSY then u.deriveDone .busy
      else ((u.putItems items).calCommitted (items.map fun x => x.1 / 256)).deriveDone st).raise Page.cal Ev.DERIVE_DONE) :=
    congrArg Host.Outcome.next (if_neg (by simp [hrun]))
  rw [hexec, hidle', State.deriveStored]
  split <;> rfl

section
variable {s : State} (hs : RegFile.wf s.regs = true)

theorem State.getI_deriveStored_ne {items : List (Nat × Nat)} {g : Fld} (hk : regKey Page.cal 0 g.off ∉ calKeysWritten)
    (ho : g.off < 2 ^ 12) (hne : g.off ≠ CAL_DATA_DATA.off) : (s.deriveStored items).get Page.cal g = s.get Page.cal g := by
  unfold State.deriveStored
  split
  · rfl
  · exact (State.getI_calCommitted_ne _ hk).trans (State.getI_putItems_of_off ho hne _ _)

theorem State.getI_deriveStored_data (items : List (Nat × Nat)) (k : Nat) :
    (s.deriveStored items).getI Page.cal k CAL_DATA_DATA = (s.putItems items).getI Page.cal k CAL_DATA_DATA := by
  unfold State.deriveStored
  split
  next h =>
    obtain rfl := List.isEmpty_iff.1 h
    rfl
  next => exact State.getI_calCommitted_ne _ (regKey_calData_notMem k)

include hs

theorem State.deriveEnded_wf (failed : List Nat) : RegFile.wf (s.deriveEnded failed).regs = true :=
  State.wf_set (State.wf_setWord hs _ _ _ _) _ _ _

theorem State.deriveEnded_idle (failed : List Nat) : (s.deriveEnded failed).deriving? = false := by
  have hword : (s.deriveEnded failed).word Page.cal 0 CAL_DERIVE_START.off = 0 :=
    (State.word_setI_of_off (f := CAL_DERIVE_STATUS_FAILED) (by decide) (by decide) (by decide) _ _ _ _ _).trans
      ((State.word_setWord hs _ _ _ _ _ _ _).trans (if_pos rfl))
  rw [State.deriving?, State.flag, State.get, State.getI, hword]
  rfl

theorem State.deriveEnded_failed {res : Derived} {w : Word} {p : Nat} (hp : p < 12) (hmem : p ∈ presetless res w) :
    ((s.deriveEnded (presetless res w)).get Page.cal CAL_DERIVE_STATUS_FAILED).testBit p = true := by
  have hget : (s.deriveEnded (presetless res w)).get Page.cal CAL_DERIVE_STATUS_FAILED =
      ((presetless res w).map fun n => 2 ^ n).sum % 2 ^ 12 := State.get_set_self (State.wf_setWord hs _ _ _ _) _ _ _ (by decide)
  rw [hget, Nat.testBit_mod_two_pow, (testBit_presetless res w p).2 hmem]
  simp [hp]

theorem State.deriveStored_wf (items : List (Nat × Nat)) : RegFile.wf (s.deriveStored items).regs = true := by
  unfold State.deriveStored
  split
  · exact hs
  · exact State.calCommitted_wf _ (State.putItems_wf hs)

end

/-- What the answer to a re-derivation leaves. -/
theorem State.getI_deriveDone_ne {s : State} (st : Status) {g : Fld} (ho : g.off < 2 ^ 12)
    (hne : g.off ≠ CAL_DERIVE_STATUS_STATUS.off) {i : Nat} (hk : regKey Page.cal i g.off ∉ raiseKeys Page.cal) :
    ((s.deriveDone st).raise Page.cal Ev.DERIVE_DONE).getI Page.cal i g = s.getI Page.cal i g :=
  (State.getI_raise_ne _ _ _ _ _ hk).trans
    (State.getI_setI_of_off (f := CAL_DERIVE_STATUS_STATUS) (by decide) ho hne _ _ _ _ _)

theorem deriveDone_spec {s : State} (hs : RegFile.wf s.regs = true) (hrun : s.deriving? = true)
    (hidle : s.flag Page.cal CAL_STATUS_NOR_BUSY = false) (res : Derived) :
    ∃ t, exec (.deriveDone res) s = .next t ∧ t.deriving? = false ∧
      ∀ p : PortId, (CAL_DERIVE_PORTS.of (s.word Page.cal 0 CAL_DERIVE_START.off)).testBit p.1 = true →
        (∀ x, foundPreset res p.1 = some x → t.getI Page.cal (1024 + p.1) CAL_DATA_DATA = x.toNat) ∧
        (foundPreset res p.1 = none →
          t.getI Page.cal (1024 + p.1) CAL_DATA_DATA = s.getI Page.cal (1024 + p.1) CAL_DATA_DATA ∧
          (t.get Page.cal CAL_DERIVE_STATUS_FAILED).testBit p.1 = true) := by
  have hexec := exec_deriveDone hrun hidle res rfl
  generalize s.word Page.cal 0 CAL_DERIVE_START.off = w at hexec ⊢
  have hended := State.deriveEnded_wf hs (presetless res w)
  have hstored := State.deriveStored_wf hended (foundItems res w)
  let u := s.deriveEnded (presetless res w)
  let t := ((u.deriveStored (foundItems res w)).deriveDone (if (presetless res w).isEmpty then .ok else .notReady)).raise Page.cal
    Ev.DERIVE_DONE
  have hdata (k : Nat) : t.getI Page.cal k CAL_DATA_DATA = (u.putItems (foundItems res w)).getI Page.cal k CAL_DATA_DATA :=
    (State.getI_deriveDone_ne _ (by decide) (by decide) (regKey_notMem_raiseKeys (by decide) (by decide) _ _ _)).trans
      (State.getI_deriveStored_data _ _)
  refine ⟨t, hexec, ?idle, fun p hp => ⟨fun x hx => ?found, fun hno => ⟨?kept, ?failed⟩⟩⟩
  case idle =>
    have hstart : t.get Page.cal CAL_DERIVE_START = u.get Page.cal CAL_DERIVE_START :=
      (State.getI_deriveDone_ne _ (by decide) (by decide) (by decide)).trans
        (State.getI_deriveStored_ne (by decide) (by decide) (by decide))
    exact (congrArg (· != 0) hstart).trans (State.deriveEnded_idle hs _)
  case found =>
    rw [hdata]
    refine State.getI_putItems hended ((mem_foundItems_port p.2).2 ⟨hp, x, hx, rfl⟩) (fun y hy => ?_)
      (Nat.lt_trans x.isLt (by decide))
    obtain ⟨-, z, hz, rfl⟩ := (mem_foundItems_port p.2).1 hy
    rw [Option.some.inj (hz.symm.trans hx)]
  case kept =>
    rw [hdata, State.getI_putItems_ne fun v hv => ?_]
    · exact State.getI_deriveEnded_ne (by decide) (by decide) (by decide) _ _
    · obtain ⟨-, z, hz, -⟩ := (mem_foundItems_port p.2).1 hv
      exact nomatch hno.symm.trans hz
  case failed =>
    have hfield : t.get Page.cal CAL_DERIVE_STATUS_FAILED = u.get Page.cal CAL_DERIVE_STATUS_FAILED :=
      calc t.get Page.cal CAL_DERIVE_STATUS_FAILED
          = ((u.deriveStored (foundItems res w)).deriveDone (if (presetless res w).isEmpty then .ok else .notReady)).get Page.cal
              CAL_DERIVE_STATUS_FAILED := State.get_raise_ne _ _ _ _ (by decide)
        _ = (u.deriveStored (foundItems res w)).get Page.cal CAL_DERIVE_STATUS_FAILED :=
            State.get_set_disjoint hstored Page.cal CAL_DERIVE_STATUS_STATUS CAL_DERIVE_STATUS_FAILED _ rfl (by decide)
        _ = u.get Page.cal CAL_DERIVE_STATUS_FAILED := State.getI_deriveStored_ne (by decide) (by decide) (by decide)
    rw [hfield]
    refine State.deriveEnded_failed hs p.2 (List.mem_filter.2 ⟨mem_derivedPorts.2 ⟨p.2, hp⟩, ?_⟩)
    rw [hno]
    rfl

/-! Lamps (R655, R656, R659). -/

/-- Whether the staged configuration of a lamp is one that a COMMIT refuses (R659). -/
def State.lampWrong (s : State) (n : Nat) : Prop :=
  let w := s.stagedWord Page.lamp (0x040 + 4 * n)
  (1 ≤ LAMP_CFG_DUTY.of w ∧ LAMP_CFG_DUTY.of w ≤ 3) ∨ 1000 < LAMP_CFG_DUTY.of w ∨ LAMP_CFG_MODE.of w = 3

/-- The check of a COMMIT of the lamps. -/
theorem State.checkGroup_lamp (s : State) (path : Path) :
    (s.lampWrong 0 ∨ s.lampWrong 1 → s.checkGroup path Page.lamp .lamp 0 = .param) ∧
      (¬ s.lampWrong 0 → ¬ s.lampWrong 1 → s.checkGroup path Page.lamp .lamp 0 = .ok) := by
  let bad (n : Nat) : Bool :=
    let d := LAMP_CFG_DUTY.of (s.stagedWord Page.lamp (0x040 + 4 * n))
    (decide (0 < d) && decide (d < 4)) || decide (1000 < d) || LAMP_CFG_MODE.of (s.stagedWord Page.lamp (0x040 + 4 * n)) == 3
  have hcheck : s.checkGroup path Page.lamp .lamp 0 = if bad 0 || bad 1 then .param else .ok := rfl
  have hbad (n : Nat) : bad n = true ↔ s.lampWrong n := by
    simp only [bad, State.lampWrong, Bool.or_eq_true, Bool.and_eq_true, decide_eq_true_eq, beq_iff_eq]
    omega
  rw [hcheck]
  refine ⟨fun h => if_pos ?_, fun h0 h1 => if_neg ?_⟩
  · rwa [Bool.or_eq_true, hbad, hbad]
  · rw [Bool.or_eq_true, hbad, hbad, not_or]
    exact ⟨h0, h1⟩

/-- A COMMIT.APPLY that reaches a READY page checks the groups that it finds touched. -/
theorem State.apply_eq_commitApply {s : State} {path : Path} {page : Nat} {k : Kind} {g : Nat}
    (hs : RegFile.wf s.regs = true) (htakes : s.takesWrite path page COMMIT_APPLY.off)
    (hready : s.flag page PAGE_STATUS_READY = true) (hk : kindOf page = some k)
    (hgroups : ((pathGroups k path).filter fun x => s.isTouched page x) = [g]) :
    s.apply path page = (s.atCommit path page).commitApply path page k [g] := by
  have hgroups' : ((pathGroups k path).filter fun x => (s.atCommit path page).isTouched page x) = [g] := hgroups
  have hready' : ¬ (s.atCommit path page).flag page PAGE_STATUS_READY = false := by
    rw [State.ready_atCommit hs, hready]
    decide
  unfold State.apply State.put State.registerWrite
  rw [State.writeAccess_of_takesWrite htakes, hk, ← hgroups']
  exact if_neg hready'

/-- A group that fails its check has that status reported, and nothing is applied (R520). -/
theorem State.commitApply_of_refused {s : State} {path : Path} {page : Nat} {k : Kind} {g : Nat} {st : Status}
    (hcheck : s.checkGroup path page k g = st) (hst : st ≠ .ok) :
    s.commitApply path page k [g] = s.committed page st g := by
  unfold State.commitApply
  simp [hcheck, hst]

/-- What a COMMIT that is refused leaves: its status, and the registers of its page. -/
theorem State.committed_refused {s : State} (hs : RegFile.wf s.regs = true) (path : Path) (page : Nat) (st : Status) (g : Nat) :
    ((s.atCommit path page).committed page st g).get page COMMIT_STATUS_STATUS = st.code ∧
      samePage s ((s.atCommit path page).committed page st g) page := by
  have hat := State.atCommit_wf (path := path) (page := page) hs
  refine ⟨?_, fun idx off _ hlow hhigh => ?_⟩
  · exact (State.get_set_disjoint (State.wf_set hat _ _ _) page COMMIT_STATUS_GROUP COMMIT_STATUS_STATUS g rfl (by decide)).trans
      (State.get_setStatus_self hat page (by decide) rfl st)
  · have hne (f : Fld) (hf : f.off < 0x040) : off ≠ f.off := by omega
    have h12 : off < 2 ^ 12 := hhigh
    calc ((s.atCommit path page).committed page st g).word page idx off
        = ((s.atCommit path page).setStatus page COMMIT_STATUS_STATUS st).word page idx off :=
          State.word_setI_of_off (f := COMMIT_STATUS_GROUP) (by decide) h12 (hne _ (by decide)) _ _ _ _ _
      _ = (s.atCommit path page).word page idx off :=
          State.word_setI_of_off (f := COMMIT_STATUS_STATUS) (by decide) h12 (hne _ (by decide)) _ _ _ _ _
      _ = s.word page idx off := State.word_atCommit s h12 (hne _ (by decide)) (hne _ (by decide)) _ _

/-- The lamps' group is the one that a COMMIT finds touched. -/
theorem State.lamp_groups {s : State} (htouched : s.isTouched Page.lamp 0 = true) (path : Path) :
    ((pathGroups .lamp path).filter fun x => s.isTouched Page.lamp x) = [0] := by
  have hall : pathGroups .lamp path = [0] := by cases path <;> rfl
  rw [hall, List.filter_cons_of_pos htouched, List.filter_nil]

/-- What an accepted COMMIT of the lamps leaves: the live copies, and the report. -/
theorem State.appliedOne_lamp (s : State) (path : Path) : s.appliedOne path Page.lamp .lamp 0 =
    (((s.atCommit path Page.lamp).copyLive path Page.lamp .lamp [0]).untouch Page.lamp .lamp [0]).committed Page.lamp .ok 0 :=
  rfl

/-- The registers of the lamps. -/
def lampOffs : List Nat := groupOffs (Kind.lamp.groups.getD 0 (0, 0))

theorem State.getI_copyLive_lamp {s : State} (hs : RegFile.wf s.regs = true) (path : Path) {f : Fld}
    (hf : f.off ∈ lampOffs) (hm : f.mask &&& rwsMask .lamp f.off = f.mask) :
    (s.copyLive path Page.lamp .lamp [0]).get Page.lamp f = f.of (s.stagedWord Page.lamp f.off) := by
  rw [State.copyLive_one]
  exact State.getI_eachOf_takeStaged (sel := LAMP_CTRL_AUTO.off) (by decide) (by decide) (by decide) hs
    (fun _ _ _ _ => rfl) hf hm

theorem lampCommit_refused {path : Path} {s : State} (hs : RegFile.wf s.regs = true)
    (htakes : s.takesWrite path Page.lamp COMMIT_APPLY.off) (hready : s.flag Page.lamp PAGE_STATUS_READY = true)
    (htouched : s.isTouched Page.lamp 0 = true) (hwrong : s.lampWrong 0 ∨ s.lampWrong 1) :
    ∃ t, exec (.lampCommit path) s = .next t ∧ t.get Page.lamp COMMIT_STATUS_STATUS = Status.param.code ∧
      samePage s t Page.lamp :=
  ⟨(s.atCommit path Page.lamp).committed Page.lamp .param 0,
    congrArg Host.Outcome.next ((State.apply_eq_commitApply hs htakes hready rfl (State.lamp_groups htouched path)).trans
      (State.commitApply_of_refused (((s.atCommit path Page.lamp).checkGroup_lamp path).1 hwrong) (by decide))),
    State.committed_refused hs path Page.lamp .param 0⟩

theorem lampCommit_accepted {path : Path} {s : State} (hcan : s.canonical = true)
    (htakes : s.takesWrite path Page.lamp COMMIT_APPLY.off) (hready : s.flag Page.lamp PAGE_STATUS_READY = true)
    (htouched : s.isTouched Page.lamp 0 = true) (h0 : ¬ s.lampWrong 0) (h1 : ¬ s.lampWrong 1) :
    ∃ t, exec (.lampCommit path) s = .next t ∧ t.committedOne Page.lamp 0 ∧ ∀ n, n < 2 →
      t.get Page.lamp (LAMP_CFG_DUTY.nth n) = LAMP_CFG_DUTY.of (s.stagedWord Page.lamp (0x040 + 4 * n)) ∧
      t.get Page.lamp (LAMP_CFG_MODE.nth n) = LAMP_CFG_MODE.of (s.stagedWord Page.lamp (0x040 + 4 * n)) := by
  have hcommits : s.commitsOne path Page.lamp 0 :=
    ⟨hcan, htakes, hready, .lamp, rfl, State.lamp_groups htouched path,
      ((s.atCommit path Page.lamp).checkGroup_lamp path).2 h0 h1⟩
  have hat : RegFile.wf (s.atCommit path Page.lamp).regs = true := State.atCommit_wf (State.canonical_regs hcan)
  let u := ((s.atCommit path Page.lamp).copyLive path Page.lamp .lamp [0]).untouch Page.lamp .lamp [0]
  have hlive : RegFile.wf u.regs = true := State.copyLive_wf hat [0]
  refine ⟨_, congrArg Host.Outcome.next ((State.apply_of_commitsOne hcommits rfl).trans (s.appliedOne_lamp path)),
    State.committed_ok_committedOne hlive (by decide) (State.isTouched_untouch _ _), fun n hn => ?_⟩
  have hfield (f : Fld) (hf : f.off ∈ lampOffs) (hm : f.mask &&& rwsMask .lamp f.off = f.mask) :
      (u.committed Page.lamp .ok 0).get Page.lamp f = f.of (s.stagedWord Page.lamp f.off) := by
    have hrange : ∀ off ∈ lampOffs, off < 2 ^ 12 ∧ off ≠ COMMIT_STATUS_STATUS.off := by decide
    obtain ⟨h12, hne⟩ := hrange f.off hf
    exact (State.getI_committed_ne _ _ _ h12 hne _ _).trans (State.getI_copyLive_lamp hat path hf hm)
  have hstaged : ∀ n < 2, ∀ f ∈ [LAMP_CFG_DUTY.nth n, LAMP_CFG_MODE.nth n],
      f.off ∈ lampOffs ∧ f.mask &&& rwsMask .lamp f.off = f.mask := by decide
  have hread (f : Fld) (hf : f ∈ [LAMP_CFG_DUTY.nth n, LAMP_CFG_MODE.nth n]) :=
    hfield f (hstaged n hn f hf).1 (hstaged n hn f hf).2
  exact ⟨hread _ (.head _), hread _ (.tail _ (.head _))⟩

/-- The duty that drives a lamp: LAMP0 may be forced on (R657). -/
def State.lampDuty (s : State) (n : Fin 2) : Nat :=
  if n = 0 ∧ s.lampForced = true then 1000 else s.get Page.lamp (LAMP_CFG_DUTY.nth n.1)

/-- A lamp that is measured has a duty, one long enough unless it is stretched (R656). -/
theorem State.lampState_eq (s : State) (n : Fin 2) : s.lampState n =
    if s.lampDuty n = 0 then 0
    else if s.lampDuty n < 30 ∧ s.flag Page.lamp LAMP_CTRL_STRETCH_EN = false then 4
    else if s.mgmt.lampBad[n] ≠ 0 then s.mgmt.lampBad[n] else 1 := rfl

/-- A lamp that is measured shows the fault found in it. -/
theorem State.lampState_of_bad {s t : State} {n : Fin 2} (hduty : t.lampDuty n = s.lampDuty n)
    (hstretch : t.flag Page.lamp LAMP_CTRL_STRETCH_EN = s.flag Page.lamp LAMP_CTRL_STRETCH_EN)
    (hoff : s.lampState n ≠ 0) (hmeas : s.lampState n ≠ 4) (hbad : t.mgmt.lampBad[n] ≠ 0) :
    t.lampState n = t.mgmt.lampBad[n] := by
  have hlit : ¬ s.lampDuty n = 0 := fun h => hoff (by rw [State.lampState_eq, if_pos h])
  have hlong : ¬ (s.lampDuty n < 30 ∧ s.flag Page.lamp LAMP_CTRL_STRETCH_EN = false) := fun h =>
    hmeas (by rw [State.lampState_eq, if_neg hlit, if_pos h])
  rw [State.lampState_eq, hduty, hstretch, if_neg hlit, if_neg hlong, if_pos hbad]

/-- An event that is not FATAL leaves what drives the lamps. -/
theorem State.lampDuty_raise (s : State) (page : Nat) (e : Ev) (org : BitVec 16) (args : List Word) (he : e.sev ≠ 5)
    (n : Fin 2) : (s.raise page e org args).lampDuty n = s.lampDuty n := by
  have hoff : ∀ n : Fin 2, (LAMP_CFG_DUTY.nth n.1).off = 0x040 ∨ (LAMP_CFG_DUTY.nth n.1).off = 0x044 := by decide
  have hduty : (s.raise page e org args).get Page.lamp (LAMP_CFG_DUTY.nth n.1) = s.get Page.lamp (LAMP_CFG_DUTY.nth n.1) :=
    State.get_raise_ne _ _ _ _ (by
      rcases hoff n with h | h <;> exact h ▸ regKey_notMem_raiseKeys (by decide) (by decide) _ _ _)
  have hauto : (s.raise page e org args).flag Page.lamp LAMP_CTRL_AUTO = s.flag Page.lamp LAMP_CTRL_AUTO :=
    State.flag_raise_ne _ _ _ _ _ (regKey_notMem_raiseKeys (by decide) (by decide) _ _ _)
  have hfatal : (s.raise page e org args).flag Page.chip CHIP_STATUS_FATAL_SEEN = s.flag Page.chip CHIP_STATUS_FATAL_SEEN :=
    congrArg (· != 0) (State.get_raise_chipStatus s page e org args he rfl)
  rw [State.lampDuty, State.lampForced, hduty, hauto, hfatal, State.raise_pins, State.lampDuty, State.lampForced]

theorem lampFault_spec {s : State} {lamp : Fin 2} (short : Bool) (hreset : s.inReset Page.lamp = false)
    (hoff : s.lampState lamp ≠ 0) (hmeas : s.lampState lamp ≠ 4) :
    ∃ t, exec (.lampFault lamp short) s = .next t ∧ t.lampState lamp = (if short then 3 else 2) ∧
      ∀ n, n ≠ lamp → t.mgmt.lampBad[n] = s.mgmt.lampBad[n] := by
  let found := if short then 3 else 2
  let u := s.updMgmt fun m => { m with lampBad := m.lampBad.set lamp found }
  let t := u.raise Page.lamp Ev.LAMP_FAULT byBlock (arg lamp.1 ++ arg found)
  have hexec : exec (.lampFault lamp short) s = .next t :=
    congrArg Host.Outcome.next (if_neg (by simp [hreset, hoff, hmeas]))
  have hmgmt : t.mgmt = { s.mgmt with lampBad := s.mgmt.lampBad.set lamp found } := State.raise_mgmt _ _ _ _ _
  have hfound : t.mgmt.lampBad[lamp] = found := by simp [hmgmt]
  have hbad : t.mgmt.lampBad[lamp] ≠ 0 := by
    rw [hfound]
    cases short <;> decide
  refine ⟨t, hexec, ?measured, fun n hn => ?other⟩
  case measured =>
    have hduty : t.lampDuty lamp = s.lampDuty lamp := u.lampDuty_raise _ _ _ _ (by decide) lamp
    exact (State.lampState_of_bad hduty (State.flag_raise_ne _ _ _ _ _ (by decide)) hoff hmeas hbad).trans hfound
  case other =>
    have hval : n.1 ≠ lamp.1 := fun e => hn (Fin.ext e)
    rw [hmgmt]
    simp [Vector.getElem_set_ne _ _ hval.symm]

/-! The statement. -/

/-- Settles O57: each action of the access, calibration and lamp pages from its lemma above; where a statement writes a helper's
body out, the two agree by definition. -/
theorem accessCalibrationAndLamps : Obligations.AccessCalibrationAndLamps := by
  unfold Obligations.AccessCalibrationAndLamps
  intro path raw ok short val res lamp s hcan pa pc pl level fails locked kept opens
  have hs := State.canonical_regs hcan
  refine ⟨openPw_spec hs, chal_spec raw hs, ?resp, rfl, close_spec hs, calCommit_spec, fun hbusy => calWrite_spec hcan hbusy ok,
    calDerive_spec hs, fun hrun hidle => deriveDone_spec hs hrun hidle res, ?lamps, lampFault_spec short⟩
  case resp => exact resp_spec hs
  case lamps =>
    intro htakes hready htouched duty mode wrong
    by_cases hwrong : s.lampWrong 0 ∨ s.lampWrong 1
    · obtain ⟨t, hexec, hrefused⟩ := lampCommit_refused hs htakes hready htouched hwrong
      exact ⟨t, hexec, fun _ => hrefused, fun h0 h1 => absurd hwrong (not_or.2 ⟨h0, h1⟩)⟩
    · obtain ⟨h0, h1⟩ := not_or.1 hwrong
      obtain ⟨t, hexec, haccepted⟩ := lampCommit_accepted hcan htakes hready htouched h0 h1
      exact ⟨t, hexec, fun h => absurd h hwrong, fun _ _ => haccepted⟩

end Sys2Proof.Machine
end
